-- ==== Sys2Proof/Word.lean ====
section
/-! DEFINITION. The plain carriers every other file uses: bytes, finite tables, sets of small numbers,
references to alarm entries and mill time. Only the types stand here; the operations over them are in
Machine/Ops.lean. -/

namespace Sys2Proof

/-- One byte of a frame. -/
abbrev Byte := BitVec 8

/-- A hardware address of Port A (R2 field 2, R182 "Link address"). -/
abbrev LinkAddr := BitVec 48

/-- A finite table: pairs of an index and what stands there, the indexes strictly rising. An index that is
not listed is absent, or reads as the default that the reader of the table names. -/
abbrev Tbl (α : Type) := List (Nat × α)

/-- A set of small numbers (areas, stations): its members strictly rising, so that equal sets are equal data. -/
abbrev NSet := List Nat

/-- A character field (R1): the characters as given, one byte each. -/
abbrev Text := List Byte

/-- An alarm reference (R42): an entry number and a generation. -/
structure Ref where
  num : Nat
  gen : Nat
  deriving DecidableEq, Repr

/-- Mill time (R187): a day number 0 to 65535 and a second of day 0 to 86399. -/
structure MillTime where
  day : Nat
  sec : Nat
  deriving DecidableEq, Repr

end Sys2Proof
end

