-- ==== Sys2Proof/Config.lean ====
section
/-! DEFINITION. What the unit fixes for good: capacities, limits, weights and times the rules state as
numbers. The free values, which need types of Syntax and State, are declared beside those types. -/

namespace Sys2Proof.Config

/-- Unit time counts 10 ms (R187): one second is a hundred counts. -/
def ticksPerSecond : Nat := 100

/-- Unit time is held in 48 bits (R187). -/
def unitTimeLimit : Nat := 2 ^ 48

/-- R41: ordinary alarm entries. -/
def ordinaryEntries : Nat := 512

/-- R42, R43: the highest alarm entry number, the last system alarm. -/
def lastEntry : Nat := 520

/-- R72: capacity of the Deferred List. -/
def deferredCapacity : Nat := 256

/-- R74: the overflow condition clears when the list holds this many entries or fewer. -/
def overflowClear : Nat := 192

/-- R50: the table-full condition clears when this many entries are free. -/
def tableFullClear : Nat := 32

/-- R106: override entries. -/
def overrideEntries : Nat := 64

/-- R120: entries of the Command Transit Table. -/
def transitEntries : Nat := 32

/-- R152: items of a handover session's list. -/
def sessionItems : Nat := 64

/-- R89: entries of an attention stack. -/
def stackDepth : Nat := 3

/-- Counters hold 0 to 65535 and stay at 65535 (R64, R83, R138, R179, R183). -/
def counterMax : Nat := 65535

/-- R41: the raise count is held at 255. -/
def raiseCountMax : Nat := 255

/-- R133: the extension count never exceeds 8. -/
def maxExtensions : Nat := 8

/-- R21: console silence, 5 s. -/
def consoleSilence : Nat := 5 * ticksPerSecond

/-- R38: MASTER KEY debounce, 50 ms. -/
def debounce : Nat := 5

/-- R131: the repeat window, 2 s. -/
def repeatWindow : Nat := 2 * ticksPerSecond

/-- R131: the re-send wait, 250 ms. -/
def resendWait : Nat := 25

/-- R171: plant silence before DEGRADED, 3 s. -/
def plantSilence : Nat := 3 * ticksPerSecond

/-- R171: time in DEGRADED before LOST, 5 s. -/
def plantDegraded : Nat := 5 * ticksPerSecond

/-- R171: time in START without a frame before LOST, 8 s. -/
def plantStart : Nat := 8 * ticksPerSecond

/-- R174: the resync timer, 30 s. -/
def resyncTime : Nat := 30 * ticksPerSecond

/-- R108, R113: the shortest granted override, in seconds. -/
def overrideMin : Nat := 60

/-- R184: the longest payload of an ANSWER, in bytes. -/
def answerPayloadMax : Nat := 1488

/-- R185: entries on one ALARM PAGE. -/
def pageSize : Nat := 12

end Sys2Proof.Config
end

