-- ==== Sys2Proof/Syntax.lean ====
section
/-! DEFINITION. The commands of the unit: one constructor of `Instr` for each row of spec/opcode_table.json.
The unit has no instruction encoding; a command is a message on a port, a change of a line, or the expiry of
one of the unit's timers (00_scope.md). A console request carries the header fields the unit reads and its own
fields AS THE CONSOLE SENT THEM: a field the owning rule checks (a range, a code, a reserved byte) stands here
unchecked. `WellFormed` says that each field fits the width R180 to R182 give it on the wire. -/

namespace Sys2Proof

/-- What the unit reads of a Port A frame besides its body (R180, R183): the source hardware address, the
station field, the request tag and the reserved field of the header. -/
structure Hdr where
  src     : LinkAddr
  station : Nat
  rtag    : Nat
  rsv     : Nat
  deriving DecidableEq, Repr

/-- The levels of the inputs STRAP0 to STRAP3 as found (R189, R190): true where open, which reads 1. -/
structure Straps where
  s0 : Bool
  s1 : Bool
  s2 : Bool
  s3 : Bool
  deriving DecidableEq, Repr

/-- Where a STORE stands when power is lost or RESET is asserted (R20): in the write of step 2 with this many
records of the image written so far, or in the read-back of step 3. Read only while a STORE is in flight. -/
inductive StoreMoment where
  | writing (records : Nat)
  | readBack
  deriving DecidableEq, Repr

/-- A Station record as a WRITE RECORD carries it (R2). -/
structure RawStation where
  kind  : Nat
  addr  : LinkAddr
  areas : List Nat
  grace : Nat
  deriving DecidableEq, Repr

/-- A Roster record as a WRITE RECORD carries it (R3). -/
structure RawRoster where
  badge    : Nat
  name     : Text
  role     : Nat
  enabled  : Bool
  levels   : Vector Nat 12
  stations : List Nat
  deriving DecidableEq, Repr

/-- An Area record as a WRITE RECORD carries it (R4). -/
structure RawArea where
  name     : Text
  stage1   : Vector Nat 4
  stage2   : Nat
  decay    : Nat
  floodOn  : Nat
  floodOff : Nat
  cut      : Nat
  release  : Nat
  shelveMax : Nat
  bypassMax : Nat
  window   : Nat
  handover : Nat
  fallback : List Nat
  deriving DecidableEq, Repr

/-- A Tag record as a WRITE RECORD carries it (R5). -/
structure RawTag where
  name      : Text
  area      : Nat
  prios     : Vector Nat 8
  parent    : Option (Nat × BitVec 8)
  blocker   : Option (Nat × Nat)
  cls       : Nat
  base      : Nat
  shelvable : Bool
  ackRelay  : Bool
  deriving DecidableEq, Repr

/-- The part of an ALARM NOTICE that a RAISE or RETURN row carries (R181): its sequence, tag, condition, resync
flag and plant mill time. -/
structure NoticeFields where
  seq    : Nat
  tag    : Nat
  cond   : Nat
  resync : Bool
  time   : MillTime
  deriving DecidableEq, Repr

/-- The content of a Port B frame of known kind and consistent length that may be faulty (R170): every field of
an ALARM NOTICE or of a REPLY, as received. -/
inductive PlantContent where
  | notice (seq tag cond transition flag rsv : Nat) (time : MillTime)
  | reply (ticket tag outcome rsv arg : Nat)
  deriving DecidableEq, Repr

/-- Accepted Port A frames that no other row of the table stands for (R184 and the checks of R7, R16, R60, R95,
R142, R185): a kind that is no console request, and a request whose selector (mode, service state, decision,
table, query kind) is none the unit knows. -/
inductive OddRequest where
  | kind (code : Nat)
  | silenceMode (mode : Nat) (ref : Ref) (rsv : Nat)
  | serviceState (area state rsv : Nat)
  | decision (ticket tag decision rsv : Nat)
  | writeTable (table index : Nat)
  | queryKind (code : Nat)
  deriving DecidableEq, Repr

/-- The commands: one constructor a row of spec/opcode_table.json, in the table's order. `h` is the header of a
Port A frame, `rsv` the reserved byte that ends a console request (R182). -/
inductive Instr where
  | powerUp (straps : Straps)
  | resetAssert (moment : StoreMoment)
  | resetDeassert (straps : Straps)
  | powerLoss (moment : StoreMoment)
  | masterKeyLineChange (closed : Bool)
  | keyAsserted
  | keyReleased
  | portAFrameDiscarded (src : LinkAddr) (payload : List Byte)
  | unknownKind (h : Hdr) (r : OddRequest)
  | beat (h : Hdr)
  | consoleSilenceTimeout (station : Nat)
  | graceExpiry (station : Nat)
  | logon (h : Hdr) (badge rsv : Nat)
  | logoff (h : Hdr)
  | claim (h : Hdr) (area rsv : Nat)
  | release (h : Hdr) (area rsv : Nat)
  | ack (h : Hdr) (ref : Ref) (rsv : Nat)
  | silenceTop (h : Hdr) (ref : Ref) (rsv : Nat)
  | silenceAll (h : Hdr) (rsv : Nat)
  | serviceOut (h : Hdr) (area rsv : Nat)
  | serviceIn (h : Hdr) (area rsv : Nat)
  | shelve (h : Hdr) (tag duration reason rsv : Nat)
  | unshelve (h : Hdr) (tag rsv : Nat)
  | bypass (h : Hdr) (tag duration reason rsv : Nat)
  | unbypass (h : Hdr) (tag rsv : Nat)
  | overrideExpiry (entry : Nat)
  | command (h : Hdr) (tag action : Nat) (value : BitVec 32) (rsv : Nat)
  | countersignAgree (h : Hdr) (ticket tag rsv : Nat)
  | countersignDecline (h : Hdr) (ticket tag rsv : Nat)
  | withdraw (h : Hdr) (ticket rsv : Nat)
  | countersignWindowExpiry (ticket : Nat)
  | replyDone (ticket tag : Nat)
  | replyRefused (ticket tag code : Nat)
  | replyBusy (ticket tag : Nat)
  | replyExtend (ticket tag count : Nat)
  | replyHoldOn (ticket tag : Nat)
  | reSend (ticket : Nat)
  | replyDeadlineExpiry (ticket : Nat)
  | offer (h : Hdr) (area badge rsv : Nat)
  | review (h : Hdr) (area first count rsv : Nat)
  | accept (h : Hdr) (area rsv : Nat)
  | recallOffer (h : Hdr) (area rsv : Nat)
  | handoverLapse (area : Nat)
  | takeover (h : Hdr) (area rsv : Nat)
  | queryUnitStatus (h : Hdr) (rsv : Nat)
  | queryAreaStatus (h : Hdr) (area rsv : Nat)
  | queryAlarmPage (h : Hdr) (area page filter rsv : Nat)
  | queryAlarmEntry (h : Hdr) (ref : Ref) (rsv : Nat)
  | queryTransitList (h : Hdr) (rsv : Nat)
  | queryOverrideList (h : Hdr) (rsv : Nat)
  | queryHandoverList (h : Hdr) (area rsv : Nat)
  | queryStationStatus (h : Hdr) (station rsv : Nat)
  | stationWrite (h : Hdr) (index : Nat) (record : Option RawStation) (rsv : Nat)
  | rosterWrite (h : Hdr) (index : Nat) (record : Option RawRoster) (rsv : Nat)
  | areaWrite (h : Hdr) (index : Nat) (record : Option RawArea) (rsv : Nat)
  | tagWrite (h : Hdr) (index : Nat) (record : Option RawTag) (rsv : Nat)
  | readRecord (h : Hdr) (table index rsv : Nat)
  | store (h : Hdr)
  | storeComplete (matched : Bool)
  | setClock (h : Hdr) (time : MillTime) (rsv : Nat)
  | restart (h : Hdr)
  | millTimeAdvance
  | plantFrameDiscarded (payload : List Byte)
  | alarmNoticeRaise (n : NoticeFields)
  | alarmNoticeReturn (n : NoticeFields)
  | decayEvent (area : Nat)
  | releaseTimerExpiry (area : Nat)
  | stage1Expiry (entry : Nat)
  | stage2Expiry (entry : Nat)
  | plantBeat
  | resyncEnd (scope number : Nat)
  | plantSilenceTimeout
  | plantDegradedTimeout
  | plantStartTimeout
  | resyncTimerExpiry
  | unitBeat
  | malformedContent (c : PlantContent)
  deriving DecidableEq, Repr

end Sys2Proof
end

