-- ==== Sys2Proof/Decode.lean ====
section
/-! DEFINITION. The unit has no instruction encoding and no row of spec/opcode_table.json gives bits, so no word spells a
command. The layouts of the messages that carry commands are in Machine/WireIn.lean. -/

namespace Sys2Proof

/-- The command a word spells by the table's bits: no row of the table has any. -/
def decodeTableWord (_nbits _w : Nat) : Option Instr := none

end Sys2Proof
end

