-- ==== Sys2Proof/Machine/Types.lean ====
section
/-! DEFINITION. The data the eleven blocks hold and the messages the unit sends: records of the four tables
(chapter 1), alarm entries (chapter 3), override, transit and handover records (chapters 6, 7, 9), and every
console and plant message as its named fields (chapter 11). Byte layouts are in Machine/Wire.lean. -/

namespace Sys2Proof.Machine

/-- 00_scope.md "Priorities": LOW, MEDIUM, HIGH and URGENT, with values 1 to 4. -/
inductive Priority where | low | medium | high | urgent
  deriving DecidableEq, Repr

/-- 00_scope.md "Roles and station kinds". -/
inductive Role where | operator | supervisor | engineer
  deriving DecidableEq, Repr

inductive StationKind where | operator | supervisor | engineering
  deriving DecidableEq, Repr

/-- R120: the eight actions of a command. -/
inductive Action where | setpoint | output | mode | start | stop | opening | closing | resetTrip
  deriving DecidableEq, Repr

/-! ### The four tables (R1 to R5) -/

structure StationRec where
  kind  : StationKind
  addr  : LinkAddr
  areas : NSet
  grace : Nat
  deriving DecidableEq, Repr

structure RosterRec where
  badge    : Nat
  name     : Text
  role     : Role
  enabled  : Bool
  levels   : Vector Nat 12
  stations : NSet
  deriving DecidableEq, Repr

structure AreaRec where
  name     : Text
  stage1   : Vector Nat 4
  stage2   : Nat
  decay    : Nat
  floodOn  : Nat
  floodOff : Nat
  cut      : Priority
  release  : Nat
  shelveMax : Nat
  bypassMax : Nat
  window   : Nat
  handover : Nat
  fallback : List Nat
  deriving DecidableEq, Repr

/-- `none` in `prios` is NONE: the condition produces no alarm. -/
structure TagRec where
  name      : Text
  area      : Nat
  prios     : Vector (Option Priority) 8
  parent    : Option (Nat × BitVec 8)
  blocker   : Option (Nat × Priority)
  cls       : Nat
  base      : Nat
  shelvable : Bool
  ackRelay  : Bool
  deriving DecidableEq, Repr

/-- The Configuration Memory. A Station, Roster or Tag record that is not listed is absent. An Area record is
always present (R1): one that is not listed holds the defaults of R4. -/
structure Tables where
  stations : Tbl StationRec
  roster   : Tbl RosterRec
  areas    : Tbl AreaRec
  tags     : Tbl TagRec
  deriving DecidableEq, Repr, Inhabited

/-- The non-volatile image (1.5): the four tables as written and the CRC-32 stored after them. -/
structure Image where
  tables : Tables
  crc    : BitVec 32
  deriving DecidableEq, Repr, Inhabited

/-! ### Alarm entries (R41, R43) -/

inductive Disposition where | annunciated | deferred | suppressed | shelved
  deriving DecidableEq, Repr

/-- An acknowledgement: ack time (mill time) and acking operator (index). -/
structure Ack where
  time : MillTime
  op   : Nat
  deriving DecidableEq, Repr

/-- R43: what a system alarm carries in place of stale and confirmed; an ordinary entry carries `none`. -/
inductive Subject where
  | none
  | areas (s : NSet)
  | stations (s : NSet)
  | count (n : Nat)
  deriving DecidableEq, Repr

/-- An alarm entry in use, with the fields of R41 but for the generation, which the Alarm Processor keeps for free
entries too. `tag` and `cond` are absent for a system alarm (R43); `ack` is absent while UNACKED. -/
structure Entry where
  tag        : Option Nat
  cond       : Option Nat
  area       : Nat
  cfg        : Priority
  cur        : Priority
  active     : Bool
  ack        : Option Ack
  disp       : Disposition
  raiseTime  : MillTime
  returnTime : Option MillTime
  raiseCount : Nat
  stage      : Nat
  stale      : Bool
  confirmed  : Bool
  subject    : Subject
  deriving DecidableEq, Repr

/-- What the Annunciation Unit holds for an alarm entry (chapter 5): its route, its silenced-station set and its
escalation deadline (the unit time it falls at and the stage it leads to). -/
structure AnnRec where
  route    : NSet
  silenced : NSet
  deadline : Option (Nat × Nat)
  deriving DecidableEq, Repr

/-- R72: an item of the Deferred List. -/
structure DeferredItem where
  ref  : Ref
  area : Nat
  deriving DecidableEq, Repr

/-! ### Overrides and commands (R106, R120) -/

inductive OverrideKind where | shelve | bypass
  deriving DecidableEq, Repr

structure Override where
  kind       : OverrideKind
  tag        : Nat
  holder     : Nat
  station    : Nat
  placedUnit : Nat
  placedMill : MillTime
  expiry     : Nat
  reason     : Nat
  deriving DecidableEq, Repr

inductive TransitState where | awaiting | forwarded | repeatWait
  deriving DecidableEq, Repr

/-- A transit entry (R120). Its ticket is its index in the table. -/
structure Transit where
  tag         : Nat
  area        : Nat
  action      : Action
  value       : BitVec 32
  origOp      : Nat
  origStation : Nat
  signer      : Option (Nat × Nat)
  key         : Bool
  state       : TransitState
  createdUnit : Nat
  createdMill : MillTime
  deadline    : Nat
  extensions  : Nat
  windowEnd   : Option Nat
  resend      : Option Nat
  deriving DecidableEq, Repr

/-! ### Handover (R151, R152) -/

/-- R152: what an item refers to. R106 says that a BYPASS or SHELVE item lists the reason code too: it is the reason the
override held when it was listed (log entry 27). -/
inductive ItemRef where
  | unackedAlarm (r : Ref)
  | bypass (entry tag reason : Nat)
  | shelve (entry tag reason : Nat)
  | standingAlarm (r : Ref)
  | command (ticket tag : Nat)
  | deferredSummary (count : Nat)
  deriving DecidableEq, Repr

/-- An item; its number is its place in the list, counted from 1. -/
structure Item where
  ref      : ItemRef
  priority : Option Priority
  reviewed : Bool
  resolved : Bool
  deriving DecidableEq, Repr

/-- R151: the session record; its area is its index in the table. -/
structure Session where
  outOp      : Nat
  outStation : Nat
  inOp       : Nat
  inStation  : Nat
  openedUnit : Nat
  openedMill : MillTime
  lapse      : Option Nat
  items      : List Item
  remainder  : Nat
  deriving DecidableEq, Repr

structure Takeover where
  op      : Nat
  station : Nat
  unit    : Nat
  mill    : MillTime
  deriving DecidableEq, Repr

/-- The handover state of an area with the record it holds; an area not listed is IDLE (R151). -/
inductive Handover where
  | offered (s : Session)
  | quiescing (s : Session)
  | takingOver (t : Takeover)
  deriving DecidableEq, Repr

/-! ### Link states -/

/-- R21: the link state of a station. -/
inductive LinkState where | absent | up | lost
  deriving DecidableEq, Repr

/-- R171: the plant link state. -/
inductive PlantLink where | start | up | degraded | lost | resync
  deriving DecidableEq, Repr

/-! ### Answers (R184) -/

/-- The answer codes. Each belongs to one class, which `Code.cls` (Machine/Ops.lean) gives with its number. -/
inductive Code where
  | done | pending | already | clamped | renewed
  | reserved | range | code | duplicateBadge | selfParent | missingRecord
  | notLoggedOn | notEngineer | notSupervisor | unknownBadge | disabled | stationNotPermitted | role
  | areaNotPermitted | level | notOwner | notResponsible | readOnly | notEligible | notOriginator
  | incomingNotEligible | notIncoming
  | stationOccupied | alreadyLoggedOn | ownsArea | areaOwned | sessionOpen | unackedAlarms | commandsInFlight
  | tagInUse | staleReference | notOnTop | notShelvable | noOverride | plantLost | blocked | notPending
  | noSession | itemsUnreviewed | tooLate | takeoverPending
  | storing | registerFull | handover | tagBusy | transitFull
  | store
  deriving DecidableEq, Repr

/-! ### Reasons, outcomes and events named by the rules (R182 numbers each in its rule's order) -/

inductive LogoffReason where | roster | link
  deriving DecidableEq, Repr

/-- R137, R148: the reason of RESULT WITHDRAWN. -/
inductive WithdrawReason where | withdraw | logoff | link | originatorGone | handover | takeover
  deriving DecidableEq, Repr

/-- R137: the outcomes of RESULT. -/
inductive ResultOutcome where
  | done | refusedByPlant | failedPlantBusy | failedNoReply | failedPlantLost
  | declined | withdrawn | lapsed | refused
  deriving DecidableEq, Repr

/-- R149: the outcomes of NOTICE COUNTERSIGN CLOSED. -/
inductive ClosedOutcome where | forwarded | declined | withdrawn | lapsed | refused
  deriving DecidableEq, Repr

/-- R163, R167: why a session closes or a takeover is cancelled. -/
inductive CloseReason where
  | recalled | lapsed | incomingGone | ownerChanged | takeover | transferRefused | supervisorGone
  deriving DecidableEq, Repr

/-- R118: the event of NOTICE OVERRIDE, an ending with its end reason. -/
inductive OverrideEvent where | placed | renewed | holderChanged | endedExpired | endedRemoved
  deriving DecidableEq, Repr

inductive TransferKind where | handover | takeover
  deriving DecidableEq, Repr

/-! ### Messages the unit sends (R180 to R182) -/

/-- The fields of ANNOUNCE (R62, R181). -/
structure Announce where
  ref     : Ref
  removed : Bool
  entry   : Entry
  deriving DecidableEq, Repr

structure CountersA where
  accepted : Nat
  length   : Nat
  unknown  : Nat
  mismatch : Nat
  deriving DecidableEq, Repr

/-- R179: the Port B counters. -/
structure CountersB where
  malformedFrames  : Nat
  malformedContent : Nat
  unknownTag       : Nat
  duplicateSeq     : Nat
  gaps             : Nat
  losses           : Nat
  timeouts         : Nat
  strayEnds        : Nat
  relaysSent       : Nat
  relaysDropped    : Nat
  deriving DecidableEq, Repr

/-- R138: the Command Gate's counters. -/
structure CountersG where
  late    : Nat
  noReply : Nat
  busy    : Nat
  loss    : Nat
  deriving DecidableEq, Repr

/-- R185 UNIT STATUS. `sinceFrame` is absent before the first accepted plant frame. -/
structure UnitStatus where
  link         : PlantLink
  resync       : Nat
  sinceFrame   : Option Nat
  mill         : MillTime
  clockUnset   : Bool
  keyAsserted  : Bool
  storing      : Bool
  storeFault   : Bool
  freeEntries  : Nat
  deferred     : Nat
  overflow     : Bool
  transit      : Nat
  ticket       : Nat
  strapStation : Nat
  portA        : CountersA
  portB        : CountersB
  gate         : CountersG
  deriving DecidableEq, Repr

/-- R185 AREA STATUS; badge and stations are 0 where none (R182), `handover` is the place of the handover state in
the list of R151. -/
structure AreaStatus where
  ownerBadge   : Nat
  ownerStation : Nat
  cover        : Nat
  orphan       : Bool
  inService    : Bool
  load         : Nat
  flooded      : Bool
  releasing    : Bool
  deferred     : Nat
  overflows    : Nat
  discarded    : Nat
  duplicates   : Nat
  dropped      : Nat
  shelves      : Nat
  bypasses     : Nat
  awaiting     : Nat
  forwarded    : Nat
  repeatWait   : Nat
  handover     : Nat
  deriving DecidableEq, Repr

/-- R138 TRANSIT LIST: one entry. Badges are 0 where the Roster record is absent or no countersigner is recorded. -/
structure TransitView where
  ticket      : Nat
  tag         : Nat
  area        : Nat
  action      : Action
  value       : BitVec 32
  origBadge   : Nat
  origStation : Nat
  signBadge   : Nat
  signStation : Nat
  key         : Bool
  state       : TransitState
  createdUnit : Nat
  createdMill : MillTime
  deadlineMs  : Nat
  extensions  : Nat
  windowMs    : Nat
  resendMs    : Nat
  deriving DecidableEq, Repr

/-- R118 OVERRIDE LIST: one entry: the fields of R106, the holder's badge and the seconds remaining. -/
structure OverrideView where
  kind       : OverrideKind
  tag        : Nat
  holder     : Nat
  station    : Nat
  placedUnit : Nat
  placedMill : MillTime
  expiry     : Nat
  reason     : Nat
  badge      : Nat
  remaining  : Nat
  deriving DecidableEq, Repr

/-- R168 HANDOVER LIST: the state alone for an IDLE area, the session record of R151, of which the area is the first
field, or the takeover record. -/
inductive HandoverView where
  | idle
  | session (state area : Nat) (s : Session) (lapseSeconds : Nat)
  | takeover (t : Takeover)
  deriving DecidableEq, Repr

/-- R185 STATION STATUS. -/
structure StationStatus where
  present : Bool
  kind    : Option StationKind
  link    : LinkState
  badge   : Nat
  grace   : Nat
  stack   : List Ref
  waiting : Nat
  shown   : Option (Ref × Priority)
  deriving DecidableEq, Repr

/-- R181: the payload of an ANSWER. A record payload carries the record or says that it is absent (R16). -/
inductive Payload where
  | none
  | station (r : Option StationRec)
  | roster (r : Option RosterRec)
  | area (r : AreaRec)
  | tag (r : Option TagRec)
  | unitStatus (u : UnitStatus)
  | areaStatus (a : AreaStatus)
  | alarmPage (count : Nat) (entries : List Announce)
  | alarmEntry (a : Announce) (route silenced : NSet) (seconds stage : Nat)
  | transitList (l : List TransitView)
  | overrideList (l : List OverrideView)
  | handoverList (v : HandoverView)
  | stationStatus (v : StationStatus)
  deriving DecidableEq, Repr

/-- The class, code, detail and payload of an ANSWER; the class is the code's own. -/
structure Ans where
  code    : Code
  detail  : Nat
  payload : Payload
  deriving DecidableEq, Repr

/-- The sorts of NOTICE (R180), in that rule's order, with the fields of their owning rules. A badge or station
that the rule calls none is 0 (R182). -/
inductive Notice where
  | restarted (mill : MillTime) (clockUnset : Bool)
  | resume (badge : Nat) (areas : NSet)
  | loggedOff (reason : LogoffReason)
  | area (area ownerBadge ownerStation cover : Nat) (orphan : Bool)
  | flood (area : Nat) (flooded : Bool) (load : Nat)
  | service (area : Nat) (inService : Bool)
  | override (event : OverrideEvent) (kind : OverrideKind) (tag badge station remaining reason : Nat)
  | plantLink (state : PlantLink)
  | countersignClosed (ticket tag : Nat) (outcome : ClosedOutcome)
  | handoverOffer (area outBadge outStation items remainder seconds : Nat)
  | handoverUpdate (area items remainder unreviewed : Nat)
  | handoverQuiescing (area : Nat) (kind : TransferKind) (count : Nat)
  | handoverDone (area : Nat) (kind : TransferKind) (fromBadge fromStation toBadge toStation : Nat)
  | handoverClosed (area : Nat) (reason : CloseReason)
  deriving DecidableEq, Repr

/-- Unit to console. -/
inductive ConsoleMsg where
  | answer (rtag : Nat) (a : Ans)
  | announce (a : Announce)
  | attention (top : Option (Ref × Priority))
  | result (ticket tag : Nat) (action : Action) (outcome : ResultOutcome) (detail : Nat) (mill : MillTime)
  | notice (n : Notice)
  | countersignRequest (ticket tag area : Nat) (action : Action) (value : BitVec 32)
      (badge station : Nat) (ms : Nat)
  deriving DecidableEq, Repr

/-- Unit to plant (R178). A scope of 0 is the whole mill. -/
inductive PlantMsg where
  | forward (ticket tag : Nat) (action : Action) (value : BitVec 32) (badge signBadge : Nat) (key again : Bool)
  | ackRelay (tag cond badge : Nat) (time : MillTime)
  | resyncRequest (scope number : Nat)
  | unitBeat (link : PlantLink) (mill : MillTime) (clockUnset : Bool)
  deriving DecidableEq, Repr

/-- A message as it leaves a port. A console message goes to a station at a link address (R180). -/
inductive Out where
  | console (station : Nat) (addr : LinkAddr) (m : ConsoleMsg)
  | plant (m : PlantMsg)
  deriving DecidableEq, Repr

end Sys2Proof.Machine
end

