-- ==== Sys2Proof/Machine/State.lean ====
section
/-! DEFINITION. The state of the unit, block by block (00_scope.md "Block overview"), the reasons a step can stop,
and the state right after reset. -/

namespace Sys2Proof.Machine

/-- Why a step faults. -/
inductive Fault where
  /-- Raised by the step on an empty queue when unit time would pass 48 bits. R187 says that it does not wrap in
  service and gives no effect for it (some 89,000 years). Safe: the model stops. -/
  | unitTimeExhausted
  deriving DecidableEq, Repr

/-- Why a command is refused. -/
inductive Refusal where
  /-- Raised by `exec` for a command the model gives no meaning yet. Safe: the model stops. -/
  | notModelled (mnemonic : String)
  deriving DecidableEq, Repr

/-- Console Port (chapter 2, R183). A station not listed in `link` is ABSENT; one not listed in `heard` has no
last-heard time. `restartPending` is the set of stations whose RESTARTED-pending flag is set. The LOST set is
computed from `link`. -/
structure ConsolePort where
  link           : Tbl LinkState
  heard          : Tbl Nat
  restartPending : NSet
  counters       : CountersA
  deriving DecidableEq, Repr

/-- Authority Unit (chapter 2). `logon` maps a station to the operator index logged on there, `grace` to the unit
time its running grace timer expires at; `owner` maps an area to the owner and the owner's station, `cover` to its
cover station. `keyLine` is the level of the MASTER KEY line (true while the contact is closed) and `keySince` the
unit time from which it has held that level without interruption. -/
structure Authority where
  logon    : Tbl Nat
  grace    : Tbl Nat
  owner    : Tbl (Nat × Nat)
  cover    : Tbl Nat
  orphans  : NSet
  key      : Bool
  keyLine  : Bool
  keySince : Nat
  deriving DecidableEq, Repr

/-- Alarm Processor (chapter 3). `entries` holds the entries in use, ordinary and system, by number; `gens` the
generation of every ordinary entry, 0 where not listed. `out` is the set of areas whose service state is OUT. The
three counters of R64 are 0 where not listed. The count of free ordinary entries is computed from `entries`. -/
structure AlarmProc where
  entries    : Tbl Entry
  gens       : Tbl Nat
  tableFull  : Bool
  out        : NSet
  discarded  : Tbl Nat
  duplicates : Tbl Nat
  dropped    : Tbl Nat
  unitAlarm  : Bool
  deriving DecidableEq, Repr

/-- Flood Monitor (chapter 4). Loads and overflow counters are 0 where not listed; `release` maps an area to the
unit time its running release timer expires at. -/
structure FloodMon where
  load      : Tbl Nat
  flooded   : NSet
  release   : Tbl Nat
  deferred  : List DeferredItem
  overflow  : Bool
  subject   : NSet
  overflows : Tbl Nat
  deriving DecidableEq, Repr

/-- Annunciation Unit (chapter 5). An entry not listed in `recs` has an empty route, an empty silenced-station set and
no deadline; a stack lists entry numbers from bottom to top and is empty where not listed; a station not listed in
`shown` has shown top QUIET. -/
structure Annun where
  recs    : Tbl AnnRec
  stack   : Tbl (List Nat)
  shown   : Tbl (Ref × Priority)
  overdue : Nat
  deriving DecidableEq, Repr

/-- Command Gate (chapter 7): the Command Transit Table by ticket, the ticket counter and the counters of R138. -/
structure Gate where
  transit  : Tbl Transit
  ticket   : Nat
  counters : CountersG
  deriving DecidableEq, Repr

/-- Plant Port (chapter 10). `ret` is true where the return state is RESYNC; `expected` is absent while AWAITING
BASE. -/
structure PlantPort where
  link     : PlantLink
  ret      : Bool
  heard    : Option Nat
  mark     : Nat
  expected : Option Nat
  resync   : Nat
  timer    : Option Nat
  counters : CountersB
  deriving DecidableEq, Repr

/-- A STORE in flight: the requesting station, its link address when the request arrived, and the request tag. -/
structure StoreJob where
  station : Nat
  addr    : LinkAddr
  rtag    : Nat
  deriving DecidableEq, Repr

/-- Configuration Memory and Store (chapter 1): STORING while `job` is present. `misreads` counts the STOREs that
ended in FAILED and is the MODEL's own field: it picks the free value of the image's content after each. -/
structure StoreUnit where
  job      : Option StoreJob
  fault    : Bool
  image    : Image
  misreads : Nat
  deriving DecidableEq, Repr

/-- Timebase (R187). -/
structure Timebase where
  unit       : Nat
  mill       : MillTime
  clockUnset : Bool
  deriving DecidableEq, Repr

/-- Supply and lines (R189, R190): whether the unit has power, whether RESET is held asserted, and the value of the
STRAP inputs latched at start-up. -/
structure Pins where
  power : Bool
  reset : Bool
  strap : Nat
  deriving DecidableEq, Repr

/-- An alarm entry an event has touched, for the ANNOUNCE at its end (R62), which has the place of the first touch where there
are several (DESIGN CHOICE, log entry 55): the entry as it stood before the event, or
none if it was free, and, once the event has freed it, the ANNOUNCE (removed) body. -/
structure Touch where
  num    : Nat
  before : Option Entry
  gone   : Option Announce
  deriving DecidableEq, Repr

/-- The MODEL's own scratch for the event being taken; empty between events. `pre` holds the messages that go before
the ANNOUNCEs of the event and `post` those that go after its ATTENTIONs; `areaOld` the owner and cover an area had
before the event changed them; `refill` the stations that lost an alarm from their stack; `force` the stations that
are sent ATTENTION whatever their shown top; `resound` the stations whose top a re-raise sounds again; `items` the
areas whose session list the event changed. -/
structure EvBuf where
  pre     : List Out
  post    : List Out
  touched : List Touch
  areaOld : Tbl (Option (Nat × Nat) × Option Nat)
  refill  : NSet
  force   : NSet
  resound : List (Nat × Nat)
  items   : NSet
  deriving DecidableEq, Repr

/-- The scratch between events. -/
def EvBuf.empty : EvBuf := ⟨[], [], [], [], [], [], [], []⟩

/-- The unit. `overrides` is the Override Register by entry number, `hand` the Handover Session Table by area. `sent`
holds the messages that the command executed last sent, in the order they left (the MODEL's own record of the
ports). `pending` is the queue of commands that wait, first in first out. -/
structure State where
  pins      : Pins
  time      : Timebase
  tables    : Tables
  store     : StoreUnit
  console   : ConsolePort
  auth      : Authority
  alarm     : AlarmProc
  flood     : FloodMon
  ann       : Annun
  overrides : Tbl Override
  gate      : Gate
  hand      : Tbl Handover
  plant     : PlantPort
  ev        : EvBuf
  sent      : List Out
  pending   : List Instr
  deriving DecidableEq, Repr

/-! ### The values after power-up and RESET -/

/-- R19: the tables after a load that fails: every Station, Roster and Tag record absent, every Area record at the
defaults of R4. -/
def Tables.empty : Tables := ⟨[], [], [], []⟩

def areaNumbers : NSet := [1, 2, 3, 4, 5, 6, 7, 8, 9, 10, 11, 12]

def stationNumbers : NSet := [1, 2, 3, 4, 5, 6, 7, 8, 9, 10, 11, 12, 13, 14, 15, 16]

def MillTime.zero : MillTime := ⟨0, 0⟩

def CountersA.zero : CountersA := ⟨0, 0, 0, 0⟩
def CountersB.zero : CountersB := ⟨0, 0, 0, 0, 0, 0, 0, 0, 0, 0⟩
def CountersG.zero : CountersG := ⟨0, 0, 0, 0⟩

/-- R40, R183: the Console Port after power-up, RESET and RESTART. -/
def ConsolePort.initial : ConsolePort := ⟨[], [], stationNumbers, CountersA.zero⟩

/-- R105: the Annunciation Unit after power-up, RESET and RESTART. -/
def Annun.initial : Annun := ⟨[], [], [], 0⟩

/-- R84: the Flood Monitor after power-up, RESET and RESTART. -/
def FloodMon.initial : FloodMon := ⟨[], [], [], [], false, [], []⟩

/-- R65: the Alarm Processor after power-up and RESET, before the alarms of start-up are raised. -/
def AlarmProc.initial : AlarmProc := ⟨[], [], false, [], [], [], [], false⟩

/-- R139: the Command Gate after power-up and RESET. -/
def Gate.initial : Gate := ⟨[], 1, CountersG.zero⟩

/-- Chapter 10: the Plant Port after power-up and RESET, at unit time 0. -/
def PlantPort.initial : PlantPort := ⟨.start, false, none, 0, none, 0, none, CountersB.zero⟩

/-- R187: the Timebase after power-up and RESET. -/
def Timebase.initial : Timebase := ⟨0, MillTime.zero, true⟩

/-- R40: the Authority Unit after power-up and RESET, the MASTER KEY line being found at `keyLine`. -/
def Authority.initial (keyLine : Bool) : Authority := ⟨[], [], [], [], [], false, keyLine, 0⟩

/-- R43, R44: a system alarm as it is put in use at mill time day 0 second 0. -/
def Entry.systemAtReset (p : Priority) (subject : Subject) : Entry :=
  { tag := none, cond := none, area := 0, cfg := p, cur := p, active := true, ack := none, disp := .annunciated,
    raiseTime := MillTime.zero, returnTime := none, raiseCount := 1, stage := 0, stale := false,
    confirmed := false, subject := subject }

/-- The unit right after power-up or RESET, before any command and with nothing placed in its non-volatile memory.
The image holds nothing whose CRC-32 agrees (DESIGN CHOICE, log entry 1), so the load has failed (R19): no Station,
Roster or Tag record, Area records at the defaults of R4, STORE FAULT raised, and every area an orphan with ORPHAN
AREA raised (R40). The STRAP inputs are open, the MASTER KEY contact is open (log entry 2). -/
def State.reset : State :=
  { pins := ⟨true, false, 15⟩
    time := Timebase.initial
    tables := Tables.empty
    store := ⟨none, true, ⟨Tables.empty, 0⟩, 0⟩
    console := ConsolePort.initial
    auth := { Authority.initial false with orphans := areaNumbers }
    alarm := { AlarmProc.initial with
      entries := [(516, Entry.systemAtReset .high (.areas areaNumbers)),
                  (520, Entry.systemAtReset .medium .none)] }
    flood := FloodMon.initial
    ann := Annun.initial
    overrides := []
    gate := Gate.initial
    hand := []
    plant := PlantPort.initial
    ev := EvBuf.empty
    sent := []
    pending := [] }

end Sys2Proof.Machine

namespace Sys2Proof

/-- FREE VALUE (log entry 3): the content of the image after a STORE whose read-back did not match (R17). The manual
says only that the image cannot be relied on. It has no body, so nothing can be proved of it. -/
opaque Config.misreadImage : Nat → Machine.Image

end Sys2Proof
end

