-- ==== Sys2Proof/Machine/Ops.lean ====
section
/-! DEFINITION. The operations every block uses: finite tables and sets, the numbers of named values, how a block
reads another block's state, and how a message is handed to a port. -/

namespace Sys2Proof

/-! ### Finite tables and sets -/

def Tbl.look {α : Type} : Tbl α → Nat → Option α
  | [], _ => none
  | (k', v) :: r, k => if k = k' then some v else Tbl.look r k

def Tbl.put {α : Type} : Tbl α → Nat → α → Tbl α
  | [], k, v => [(k, v)]
  | (k', v') :: r, k, v =>
    if k < k' then (k, v) :: (k', v') :: r else if k = k' then (k, v) :: r else (k', v') :: Tbl.put r k v

def Tbl.del {α : Type} (t : Tbl α) (k : Nat) : Tbl α := t.filter (fun p => decide (p.1 ≠ k))

def Tbl.keys {α : Type} (t : Tbl α) : List Nat := t.map Prod.fst

/-- What a table with a default reads as at an index. -/
def Tbl.getD {α : Type} (t : Tbl α) (k : Nat) (d : α) : α := (t.look k).getD d

/-- Write to a table with a default: writing the default removes the index, so that equal tables are equal data. -/
def Tbl.setD {α : Type} [DecidableEq α] (t : Tbl α) (k : Nat) (d v : α) : Tbl α := if v = d then t.del k else t.put k v

/-- Rewrite what stands at an index, if anything does. -/
def Tbl.upd {α : Type} (t : Tbl α) (k : Nat) (f : α → α) : Tbl α :=
  match t.look k with
  | none => t
  | some v => t.put k (f v)

/-- The one form of a table: indexes strictly rising. -/
abbrev Tbl.wf {α : Type} (t : Tbl α) : Prop := t.Pairwise (fun p q => p.1 < q.1)

def NSet.ins : NSet → Nat → NSet
  | [], x => [x]
  | y :: r, x => if x < y then x :: y :: r else if x = y then y :: r else y :: NSet.ins r x

def NSet.del (s : NSet) (x : Nat) : NSet := s.filter (fun y => decide (y ≠ x))

/-- The set of the members a list names (00_scope.md: a set holds each member at most once and has no order). -/
def NSet.ofList (l : List Nat) : NSet := l.foldl NSet.ins []

/-- The set as the bits of a number (R182): bit n - 1 for area or station n. -/
def NSet.mask (s : NSet) : Nat := s.foldl (fun acc n => acc + 2 ^ (n - 1)) 0

namespace Machine

/-- A counter's next value: it stays at 65535 once it gets there (R64, R83, R138, R179, R183). -/
def bump (n : Nat) : Nat := min (n + 1) Config.counterMax

/-! ### Named values and their numbers -/

def Priority.value : Priority → Nat
  | .low => 1 | .medium => 2 | .high => 3 | .urgent => 4

/-- R182: priority codes 1 LOW to 4 URGENT; 0 is NONE. -/
def Priority.ofCode : Nat → Option Priority
  | 1 => some .low | 2 => some .medium | 3 => some .high | 4 => some .urgent | _ => none

/-- R100: one step higher, an URGENT staying URGENT. -/
def Priority.raise : Priority → Priority
  | .low => .medium | .medium => .high | .high => .urgent | .urgent => .urgent

def StationKind.ofCode : Nat → Option StationKind
  | 1 => some .operator | 2 => some .supervisor | 3 => some .engineering | _ => none

def Role.ofCode : Nat → Option Role
  | 1 => some .operator | 2 => some .supervisor | 3 => some .engineer | _ => none

def Action.ofCode : Nat → Option Action
  | 1 => some .setpoint | 2 => some .output | 3 => some .mode | 4 => some .start | 5 => some .stop
  | 6 => some .opening | 7 => some .closing | 8 => some .resetTrip | _ => none

/-- R184: the number of each answer code. -/
def Code.number : Code → Nat
  | .done => 0 | .pending => 1 | .already => 2 | .clamped => 3 | .renewed => 4
  | .reserved => 16 | .range => 17 | .code => 18 | .duplicateBadge => 19 | .selfParent => 20 | .missingRecord => 21
  | .notLoggedOn => 32 | .notEngineer => 33 | .notSupervisor => 34 | .unknownBadge => 35 | .disabled => 36
  | .stationNotPermitted => 37 | .role => 38 | .areaNotPermitted => 39 | .level => 40 | .notOwner => 41
  | .notResponsible => 42 | .readOnly => 43 | .notEligible => 44 | .notOriginator => 45
  | .incomingNotEligible => 46 | .notIncoming => 47
  | .stationOccupied => 64 | .alreadyLoggedOn => 65 | .ownsArea => 66 | .areaOwned => 67 | .sessionOpen => 68
  | .unackedAlarms => 69 | .commandsInFlight => 70 | .tagInUse => 71 | .staleReference => 72 | .notOnTop => 73
  | .notShelvable => 74 | .noOverride => 75 | .plantLost => 76 | .blocked => 77 | .notPending => 78
  | .noSession => 79 | .itemsUnreviewed => 80 | .tooLate => 81 | .takeoverPending => 82
  | .storing => 96 | .registerFull => 97 | .handover => 98 | .tagBusy => 99 | .transitFull => 100
  | .store => 112

/-- R181, R184: the class of each answer code: 0 ACCEPTED, 1 REFUSED-FORMAT, 2 REFUSED-AUTHORITY, 3 REFUSED-STATE,
4 REFUSED-BUSY, 5 FAILED. -/
def Code.cls (c : Code) : Nat :=
  if c.number < 16 then 0 else if c.number < 32 then 1 else if c.number < 64 then 2
  else if c.number < 96 then 3 else if c.number < 112 then 4 else 5

/-- The answers that follow a change: ACCEPTED, and not ALREADY. A refused request, and one answered ALREADY, leaves every
block as it stood. -/
def Code.changes (c : Code) : Bool := decide (c.cls = 0 ∧ c ≠ .already)

/-- An answer with no payload. The detail is 0 where no rule gives it a value (R182; log entry 4). -/
def ans (c : Code) (detail : Nat := 0) : Ans := ⟨c, detail, .none⟩

/-- R137, R182: a reason by its place in its list. -/
def WithdrawReason.number : WithdrawReason → Nat
  | .withdraw => 1 | .logoff => 2 | .link => 3 | .originatorGone => 4 | .handover => 5 | .takeover => 6

/-! ### Records -/

/-- R4: AREA followed by a space and the area number, padded with spaces to 16 characters. -/
def defaultAreaName (a : Nat) : Text :=
  let digit (d : Nat) : Byte := BitVec.ofNat 8 (0x30 + d)
  let digits : Text := if a < 10 then [digit a] else [digit (a / 10), digit (a % 10)]
  let head : Text := [0x41, 0x52, 0x45, 0x41, 0x20] ++ digits
  head ++ List.replicate (16 - head.length) 0x20

/-- R4: the values an Area record takes when the store fails to load. -/
def AreaRec.default (a : Nat) : AreaRec :=
  { name := defaultAreaName a, stage1 := #v[600, 10, 10, 10], stage2 := 60, decay := 256, floodOn := 480,
    floodOff := 160, cut := .medium, release := 5, shelveMax := 60, bypassMax := 60, window := 30,
    handover := 120, fallback := [] }

/-- R3 field 5: an operator's level in an area 1 to 12. -/
def RosterRec.level (r : RosterRec) (a : Nat) : Nat := if 1 ≤ a then (r.levels.toList[a - 1]?).getD 0 else 0

/-- R4 field 2: the stage-1 acknowledge time, in seconds. -/
def AreaRec.stage1Time (r : AreaRec) : Priority → Nat
  | .low => r.stage1[0] | .medium => r.stage1[1] | .high => r.stage1[2] | .urgent => r.stage1[3]

/-- R5 field 3: the priority of a condition, none where NONE. -/
def TagRec.prio (r : TagRec) (c : Nat) : Option Priority := (r.prios.toList[c]?).getD none

/-- R122 check 4: the level a command class requires. -/
def classLevel (cls : Nat) : Nat := min cls 3

/-- R28 check 6: the roles a station kind accepts. -/
def roleFits : StationKind → Role → Bool
  | .operator, _ => true
  | .supervisor, r => decide (r = .supervisor)
  | .engineering, r => decide (r = .engineer)

namespace State

/-! ### Reading the blocks -/

/-- Powered and not held in reset: the unit takes frames and its timers run (R189). -/
def running (s : State) : Bool := s.pins.power && !s.pins.reset

def now (s : State) : Nat := s.time.unit

/-- The current whole second of unit time. -/
def second (s : State) : Nat := s.time.unit / Config.ticksPerSecond

/-- A deadline held to whole seconds: the second in which the event is taken, plus `n` seconds (R99, R108, R155). -/
def secondsAhead (s : State) (n : Nat) : Nat := (s.second + n) * Config.ticksPerSecond

/-- Whole seconds from the current second to a deadline. -/
def secondsLeft (s : State) (deadline : Nat) : Nat := deadline / Config.ticksPerSecond - s.second

/-- A watch kept in whole seconds is due at the first second boundary at which the limit has passed (R21, R171). -/
def watchDue (s : State) (mark limit : Nat) : Bool := decide (mark + limit ≤ s.second * Config.ticksPerSecond)

def stationRec? (s : State) (st : Nat) : Option StationRec := s.tables.stations.look st
def rosterRec? (s : State) (op : Nat) : Option RosterRec := s.tables.roster.look op
def tagRec? (s : State) (tag : Nat) : Option TagRec := s.tables.tags.look tag

/-- An Area record is always present (R1). -/
def areaRec (s : State) (a : Nat) : AreaRec := s.tables.areas.getD a (AreaRec.default a)

def link (s : State) (st : Nat) : LinkState := s.console.link.getD st .absent
def isUp (s : State) (st : Nat) : Bool := decide (s.link st = .up)

/-- The LOST set (R26). -/
def lostSet (s : State) : NSet := stationNumbers.filter (fun st => decide (s.link st = .lost))
def upStations (s : State) : List Nat := stationNumbers.filter s.isUp

def logonAt (s : State) (st : Nat) : Option Nat := s.auth.logon.look st
def staffed (s : State) (st : Nat) : Bool := (s.logonAt st).isSome

/-- The station where an operator is logged on, if any (R27: at most one). -/
def stationOf (s : State) (op : Nat) : Option Nat := (s.auth.logon.find? (fun p => decide (p.2 = op))).map Prod.fst

def ownerOf (s : State) (a : Nat) : Option (Nat × Nat) := s.auth.owner.look a
def coverOf (s : State) (a : Nat) : Option Nat := s.auth.cover.look a
def isOrphan (s : State) (a : Nat) : Bool := decide (a ∈ s.auth.orphans)
def inService (s : State) (a : Nat) : Bool := decide (a ∉ s.alarm.out)

def levelOf (s : State) (op a : Nat) : Nat := ((s.rosterRec? op).map (·.level a)).getD 0

/-- The badge a message carries for an operator index: 0 where the Roster record is absent (R3). -/
def badgeOf (s : State) (op : Nat) : Nat := ((s.rosterRec? op).map (·.badge)).getD 0

def isSupervisorStation (s : State) (st : Nat) : Bool := decide ((s.stationRec? st).map (·.kind) = some .supervisor)
def permits (s : State) (st a : Nat) : Bool := ((s.stationRec? st).map (fun r => decide (a ∈ r.areas))).getD false

/-- The station is the owner's station of the area. -/
def isOwnerStation (s : State) (st a : Nat) : Bool := decide ((s.ownerOf a).map Prod.snd = some st)

def isSupervisorRole (s : State) (op : Nat) : Bool := decide ((s.rosterRec? op).map (·.role) = some .supervisor)

/-- R39, R123: a SUPERVISOR-role operator logged on at a SUPERVISOR station while the key state is ASSERTED. -/
def keySupervisor (s : State) (op st : Nat) : Bool :=
  s.auth.key && s.isSupervisorRole op && s.isSupervisorStation st && decide (s.logonAt st = some op)

/-- R27: the operator is logged on at a station that permits the area and holds level 1 or higher there. -/
def ownerConditions (s : State) (op a : Nat) : Option Nat :=
  match s.stationOf op with
  | none => none
  | some st => if s.permits st a && decide (1 ≤ s.levelOf op a) then some st else none

/-- R186: the station is entitled to management. -/
def entitled (s : State) (st : Nat) : Bool :=
  (decide ((s.stationRec? st).map (·.kind) = some .engineering) && s.staffed st)
    || (s.auth.key && decide (st = s.pins.strap + 1))

def entry? (s : State) (n : Nat) : Option Entry := s.alarm.entries.look n

/-- The generation of a reference: an ordinary entry's own, 0 for a system alarm (R42). -/
def gen (s : State) (n : Nat) : Nat := if n < Config.ordinaryEntries then s.alarm.gens.getD n 0 else 0

def refOf (s : State) (n : Nat) : Ref := ⟨n, s.gen n⟩

/-- R42: the reference is current. -/
def current (s : State) (r : Ref) : Bool := (s.entry? r.num).isSome && decide (s.gen r.num = r.gen)

/-- The ordinary entries in use, ascending. -/
def ordinary (s : State) : List Nat := s.alarm.entries.keys.filter (fun n => decide (n < Config.ordinaryEntries))

/-- R41: the count of free ordinary entries. -/
def freeCount (s : State) : Nat := Config.ordinaryEntries - s.ordinary.length

/-- The ordinary entries of a condition on entries, ascending. -/
def ordinaryWhere (s : State) (p : Entry → Bool) : List Nat :=
  s.ordinary.filter (fun n => ((s.entry? n).map p).getD false)

/-- An area's open session, OFFERED or QUIESCING (R151). -/
def session? (s : State) (a : Nat) : Option Session :=
  match s.hand.look a with
  | some (.offered x) => some x
  | some (.quiescing x) => some x
  | _ => none

/-- R124: the area is quiescing for a handover or a takeover. -/
def isQuiescing (s : State) (a : Nat) : Bool :=
  match s.hand.look a with
  | some (.quiescing _) => true
  | some (.takingOver _) => true
  | _ => false

/-- The tag's override entry of a kind, with its number (R106: at most one). -/
def override? (s : State) (k : OverrideKind) (tag : Nat) : Option (Nat × Override) :=
  s.overrides.find? (fun p => decide (p.2.kind = k ∧ p.2.tag = tag))

def flooded (s : State) (a : Nat) : Bool := decide (a ∈ s.flood.flooded)
def load (s : State) (a : Nat) : Nat := s.flood.load.getD a 0

/-- The area's entries on the Deferred List. -/
def deferredOf (s : State) (a : Nat) : List DeferredItem := s.flood.deferred.filter (fun d => decide (d.area = a))

/-- The area's transit entries of a condition, by ticket ascending. -/
def transitWhere (s : State) (p : Transit → Bool) : List Nat := (s.gate.transit.filter (fun q => p q.2)).map Prod.fst

/-- Transit entries that hold an area quiescing: FORWARDED and REPEAT WAIT (R120). -/
def inFlight (s : State) (a : Nat) : List Nat :=
  s.transitWhere (fun t => decide (t.area = a ∧ t.state ≠ .awaiting))

def annRec (s : State) (n : Nat) : AnnRec := s.ann.recs.getD n ⟨[], [], none⟩
def stack (s : State) (st : Nat) : List Nat := s.ann.stack.getD st []

/-- The staffed SUPERVISOR stations. -/
def staffedSupervisors (s : State) : NSet :=
  stationNumbers.filter (fun st => s.staffed st && s.isSupervisorStation st)

/-! ### Handing a message to a port (R25, R180) -/

/-- A console message to a station, at the link address its record holds now (R180). -/
def outTo (s : State) (st : Nat) (m : ConsoleMsg) : Out :=
  .console st (((s.stationRec? st).map (·.addr)).getD 0) m

/-- Append messages to those that go before the event's ANNOUNCEs. -/
def say (s : State) (os : List Out) : State := { s with ev := { s.ev with pre := s.ev.pre ++ os } }

/-- Append messages to those that go after the event's ATTENTIONs. -/
def sayAfter (s : State) (os : List Out) : State := { s with ev := { s.ev with post := s.ev.post ++ os } }

/-- R25: a NOTICE or RESULT is sent to an UP or LOST station, not to an ABSENT one. -/
def heardBy (s : State) (st : Nat) (m : ConsoleMsg) : List Out := if s.link st = .absent then [] else [s.outTo st m]

/-- A NOTICE to every UP station, ascending (the rules give the stations no order; log entry 39). -/
def toUp (s : State) (n : Notice) : List Out := s.upStations.map (fun st => s.outTo st (.notice n))

/-- A NOTICE to two stations, UP or LOST, once each. DESIGN CHOICE (log entry 39): the rules that send to both parties of a
handover or a takeover say not which is sent it first; the callers follow the order in which each rule names them. -/
def toBoth (s : State) (a b : Nat) (n : Notice) : List Out :=
  s.heardBy a (.notice n) ++ (if b = a then [] else s.heardBy b (.notice n))

end State

end Machine

end Sys2Proof
end

