-- ==== Sys2Proof/Machine/Annunciation.lean ====
section
/-! DEFINITION. The Annunciation Unit (chapter 5) and the end of an event: routes, attention stacks, refill, and the
order in which an event's ANNOUNCE, ATTENTION and NOTICE messages leave (R62, R92, R118, R156). -/

namespace Sys2Proof.Machine

/-- The order of raise times: earlier or equal. -/
def millLE (a b : MillTime) : Bool := decide (a.day < b.day ∨ (a.day = b.day ∧ a.sec ≤ b.sec))

/-- Insertion into a list kept in an order, and the list put in that order. -/
def insertBy {α : Type} (le : α → α → Bool) (x : α) : List α → List α
  | [] => [x]
  | y :: r => if le x y then x :: y :: r else y :: insertBy le x r

def sortBy {α : Type} (le : α → α → Bool) (l : List α) : List α := l.foldr (insertBy le) []

/-- Raise time ascending, then entry number ascending. -/
def olderFirst (a b : Nat × Entry) : Bool :=
  if a.2.raiseTime = b.2.raiseTime then decide (a.1 ≤ b.1) else millLE a.2.raiseTime b.2.raiseTime

/-- R87: current priority ascending, then raise time ascending, then entry number ascending. -/
def joinOrder (a b : Nat × Entry) : Bool :=
  if a.2.cur = b.2.cur then olderFirst a b else decide (a.2.cur.value < b.2.cur.value)

/-- R91, R154, R185: current priority descending, then raise time ascending, then entry number ascending. -/
def urgentFirst (a b : Nat × Entry) : Bool :=
  if a.2.cur = b.2.cur then olderFirst a b else decide (b.2.cur.value < a.2.cur.value)

/-- R62: an entry of these dispositions is seen by QUERY only. -/
def Entry.hidden (e : Entry) : Bool := decide (e.disp = .deferred ∨ e.disp = .suppressed)

/-- R62: the fields an ANNOUNCE shows, all but the confirmed flag. -/
def Entry.shown (e : Entry) : Entry := { e with confirmed := false }

/-- R85: the entry is one that is annunciated and unacknowledged. -/
def Entry.sounding (e : Entry) : Bool := decide (e.disp = .annunciated ∧ e.ack = none)

namespace State

/-- The entries in use with their numbers, of a list of numbers. -/
def withEntries (s : State) (l : List Nat) : List (Nat × Entry) := l.filterMap (fun n => (s.entry? n).map (fun e => (n, e)))

/-! ### Entries an event touches -/

/-- Note an entry that the event is about to change, unless it is noted already (R62). DESIGN CHOICE (log entry 55): R62 has
the ANNOUNCEs in the order the entries were changed and does not say which change counts for an entry that one event changes
more than once (OVERDUE ALARM at a SERVICE OUT that removes several overdue entries); its one ANNOUNCE has the place of the
first change. DESIGN CHOICE (log entry 51): an entry that the event has removed and then puts in use again, which only a
system alarm can be, is noted anew, so that it draws an ANNOUNCE (removed) and then one as a new entry; R62 and R59 do not say
whether these are one ANNOUNCE or two. -/
def touch (s : State) (n : Nat) : State :=
  if s.ev.touched.any (fun t => decide (t.num = n ∧ t.gone = none)) then s
  else { s with ev := { s.ev with touched := s.ev.touched ++ [⟨n, s.entry? n, none⟩] } }

/-- Note an entry that is about to become `e`, where that creates it or changes a field that an ANNOUNCE shows (R62: the
order is that in which entries are changed, and writing what stands already changes nothing). -/
def touchIfChanged (s : State) (n : Nat) (e : Entry) : State :=
  if (s.entry? n).map (·.shown) = some e.shown then s else s.touch n

/-- Change or create an entry. -/
def setEntry (s : State) (n : Nat) (e : Entry) : State :=
  { s.touchIfChanged n e with alarm := { s.alarm with entries := s.alarm.entries.put n e } }

/-- Rewrite an entry in use. -/
def updEntry (s : State) (n : Nat) (f : Entry → Entry) : State :=
  match s.entry? n with
  | none => s
  | some e => s.setEntry n (f e)

/-- Take an entry out of use, leaving the ANNOUNCE (removed) of the entry as it stood (R181). -/
def dropEntry (s : State) (n : Nat) : State :=
  match s.entry? n with
  | none => s
  | some e =>
    let t := s.touch n
    { t with
      alarm := { s.alarm with entries := s.alarm.entries.del n }
      ev := { t.ev with touched := t.ev.touched.map (fun x =>
        if x.num = n ∧ x.gone = none then { x with gone := some ⟨s.refOf n, true, e.shown⟩ } else x) } }

/-! ### Stacks -/

def setStack (s : State) (st : Nat) (l : List Nat) : State :=
  { s with ann := { s.ann with stack := s.ann.stack.setD st [] l } }

def setAnnRec (s : State) (n : Nat) (r : AnnRec) : State :=
  { s with ann := { s.ann with recs := s.ann.recs.setD n ⟨[], [], none⟩ r } }

def updAnnRec (s : State) (n : Nat) (f : AnnRec → AnnRec) : State := s.setAnnRec n (f (s.annRec n))

/-- The value of an entry's current priority, 0 for no entry. -/
def prioOf (s : State) (n : Nat) : Nat := ((s.entry? n).map (·.cur.value)).getD 0

/-- The top of a station's stack. -/
def top? (s : State) (st : Nat) : Option Nat := (s.stack st).getLast?

/-- R89: the top reference with the tone, its current priority. -/
def tone? (s : State) (st : Nat) : Option (Ref × Priority) :=
  match s.top? st with
  | none => none
  | some n => (s.entry? n).map (fun e => (s.refOf n, e.cur))

/-- R90: push onto a stack, the bottom entry leaving a stack of three. -/
def push (s : State) (st n : Nat) : State :=
  let l := s.stack st
  s.setStack st ((if Config.stackDepth ≤ l.length then l.tail else l) ++ [n])

/-- R90: the alarm's priority exceeds the top's, or the stack is empty. -/
def exceedsTop (s : State) (st n : Nat) : Bool :=
  match s.top? st with
  | none => true
  | some t => decide (s.prioOf t < s.prioOf n)

/-- R90: present an alarm at a station, where it is not in the stack or the silenced set. -/
def present (s : State) (st n : Nat) : State :=
  if n ∈ s.stack st ∨ st ∈ (s.annRec n).silenced then s else if s.exceedsTop st n then s.push st n else s

def presentAt (s : State) (sts : List Nat) (n : Nat) : State := sts.foldl (fun s st => s.present st n) s

/-- Take an alarm out of a station's stack; the station is refilled at the end of the event (R91). -/
def unstack (s : State) (st n : Nat) : State :=
  if n ∈ s.stack st then
    let t := s.setStack st ((s.stack st).filter (fun m => decide (m ≠ n)))
    { t with ev := { t.ev with refill := t.ev.refill.ins st } }
  else s

def unstackAll (s : State) (n : Nat) : State := stationNumbers.foldl (fun s st => s.unstack st n) s

/-! ### Routes -/

/-- R86: the route of a system alarm that is UNACKED. -/
def systemRoute (s : State) : NSet :=
  if s.staffedSupervisors = [] then stationNumbers.filter s.staffed else s.staffedSupervisors

/-- R85: while one of these holds, every staffed SUPERVISOR station is on the routes. -/
def supervisorsCalled (s : State) (e : Entry) : Bool :=
  decide (1 ≤ e.stage) || s.isOrphan e.area
    || (match s.ownerOf e.area with | some (_, st) => decide (s.link st = .lost) | none => false)

/-- R85: a station's place on the route of an ordinary entry that is ANNUNCIATED and UNACKED. -/
def onRoute (s : State) (e : Entry) (st : Nat) : Bool :=
  s.isOwnerStation st e.area
    || (decide (s.ownerOf e.area = none) && decide (s.coverOf e.area = some st))
    || (s.supervisorsCalled e && s.staffed st && s.isSupervisorStation st)
    || decide ((s.session? e.area).map (·.inStation) = some st)

/-- R85, R86: the route of an alarm entry as the state gives it now. -/
def routeNow (s : State) (n : Nat) : NSet :=
  match s.entry? n with
  | none => []
  | some e =>
    if !e.sounding then [] else if e.tag = none then s.systemRoute else stationNumbers.filter (s.onRoute e)

/-- R93: compute an entry's route and present the entry at every station of it. -/
def announceAt (s : State) (n : Nat) : State :=
  let r := s.routeNow n
  (s.updAnnRec n (fun a => { a with route := r })).presentAt r n

/-- R93, R98: a re-raise clears the silenced-station set, presents the entry at each station of its route where it is
not in the stack, and sounds it again where it is on top (R92). -/
def represent (s : State) (n : Nat) : State :=
  let s := s.updAnnRec n (fun a => { a with silenced := [] })
  let r := (s.annRec n).route
  let again := (r.filter (fun st => decide (s.top? st = some n))).map (fun st => (st, n))
  { (s.presentAt r n) with ev := { (s.presentAt r n).ev with resound := s.ev.resound ++ again } }

/-- R94 steps 1 and 3: the deadline is cleared, the entry leaves every stack and waiting set, its route and its
silenced-station set become empty. -/
def withdrawStacks (s : State) (n : Nat) : State := (s.unstackAll n).setAnnRec n ⟨[], [], none⟩

/-- A station's waiting set (chapter 5): routed there, ANNUNCIATED and UNACKED, and neither in the stack nor silenced
there. -/
def waiting (s : State) (st : Nat) : List (Nat × Entry) :=
  s.alarm.entries.filter (fun p =>
    p.2.sounding && decide (st ∈ (s.annRec p.1).route ∧ p.1 ∉ s.stack st ∧ st ∉ (s.annRec p.1).silenced))

/-- R87 step 1: an alarm leaves a station's route. -/
def leaveRoute (s : State) (st n : Nat) : State :=
  (s.unstack st n).updAnnRec n (fun a => { a with silenced := a.silenced.del st })

/-- R87 steps 1 and 2 at one station, the routes of `news` being the new ones. -/
def rerouteAt (s : State) (news : List (Nat × NSet)) (st : Nat) : State :=
  let leavers := news.filter (fun p => decide (st ∈ (s.annRec p.1).route ∧ st ∉ p.2))
  let joiners := news.filter (fun p => decide (st ∉ (s.annRec p.1).route ∧ st ∈ p.2))
  let s1 := leavers.foldl (fun s p => s.leaveRoute st p.1) s
  (sortBy joinOrder (s1.withEntries (joiners.map Prod.fst))).foldl (fun s p => s.present st p.1) s1

/-- R87: recompute the routes and apply the differences at each station. -/
def reroute (s : State) : State :=
  let news := s.alarm.entries.keys.map (fun n => (n, s.routeNow n))
  let s1 := stationNumbers.foldl (fun s st => s.rerouteAt news st) s
  news.foldl (fun s p => s.updAnnRec p.1 (fun a => { a with route := p.2 })) s1

/-- R91: the first waiting alarm is pushed if the stack is empty or its priority is greater than the top's. -/
def refillAt (s : State) (st : Nat) : State :=
  match sortBy urgentFirst (s.waiting st) with
  | [] => s
  | (n, _) :: _ => if s.exceedsTop st n then s.push st n else s

def refillAll (s : State) : State := s.ev.refill.foldl (fun s st => s.refillAt st) s

/-! ### The end of an event -/

/-- R62: the ANNOUNCE an entry touched by the event draws, if any. DEDUCED (log entry 55): an entry that stands at the event's
end as it stood before it has no changed field and draws none. -/
def announceOf (s : State) (t : Touch) : Option Announce :=
  let hiddenBefore := (t.before.map (·.hidden)).getD true
  match t.gone with
  | some a => if hiddenBefore then none else some a
  | none =>
    match s.entry? t.num with
    | none => none
    | some e =>
      if t.before.map (·.shown) = some e.shown ∨ (hiddenBefore ∧ e.hidden) then none
      else some ⟨s.refOf t.num, false, e.shown⟩

/-- R62: the ANNOUNCEs of the event in the order the entries were changed, that of an entry changed more than once at its first
change (DESIGN CHOICE, log entry 55), each to every UP station. DESIGN CHOICE (log entry 39): R62 gives the stations no order;
each goes to them by rising station number. -/
def announces (s : State) : List Out :=
  (s.ev.touched.filterMap s.announceOf).flatMap (fun a => s.upStations.map (fun st => s.outTo st (.announce a)))

/-- R92: the station is sent ATTENTION at the end of the event. -/
def attentionDue (s : State) (st : Nat) : Bool :=
  s.isUp st && (decide (s.tone? st ≠ s.ann.shown.look st) || decide (st ∈ s.ev.force)
    || s.ev.resound.any (fun p => decide (p.1 = st ∧ s.top? st = some p.2)))

/-- R92: the event's ATTENTION messages. DESIGN CHOICE (log entry 39): R87 says that stations need no order among them; they
go by rising station number. -/
def attentions (s : State) : List Out :=
  (stationNumbers.filter s.attentionDue).map (fun st => s.outTo st (.attention (s.tone? st)))

/-- R92: the shown top of every station that is sent ATTENTION. -/
def newShown (s : State) : Tbl (Ref × Priority) :=
  (stationNumbers.filter s.attentionDue).foldl (fun t st =>
    match s.tone? st with | none => t.del st | some x => t.put st x) s.ann.shown

/-- R36: NOTICE AREA for every area whose owner or cover station differs from its value before the event. DESIGN CHOICE
(log entry 39): R36 orders neither the areas nor the stations of one event; they go by rising area, then by rising
station. -/
def areaNotices (s : State) : List Out :=
  (s.ev.areaOld.filter (fun p => decide (p.2 ≠ (s.ownerOf p.1, s.coverOf p.1)))).flatMap (fun p =>
    let o := s.ownerOf p.1
    s.toUp (.area p.1 ((o.map (fun x => s.badgeOf x.1)).getD 0) ((o.map Prod.snd).getD 0)
      ((s.coverOf p.1).getD 0) (s.isOrphan p.1)))

/-- R36: the NOTICE AREA messages of a cover scan, which the scan sends before all that follows it in the event. A later
scan of the same event tells what has changed since (log entry 39). -/
def sayAreas (s : State) : State :=
  let t := s.say s.areaNotices
  { t with ev := { t.ev with areaOld := [] } }

/-- R156: the items that are unresolved and not reviewed. -/
def unreviewed (x : Session) : Nat := (x.items.filter (fun i => !i.resolved && !i.reviewed)).length

/-- R156: one NOTICE HANDOVER UPDATE for each open session whose list the event changed. DESIGN CHOICE (log entry 49): where
the event changed the lists of several areas, R156 gives them no order; they go by rising area. -/
def updateNotices (s : State) : List Out :=
  s.ev.items.flatMap (fun a =>
    match s.session? a with
    | none => []
    | some x => s.heardBy x.inStation (.notice (.handoverUpdate a x.items.length x.remainder (unreviewed x))))

/-- R67: NOTICE FLOOD carries the load as it stands after the event. -/
def withLoad (s : State) : Out → Out
  | .console st addr (.notice (.flood a f _)) => .console st addr (.notice (.flood a f (s.load a)))
  | o => o

/-- R63: an URGENT system alarm, PLANT LINK LOST or ALARM TABLE FULL, is ACTIVE. -/
def urgentActive (s : State) : Bool :=
  ((s.entry? 513).map (·.active)).getD false || ((s.entry? 514).map (·.active)).getD false

/-- The end of an event: routes are recomputed (R87), stacks refilled (R91), and the event's messages sent in this
order: those of `pre`, ANNOUNCE (R62), ATTENTION (R92), NOTICE HANDOVER UPDATE (R156), those of `post` (log entry 5). The
UNIT ALARM output follows the entries (R63). -/
def finish (s : State) : State :=
  let t := s.reroute.refillAll
  { s with
    ann := { t.ann with shown := t.newShown }
    alarm := { s.alarm with unitAlarm := s.urgentActive }
    sent := s.sent ++ s.ev.pre.map s.withLoad ++ s.announces ++ t.attentions ++ s.updateNotices
      ++ s.ev.post.map s.withLoad
    ev := EvBuf.empty }

/-! ### System alarms (R43, R44) -/

/-- R43: the priority of each system alarm. -/
def systemPriority (n : Nat) : Priority :=
  if n = 513 ∨ n = 514 then .urgent else if n = 520 then .medium else .high

/-- R44 *raise*. -/
def sysRaise (s : State) (n : Nat) (subject : Subject) : State :=
  match s.entry? n with
  | none =>
    (s.setEntry n { Entry.systemAtReset (systemPriority n) subject with raiseTime := s.time.mill }).announceAt n
  | some e =>
    let e' := { e with raiseCount := min (e.raiseCount + 1) Config.raiseCountMax, subject := subject }
    if e.active then s.setEntry n e'
    else (s.setEntry n { e' with active := true, returnTime := none }).represent n

/-- R44 *update*. -/
def sysUpdate (s : State) (n : Nat) (subject : Subject) : State :=
  match s.entry? n with
  | none => s
  | some e => if e.active then s.setEntry n { e with subject := subject } else s

/-- R59 for a system alarm: it becomes inactive. -/
def sysRemove (s : State) (n : Nat) : State := (s.withdrawStacks n).dropEntry n

/-- R44 *return*. -/
def sysReturn (s : State) (n : Nat) : State :=
  match s.entry? n with
  | none => s
  | some e =>
    if !e.active then s
    else if e.ack.isSome then s.sysRemove n
    else s.setEntry n { e with active := false, returnTime := some s.time.mill }

/-- R26, R37: a system alarm whose subject is a set follows the set: raised when it becomes non-empty, updated while
it changes, returned when it becomes empty. -/
def sysFollow (s : State) (n : Nat) (before after : NSet) (subject : Subject) : State :=
  if before = after then s
  else if before = [] then s.sysRaise n subject
  else if after = [] then s.sysReturn n
  else s.sysUpdate n subject

/-! ### The overdue count and withdrawal -/

/-- R102: the overdue count increases. -/
def overdueUp (s : State) : State :=
  let k := s.ann.overdue + 1
  { s with ann := { s.ann with overdue := k } }.sysRaise 518 (.count k)

/-- R102: the overdue count decreases. -/
def overdueDown (s : State) : State :=
  let k := s.ann.overdue - 1
  let t := { s with ann := { s.ann with overdue := k } }
  if k = 0 then t.sysReturn 518 else t.sysUpdate 518 (.count k)

/-- R94: withdraw an entry that is about to stop being ANNUNCIATED UNACKED. The entry itself is not changed, so that it is
OVERDUE ALARM that changes here (R62). -/
def withdraw (s : State) (n : Nat) : State :=
  match s.entry? n with
  | none => s
  | some e =>
    let t := s.withdrawStacks n
    if e.tag ≠ none ∧ e.ack = none ∧ e.stage = 2 then t.overdueDown else t

/-! ### A session's list (R156, R157) -/

/-- Rewrite an area's open session. -/
def updSession (s : State) (a : Nat) (f : Session → Session) : State :=
  match s.hand.look a with
  | some (.offered x) => { s with hand := s.hand.put a (.offered (f x)) }
  | some (.quiescing x) => { s with hand := s.hand.put a (.quiescing (f x)) }
  | _ => s

/-- R152: list an item, or count it in the remainder where the list is full. -/
def listItem (x : Session) (i : Item) : Session :=
  if x.items.length < Config.sessionItems then { x with items := x.items ++ [i] } else { x with remainder := bump x.remainder }

def noteItems (s : State) (a : Nat) : State := { s with ev := { s.ev with items := s.ev.items.ins a } }

/-- R156: a report to the Handover Controller appends one item where the area has an open session. -/
def appendItem (s : State) (a : Nat) (ref : ItemRef) (p : Option Priority) : State :=
  if (s.session? a).isSome then (s.updSession a (fun x => listItem x ⟨ref, p, false, false⟩)).noteItems a else s

/-- R157: the items of an area's open session that a test names become resolved. -/
def resolveItems (s : State) (a : Nat) (p : ItemRef → Bool) : State :=
  match s.session? a with
  | none => s
  | some x =>
    if x.items.any (fun i => !i.resolved && p i.ref) then
      (s.updSession a (fun x => { x with items := x.items.map (fun i =>
        if p i.ref then { i with resolved := true } else i) })).noteItems a
    else s

/-- R157: an item names the alarm of this reference. -/
def namesAlarm (r : Ref) : ItemRef → Bool
  | .unackedAlarm r' => decide (r' = r)
  | .standingAlarm r' => decide (r' = r)
  | _ => false

def namesOverride (k : OverrideKind) (n tag : Nat) : ItemRef → Bool
  | .bypass n' t' _ => decide (k = .bypass ∧ n' = n ∧ t' = tag)
  | .shelve n' t' _ => decide (k = .shelve ∧ n' = n ∧ t' = tag)
  | _ => false

def namesCommand (ticket tag : Nat) : ItemRef → Bool
  | .command k' t' => decide (k' = ticket ∧ t' = tag)
  | _ => false

def namesSummary : ItemRef → Bool
  | .deferredSummary _ => true
  | _ => false

/-- R157: an escalation sets the priority of the entry's unresolved alarm item. -/
def repriceItems (s : State) (a : Nat) (r : Ref) (p : Priority) : State :=
  s.updSession a (fun x => { x with items := x.items.map (fun i =>
    if !i.resolved && namesAlarm r i.ref then { i with priority := some p } else i) })

end State

end Sys2Proof.Machine
end

