-- ==== Sys2Proof/Machine/Flood.lean ====
section
/-! DEFINITION. The Flood Monitor (chapter 4): load arithmetic, flood hysteresis, the Deferred List and admission. -/

namespace Sys2Proof.Machine

/-- R66: the weight of a counted annunciation. -/
def Priority.weight : Priority → Nat
  | .urgent => 64 | .high => 32 | .medium => 16 | .low => 8

/-- R66: the addition saturates at 65535. -/
def addWeight (load weight : Nat) : Nat := min (load + weight) 65535

/-- R68: one decay of a load with decay constant `d`. -/
def decayed (load d : Nat) : Nat := if load = 0 then 0 else load - (load * d / 4096 + 1)

namespace State

def setLoad (s : State) (a load : Nat) : State :=
  { s with flood := { s.flood with load := s.flood.load.setD a 0 load } }

/-- The area's release timer stops, or runs with an expiry. -/
def setRelease (s : State) (a : Nat) (expiry : Option Nat) : State :=
  { s with flood := { s.flood with
      release := match expiry with | none => s.flood.release.del a | some x => s.flood.release.put a x } }

/-- R67: the flood flag changes, with NOTICE FLOOD to every UP station (its load is the load after the event). -/
def setFlooded (s : State) (a : Nat) (flag : Bool) : State :=
  { s with flood := { s.flood with flooded := if flag then s.flood.flooded.ins a else s.flood.flooded.del a } }.say
    (s.toUp (.flood a flag 0))

/-- R67: an area that is not flooded and has reached F_on becomes flooded and its release timer stops. -/
def floodEntryTest (s : State) (a : Nat) : State :=
  if !s.flooded a && decide ((s.areaRec a).floodOn ≤ s.load a) then (s.setFlooded a true).setRelease a none else s

/-- R67, R69, R13: a flooded area at F_off or below stops being flooded; its release timer starts where it has deferred
entries. -/
def floodExitTest (s : State) (a : Nat) : State :=
  if s.flooded a && decide (s.load a ≤ (s.areaRec a).floodOff) then
    let t := s.setFlooded a false
    if t.deferredOf a = [] then t else t.setRelease a (some (s.secondsAhead (s.areaRec a).release))
  else s

/-- R66: a counted annunciation adds the weight of a priority, followed at once by the flood entry test. -/
def addCounted (s : State) (a : Nat) (p : Priority) : State :=
  (s.setLoad a (addWeight (s.load a) p.weight)).floodEntryTest a

/-- R74: the overflow condition clears when the list has come down to 192 entries. -/
def overflowTest (s : State) : State :=
  if s.flood.overflow && decide (s.flood.deferred.length ≤ Config.overflowClear) then
    { s with flood := { s.flood with overflow := false, subject := [] } }.sysReturn 515
  else s

/-- R75: an entry leaves the Deferred List. The clearing test of R74 follows; an area with no entry left on the list
has its release timer stopped and its DEFERRED SUMMARY item resolved (R157). -/
def undefer (s : State) (n : Nat) : State :=
  match s.flood.deferred.find? (fun d => decide (d.ref.num = n)) with
  | none => s
  | some d =>
    let t := ({ s with flood := { s.flood with
      deferred := s.flood.deferred.filter (fun x => decide (x.ref.num ≠ n)) } }).overflowTest
    if t.deferredOf d.area = [] then (t.setRelease d.area none).resolveItems d.area namesSummary else t

/-- R72: an entry joins the tail of the Deferred List. -/
def defer (s : State) (n a : Nat) : State :=
  let t : State := { s with flood := { s.flood with deferred := s.flood.deferred ++ [⟨s.refOf n, a⟩] } }
  t.updEntry n (fun e => { e with disp := .deferred })

/-- R93: an entry enters ANNUNCIATED UNACKED. It becomes ANNUNCIATED, its stage-1 deadline is set (R99), its route is
computed and it is presented there; an open session of its area is told of a new annunciated raise (R156). -/
def annunciate (s : State) (n : Nat) : State :=
  match s.entry? n with
  | none => s
  | some e =>
    let s1 := s.setEntry n { e with disp := .annunciated }
    let s2 := s1.updAnnRec n (fun r =>
      { r with deadline := some (s1.secondsAhead ((s1.areaRec e.area).stage1Time e.cur), 1) })
    (s2.announceAt n).appendItem e.area (.unackedAlarm (s.refOf n)) (some e.cur)

/-- R73, R74: the counter, the condition and DEFERRAL OVERFLOW at an overflow of an area. -/
def noteOverflow (s : State) (a : Nat) : State :=
  let subject := if s.flood.overflow then s.flood.subject.ins a else [a]
  { s with flood := { s.flood with
      overflows := s.flood.overflows.setD a 0 (bump (s.flood.overflows.getD a 0))
      overflow := true, subject := subject } }.sysRaise 515 (.areas subject)

/-- R71: the admission of an entry, counted or uncounted, carried out with its disposition. -/
def admitEntry (s : State) (n : Nat) (counted : Bool) : State :=
  match s.entry? n with
  | none => s
  | some e =>
    let weigh (s : State) : State := if counted then s.addCounted e.area e.cur else s
    if s.flooded e.area && decide (e.cur.value ≤ (s.areaRec e.area).cut.value) then
      if s.flood.deferred.length < Config.deferredCapacity then s.defer n e.area
      else ((weigh s).noteOverflow e.area).annunciate n
    else (weigh s).annunciate n

/-- R68, R69: the decay event of an area. -/
def decay (s : State) (a : Nat) : State :=
  if s.load a = 0 then s else (s.setLoad a (decayed (s.load a) (s.areaRec a).decay)).floodExitTest a

/-- R78: the release timer of an area expires and its oldest deferred entry is released. -/
def releaseOldest (s : State) (a : Nat) : State :=
  match s.deferredOf a with
  | [] => s.setRelease a none
  | d :: _ =>
    let n := d.ref.num
    match s.entry? n with
    | none => s.undefer n
    | some e =>
      let s1 := ((s.undefer n).updEntry n (fun e => { e with disp := .annunciated })).addCounted a e.cur
      let s2 := s1.annunciate n
      if s2.flooded a then s2
      else if s2.deferredOf a = [] then s2.setRelease a none
      else s2.setRelease a (some (s.secondsAhead (s.areaRec a).release))

/-- R60 step 3, R81: the area's load becomes 0, its flag clears with NOTICE FLOOD if it was set, its timer stops. -/
def floodOut (s : State) (a : Nat) : State :=
  let t := (s.setLoad a 0).setRelease a none
  if s.flooded a then t.setFlooded a false else t

end State

end Sys2Proof.Machine
end

