-- ==== Sys2Proof/Machine/Alarm.lean ====
section
/-! DEFINITION. The Alarm Processor (chapter 3): notices, creation, return, suppression, re-decision,
acknowledgement and removal of ordinary entries. -/

namespace Sys2Proof.Machine

/-- The lowest number not used by a rising list of numbers, counting from `k`. -/
def lowestGap : Nat → List Nat → Nat
  | k, [] => k
  | k, x :: r => if x = k then lowestGap (k + 1) r else k

namespace State

/-- R41: the lowest-numbered free ordinary entry. -/
def freeEntry? (s : State) : Option Nat :=
  let k := lowestGap 0 s.alarm.entries.keys
  if k < Config.ordinaryEntries then some k else none

/-- R41: the entry of a tag and condition, if one exists. -/
def entryOf? (s : State) (tag cond : Nat) : Option (Nat × Entry) :=
  s.alarm.entries.find? (fun p => decide (p.2.tag = some tag ∧ p.2.cond = some cond))

/-- The ordinary entries of a tag, ascending. -/
def entriesOfTag (s : State) (tag : Nat) : List Nat := s.ordinaryWhere (fun e => decide (e.tag = some tag))

/-- The ordinary entries of an area, ascending. -/
def entriesOfArea (s : State) (a : Nat) : List Nat := s.ordinaryWhere (fun e => decide (e.area = a))

def countDiscarded (s : State) (a : Nat) : State :=
  { s with alarm := { s.alarm with discarded := s.alarm.discarded.setD a 0 (bump (s.alarm.discarded.getD a 0)) } }

def countDuplicate (s : State) (a : Nat) : State :=
  { s with alarm := { s.alarm with duplicates := s.alarm.duplicates.setD a 0 (bump (s.alarm.duplicates.getD a 0)) } }

def countDropped (s : State) (a : Nat) : State :=
  { s with alarm := { s.alarm with dropped := s.alarm.dropped.setD a 0 (bump (s.alarm.dropped.getD a 0)) } }

/-! ### Disposition (R49, R53) -/

/-- R49 step 2: an ACTIVE entry of the parent tag whose condition is in the mask. -/
def parentActive (s : State) (parent : Nat) (mask : BitVec 8) : Bool :=
  s.alarm.entries.any (fun p => p.2.active && decide (p.2.tag = some parent) &&
    (match p.2.cond with | some c => mask.getLsbD c | none => false))

/-- R49 step 2: the tag has a parent that suppresses its alarms now. -/
def suppressed (s : State) (tag : Nat) : Bool :=
  match (s.tagRec? tag).bind (·.parent) with
  | none => false
  | some (p, mask) => s.parentActive p mask

/-- R49 steps 2 to 4. -/
def decideUnshelved (s : State) (n : Nat) (counted : Bool) : State :=
  match s.entry? n with
  | none => s
  | some e =>
    if (e.tag.map s.suppressed).getD false then s.setEntry n { e with disp := .suppressed } else s.admitEntry n counted

/-- R49 steps 1 to 4, the disposition order. -/
def decideEntry (s : State) (n : Nat) (counted : Bool) : State :=
  match s.entry? n with
  | none => s
  | some e =>
    match e.tag.bind (s.override? .shelve) with
    | some (_, o) => s.setEntry n { e with disp := .shelved, ack := some ⟨s.time.mill, o.holder⟩ }
    | none => s.decideUnshelved n counted

/-- R53: what a re-decision sets before the disposition order is run again. -/
def resetForDecision (s : State) (n : Nat) : State :=
  (s.updEntry n (fun e => { e with ack := none, cur := e.cfg, stage := 0 })).updAnnRec n
    (fun r => { r with silenced := [], deadline := none })

/-- R52: the entry is a child of the tag: ACTIVE and SUPPRESSED, its tag record naming the tag as parent, its area in
service, and no qualifying parent entry left. -/
def freedChild (s : State) (tag n : Nat) : Bool :=
  match s.entry? n with
  | none => false
  | some e =>
    e.active && decide (e.disp = .suppressed) && s.inService e.area
      && (match e.tag with
        | none => false
        | some t => decide (((s.tagRec? t).bind (·.parent)).map Prod.fst = some tag) && !s.suppressed t)

/-- R52: after an entry of a tag has left ACTIVE, its children with no qualifying parent left are re-decided, one after
another in ascending entry number, each against the state the previous one left. -/
def parentDeparted (s : State) (tag : Nat) : State :=
  s.ordinary.foldl (fun s n => if s.freedChild tag n then (s.resetForDecision n).decideEntry n true else s) s

/-! ### Removal (R59, R50) -/

/-- R50: ALARM TABLE FULL returns when the free count has reached 32. -/
def tableFullTest (s : State) : State :=
  if s.alarm.tableFull && decide (Config.tableFullClear ≤ s.freeCount) then
    { s with alarm := { s.alarm with tableFull := false } }.sysReturn 514
  else s

/-- R41, R42: an ordinary entry is freed and its generation increases, from 65535 to 0. -/
def freeOrdinary (s : State) (n : Nat) : State :=
  let g := (s.alarm.gens.getD n 0 + 1) % 65536
  let t := s.dropEntry n
  ({ t with alarm := { t.alarm with gens := t.alarm.gens.setD n 0 g } }).tableFullTest

/-- R59: an ordinary entry is removed. It is changed at step 3, after the alarms that its step 1 changes (R62). -/
def removeEntry (s : State) (n : Nat) : State :=
  match s.entry? n with
  | none => s
  | some e =>
    let t := (((s.undefer n).withdraw n).resolveItems e.area (namesAlarm (s.refOf n))).freeOrdinary n
    if e.active then (match e.tag with | none => t | some tag => t.parentDeparted tag) else t

/-! ### Notices (R45 to R51) -/

/-- The areas ALARM TABLE FULL names while the table-full condition is set, none otherwise (R50). -/
def fullAreas (s : State) : NSet :=
  match s.alarm.tableFull, s.entry? 514 with
  | true, some e => (match e.subject with | .areas x => x | _ => [])
  | _, _ => []

/-- R50: a RAISE that finds no free entry is dropped. -/
def dropRaise (s : State) (a : Nat) : State :=
  let t := s.countDropped a
  let t : State := { t with alarm := { t.alarm with tableFull := true } }
  t.sysRaise 514 (.areas (s.fullAreas.ins a))

/-- R49: the entry a RAISE creates, before its disposition is decided. -/
def newEntry (tag cond a : Nat) (p : Priority) (time : MillTime) : Entry :=
  { tag := some tag, cond := some cond, area := a, cfg := p, cur := p, active := true, ack := none,
    disp := .annunciated, raiseTime := time, returnTime := none, raiseCount := 1, stage := 0, stale := false,
    confirmed := true, subject := .none }

/-- R49, R50: a RAISE for a pair with no entry. -/
def createEntry (s : State) (tag cond a : Nat) (p : Priority) (resync : Bool) (time : MillTime) : State :=
  match s.freeEntry? with
  | none => s.dropRaise a
  | some n => (s.setEntry n (newEntry tag cond a p time)).decideEntry n (!resync)

/-- R48: a RAISE on a RETURNED entry. -/
def reRaise (s : State) (n : Nat) (resync : Bool) : State :=
  match s.entry? n with
  | none => s
  | some e =>
    let s1 := s.setEntry n { e with
      active := true, returnTime := none, raiseCount := min (e.raiseCount + 1) Config.raiseCountMax }
    if e.disp = .annunciated then
      ((if resync then s1 else s1.addCounted e.area e.cur)).represent n
    else s1

/-- R46 to R50: a RAISE that applies. -/
def applyRaise (s : State) (tag cond a : Nat) (p : Priority) (resync : Bool) (time : MillTime) : State :=
  match s.entryOf? tag cond with
  | none => s.createEntry tag cond a p resync time
  | some (n, e) =>
    let s1 := s.setEntry n { e with stale := false, confirmed := true }
    if e.active then (if resync then s1 else s1.countDuplicate e.area) else s1.reRaise n resync

/-- R51: a RETURN of an entry that is ACTIVE. The entry is removed where it is ACKED or SUPPRESSED, and otherwise
becomes RETURNED, a parent departure. -/
def returnActive (s : State) (n : Nat) (time : MillTime) : State :=
  match s.entry? n with
  | none => s
  | some e =>
    if e.ack.isSome || decide (e.disp = .suppressed) then s.removeEntry n
    else
      let t := s.setEntry n { e with active := false, returnTime := some time }
      match e.tag with | none => t | some tag => t.parentDeparted tag

/-- R46, R51: a RETURN that finds its entry. -/
def applyReturn (s : State) (n : Nat) (e : Entry) (time : MillTime) : State :=
  let s1 := s.setEntry n { e with stale := false }
  if e.active then s1.returnActive n time else s1.countDuplicate e.area

/-- R45: a notice reaches the Alarm Processor. -/
def takeNotice (s : State) (tag cond : Nat) (raised resync : Bool) (time : MillTime) : State :=
  match s.tagRec? tag with
  | none => { s with plant := { s.plant with counters := { s.plant.counters with
      unknownTag := bump s.plant.counters.unknownTag } } }
  | some r =>
    match r.prio cond with
    | none => s.countDiscarded r.area
    | some p =>
      if !s.inService r.area then s.countDiscarded r.area
      else if raised then s.applyRaise tag cond r.area p resync time
      else
        match s.entryOf? tag cond with
        | none => s.countDiscarded r.area
        | some (n, e) => s.applyReturn n e time

/-! ### Requests from the Plant Port (R46) -/

/-- *Mark stale.* DESIGN CHOICE (log entry 54): R46 gives no order among the entries; they are set stale, and so announced
(R62), by rising entry number. -/
def markStale (s : State) : State :=
  s.ordinary.foldl (fun s n => s.updEntry n (fun e => { e with stale := true })) s

/-- *Clear confirmed.* No ANNOUNCE follows, the confirmed flag being none of its fields. -/
def clearConfirmed (s : State) : State :=
  { s with alarm := { s.alarm with entries := s.alarm.entries.map (fun p =>
    if p.1 < Config.ordinaryEntries then (p.1, { p.2 with confirmed := false }) else p) } }

/-- *Sweep.* R46 gives the order of the sweep itself, ascending entry number. DESIGN CHOICE (log entry 54): it gives none in
which the stale flags are cleared at its end; they are cleared, and so announced (R62), by rising entry number. -/
def sweep (s : State) : State :=
  let s1 := (s.ordinaryWhere (fun e => e.active && !e.confirmed)).foldl (fun s n =>
    if ((s.entry? n).map (fun e => e.active && !e.confirmed)).getD false then s.returnActive n s.time.mill else s) s
  s1.ordinary.foldl (fun s n => s.updEntry n (fun e => if e.confirmed then { e with stale := false } else e)) s1

/-! ### Acknowledgement (R56, R57) -/

/-- R56: the operator at the station is responsible for the entry. -/
def responsible (s : State) (op st : Nat) (e : Entry) : Bool :=
  if e.tag = none then s.isSupervisorRole op
  else
    decide (1 ≤ s.levelOf op e.area) &&
      (decide (s.ownerOf e.area = some (op, st))
        || (decide (s.ownerOf e.area = none) && decide (s.coverOf e.area = some st))
        || s.isSupervisorStation st
        || decide ((s.session? e.area).map (·.inStation) = some st))

/-- R178: ACK RELAY is sent in UP, DEGRADED and RESYNC and dropped in START and LOST, and counted. -/
def relayAck (s : State) (tag cond badge : Nat) (time : MillTime) : State :=
  let c := s.plant.counters
  if s.plant.link = .start ∨ s.plant.link = .lost then
    { s with plant := { s.plant with counters := { c with relaysDropped := bump c.relaysDropped } } }
  else
    { s with plant := { s.plant with counters := { c with relaysSent := bump c.relaysSent } } }.say
      [.plant (.ackRelay tag cond badge time)]

/-- R57 step 4, R58: the relay of an acknowledged ordinary entry whose tag record asks for it. -/
def relayFor (s : State) (e : Entry) (op : Nat) : State :=
  match e.tag, e.cond with
  | some tag, some cond =>
    if ((s.tagRec? tag).map (·.ackRelay)).getD false then s.relayAck tag cond (s.badgeOf op) s.time.mill else s
  | _, _ => s

/-- R57: an accepted acknowledgement. The entry is the first that the event changes (R57 step 1, R62). -/
def acknowledge (s : State) (n op : Nat) : State :=
  match s.entry? n with
  | none => s
  | some e =>
    let s1 := ((s.touch n).withdraw n).updEntry n (fun e => { e with ack := some ⟨s.time.mill, op⟩ })
    let s2 :=
      if !e.active then (if e.tag = none then s1.sysRemove n else s1.removeEntry n)
      else if e.disp = .deferred then (s1.undefer n).updEntry n (fun e => { e with disp := .annunciated })
      else s1
    s2.relayFor e op

end State

end Sys2Proof.Machine
end

