-- ==== Sys2Proof/Machine/Cover.lean ====
section
/-! DEFINITION. The Authority Unit's ownership and cover (R32, R35 to R37) and the handover transfer, closing and
cancellation that change ownership (R117, R161, R163, R167). -/

namespace Sys2Proof.Machine

namespace State

/-! ### Ownership and cover -/

/-- Remember the owner and cover an area had before the event (R36). -/
def noteArea (s : State) (a : Nat) : State :=
  if (s.ev.areaOld.look a).isSome then s
  else { s with ev := { s.ev with areaOld := s.ev.areaOld.put a (s.ownerOf a, s.coverOf a) } }

/-- The area becomes unowned. -/
def disown (s : State) (a : Nat) : State :=
  { s.noteArea a with auth := { s.auth with owner := s.auth.owner.del a } }

/-- The operator becomes owner at a station, and the area's cover station becomes none (R30, R32). -/
def giveOwner (s : State) (a op st : Nat) : State :=
  { s.noteArea a with auth := { s.auth with owner := s.auth.owner.put a (op, st), cover := s.auth.cover.del a } }

/-- R35: the station meets every condition of the cover walk. -/
def covers (s : State) (a st : Nat) : Bool :=
  (s.stationRec? st).isSome && s.isUp st
    && (match s.logonAt st with | none => false | some op => decide (1 ≤ s.levelOf op a)) && s.permits st a

/-- R35: the cover station that the walk gives an area. -/
def coverWalk (s : State) (a : Nat) : Option Nat :=
  if (s.ownerOf a).isSome then none else (s.areaRec a).fallback.find? (s.covers a)

def setCover (s : State) (a : Nat) : State :=
  let c := s.coverWalk a
  if s.coverOf a = c then s
  else { s.noteArea a with auth := { s.auth with
    cover := match c with | none => s.auth.cover.del a | some st => s.auth.cover.put a st } }

/-- R35: unowned, in service and with no cover station. -/
def orphanNow (s : State) (a : Nat) : Bool :=
  decide (s.ownerOf a = none) && s.inService a && decide (s.coverOf a = none)

/-- R35: the orphan set as the cover stations give it. -/
def setOrphans (s : State) : State :=
  { s with auth := { s.auth with orphans := areaNumbers.filter s.orphanNow } }

/-- R35, R36, R37, R87: the cover station of every area is evaluated afresh, and with it which areas are orphans; NOTICE
AREA is sent, the routes are recomputed, and ORPHAN AREA follows the orphan set. -/
def coverScan (s : State) : State :=
  let t := ((areaNumbers.foldl setCover s).setOrphans).sayAreas.reroute
  t.sysFollow 516 s.auth.orphans t.auth.orphans (.areas t.auth.orphans)

/-! ### Overrides of a transferred area (R117, R118) -/

/-- R118: NOTICE OVERRIDE of an override entry to every UP station, the seconds remaining being 0 for an ending. -/
def overrideNotice (s : State) (event : OverrideEvent) (o : Override) : List Out :=
  let ended := decide (event = .endedExpired ∨ event = .endedRemoved)
  s.toUp (.override event o.kind o.tag (s.badgeOf o.holder) o.station (if ended then 0 else s.secondsLeft o.expiry)
    o.reason)

/-- The area of an override entry: that of its tag's record (R106). -/
def overrideArea (s : State) (o : Override) : Option Nat := (s.tagRec? o.tag).map (·.area)

/-- R117: the holder of every override entry on a tag of the area becomes the new owner. -/
def changeHolders (s : State) (a op : Nat) : State :=
  (s.overrides.filter (fun p => decide (s.overrideArea p.2 = some a ∧ p.2.holder ≠ op))).foldl (fun s p =>
    let o := { p.2 with holder := op }
    ({ s with overrides := s.overrides.put p.1 o }).sayAfter (s.overrideNotice .holderChanged o)) s

/-! ### Closing and transfer (R161, R163, R167) -/

/-- The area becomes IDLE: its session or takeover record is discarded. -/
def idleHandover (s : State) (a : Nat) : State := { s with hand := s.hand.del a }

/-- R163: NOTICE HANDOVER CLOSED goes with the messages of the rule that owns the loss of a party, among its steps, and
before the rest of a TAKEOVER (R166); for the other reasons it follows the ATTENTION of the route change. -/
def sayClosed (s : State) (reason : CloseReason) (os : List Out) : State :=
  match reason with
  | .incomingGone => s.say os
  | .ownerChanged => s.say os
  | .supervisorGone => s.say os
  | .takeover => s.say os
  | _ => s.sayAfter os

/-- R163 step 2: a station whose place as incoming station has ended leaves the route of every entry of the area on which no
other line of R85 keeps it, as R87 step 1 gives. A station that a later step of the event brings back joins afresh. -/
def leaveIncoming (s : State) (a st : Nat) : State :=
  ((s.entriesOfArea a).filter (fun n => decide (st ∈ (s.annRec n).route ∧ st ∉ s.routeNow n))).foldl (fun s n =>
    (s.leaveRoute st n).updAnnRec n (fun r => { r with route := r.route.del st })) s

/-- R163 step 2 by the reason of the closing: at the loss of a party (INCOMING GONE, OWNER CHANGED) another line of R85 keeps
the station by the cover and orphan standing that the scan of the same rule gives (R10, R11, R29, R34, R88, R104), so it leaves
with that scan, from the final state; for the other reasons ownership and cover stand and it leaves at once. -/
def leaveClosed (s : State) (a st : Nat) (reason : CloseReason) : State :=
  match reason with
  | .incomingGone => s
  | .ownerChanged => s
  | _ => s.leaveIncoming a st

/-- R163: an open session closes without transfer. -/
def closeSession (s : State) (a : Nat) (reason : CloseReason) : State :=
  match s.session? a with
  | none => s
  | some x =>
    ((s.idleHandover a).leaveClosed a x.inStation reason).sayClosed reason
      (s.toBoth x.outStation x.inStation (.handoverClosed a reason))

/-- R167: a pending takeover is cancelled. -/
def cancelTakeover (s : State) (a : Nat) (reason : CloseReason) : State :=
  match s.hand.look a with
  | some (.takingOver t) =>
    let n : Notice := .handoverClosed a reason
    (s.idleHandover a).sayClosed reason
      (match s.ownerOf a with
        | none => s.heardBy t.station (.notice n)
        | some (_, st) => s.toBoth st t.station n)
  | _ => s

/-- R32: the Authority Unit transfers the area to the operator, or declines. The cover scan follows (R161 step 1). -/
def transferOwner (s : State) (a op : Nat) : Option State :=
  (s.ownerConditions op a).map (fun st => s.giveOwner a op st)

/-- R161 steps 2 to 4 and R167, after the Authority Unit has made the new owner: holders change, the area becomes IDLE and
both parties are told. DESIGN CHOICE (log entry 39): the rules do not say which station is sent it first; it goes to them in
the order in which the rule of the transfer names them. `old` is the former owner, if any. -/
def concludeTransfer (s : State) (a op : Nat) (kind : TransferKind) (old : Option (Nat × Nat)) : State :=
  let t := (s.changeHolders a op).idleHandover a
  let st := ((t.ownerOf a).map Prod.snd).getD 0
  match old, kind with
  | none, _ => t.sayAfter (t.heardBy st (.notice (.handoverDone a kind 0 0 (t.badgeOf op) st)))
  | some (o, ost), .handover => t.sayAfter (t.toBoth ost st (.handoverDone a kind (t.badgeOf o) ost (t.badgeOf op) st))
  | some (o, ost), .takeover => t.sayAfter (t.toBoth st ost (.handoverDone a kind (t.badgeOf o) ost (t.badgeOf op) st))

/-- R161: the transfer that completes a handover. -/
def completeHandover (s : State) (a : Nat) : State :=
  match s.session? a with
  | none => s
  | some x =>
    match s.transferOwner a x.inOp with
    | none => s.closeSession a .transferRefused
    | some t => t.coverScan.concludeTransfer a x.inOp .handover (some (x.outOp, x.outStation))

/-- R167: the completion of a takeover by an operator of an area whose owner has just lost it (R10, R11, R34), from an
unowned area and before the cover scan of the event. DESIGN CHOICE (log entry 56): R167 does not say whether the operator
who has just lost the area is then the former owner to whose station NOTICE HANDOVER DONE also goes. The area is unowned
when this is called, so the notice goes to the supervisor's station alone, with former badge and station 0; and so does the
NOTICE HANDOVER CLOSED of a completion declined here. -/
def takeArea (s : State) (a op : Nat) : State :=
  match s.transferOwner a op with
  | none => s.cancelTakeover a .transferRefused
  | some t => t.concludeTransfer a op .takeover (s.ownerOf a)

/-- R167: the completion of a takeover by an operator. -/
def completeTakeover (s : State) (a op : Nat) : State :=
  match s.transferOwner a op with
  | none => s.cancelTakeover a .transferRefused
  | some t => t.coverScan.concludeTransfer a op .takeover (s.ownerOf a)

/-- R134 step 3: an area whose commands in flight have ended carries out the transfer it waits for. -/
def quiesced (s : State) (a : Nat) : State :=
  if s.inFlight a ≠ [] then s
  else
    match s.hand.look a with
    | some (.quiescing _) => s.completeHandover a
    | some (.takingOver t) => s.completeTakeover a t.op
    | _ => s

end State

end Sys2Proof.Machine
end

