-- ==== Sys2Proof/Machine/Gate.lean ====
section
/-! DEFINITION. The Command Gate (chapters 7 and 8): tickets, the blocker, forwarding, the plant's replies, the ways a
command ends, and countersignature. -/

namespace Sys2Proof.Machine

/-- R121: the counter advances by one, from 65535 to 1. -/
def nextTicket (n : Nat) : Nat := if 65535 ≤ n then 1 else n + 1

/-- R121: values that are already tickets of the table are passed over; at most as many as the table holds. -/
def unusedTicket (t : Tbl Transit) : Nat → Nat → Nat
  | 0, n => n
  | fuel + 1, n => if (t.look n).isSome then unusedTicket t fuel (nextTicket n) else n

/-- A NOTICE OVERRIDE. -/
def Out.isOverride : Out → Bool
  | .console _ _ (.notice (.override _ _ _ _ _ _ _)) => true
  | _ => false

/-- A NOTICE HANDOVER DONE. -/
def Out.isTransferDone : Out → Bool
  | .console _ _ (.notice (.handoverDone _ _ _ _ _ _)) => true
  | _ => false

namespace State

/-! ### The blocker (R126) -/

/-- R126: the blocker does not block while a BYPASS entry for it is in use; otherwise its lowest-numbered ACTIVE entry
at or above the minimum priority blocks. -/
def blocker? (s : State) (r : TagRec) : Option Nat :=
  match r.blocker with
  | none => none
  | some (b, p) =>
    if (s.override? .bypass b).isSome then none
    else (s.ordinaryWhere (fun e =>
      e.active && decide (e.tag = some b) && decide (p.value ≤ e.cur.value))).head?

/-! ### Messages -/

/-- R128, R178: the FORWARD of an entry, with the badges the Roster holds now. -/
def forwardMsg (s : State) (k : Nat) (t : Transit) (again : Bool) : Out :=
  .plant (.forward k t.tag t.action t.value (s.badgeOf t.origOp)
    ((t.signer.map (fun x => s.badgeOf x.1)).getD 0) t.key again)

/-- R137: RESULT to the originating station, to the countersigner's station where one is recorded, and to any further
station the ending names, once to each. DESIGN CHOICE (log entry 39): no rule says which copy leaves first; they go in the
order of this sentence. -/
def resultMsgs (s : State) (k : Nat) (t : Transit) (outcome : ResultOutcome) (detail : Nat) (also : Option Nat) :
    List Out :=
  let stations := (t.origStation :: ((t.signer.map Prod.snd).toList ++ also.toList)).dedup
  stations.flatMap (fun st => s.heardBy st (.result k t.tag t.action outcome detail s.time.mill))

/-- R149: NOTICE COUNTERSIGN CLOSED to every staffed station whose operator holds level 3 in the entry's area, but for
the originating station and the station whose COUNTERSIGN caused the event. DESIGN CHOICE (log entry 39): R149 gives the
stations no order; they go by rising station number. -/
def closedMsgs (s : State) (k : Nat) (t : Transit) (outcome : ClosedOutcome) (cause : Option Nat) : List Out :=
  (stationNumbers.filter (fun st => decide (st ≠ t.origStation ∧ some st ≠ cause)
    && (match s.logonAt st with | none => false | some op => decide (3 ≤ s.levelOf op t.area)))).flatMap
      (fun st => s.heardBy st (.notice (.countersignClosed k t.tag outcome)))

/-! ### Ending a command (R134) -/

def freeTransit (s : State) (k : Nat) : State := { s with gate := { s.gate with transit := s.gate.transit.del k } }

/-- R134 for an entry AWAITING COUNTERSIGN, with the closing notice of R149. -/
def endAwaiting (s : State) (k : Nat) (outcome : ResultOutcome) (detail : Nat) (closed : ClosedOutcome)
    (cause also : Option Nat) : State :=
  match s.gate.transit.look k with
  | none => s
  | some t =>
    (((s.freeTransit k).say (s.resultMsgs k t outcome detail also)).say (s.closedMsgs k t closed cause)).resolveItems
      t.area (namesCommand k t.tag)

/-- R134 for a FORWARDED or REPEAT WAIT entry: the area's wait may end with it. -/
def endFlight (s : State) (k : Nat) (outcome : ResultOutcome) (detail : Nat) : State :=
  match s.gate.transit.look k with
  | none => s
  | some t =>
    (((s.freeTransit k).say (s.resultMsgs k t outcome detail none)).resolveItems t.area
      (namesCommand k t.tag)).quiesced t.area

/-- R148: every AWAITING COUNTERSIGN entry of a condition is withdrawn, in ascending ticket order. -/
def withdrawWaiting (s : State) (p : Transit → Bool) (reason : WithdrawReason) : State :=
  (s.transitWhere (fun t => decide (t.state = .awaiting) && p t)).foldl
    (fun s k => s.endAwaiting k .withdrawn reason.number .withdrawn none none) s

def updTransit (s : State) (k : Nat) (f : Transit → Transit) : State :=
  { s with gate := { s.gate with transit := s.gate.transit.upd k f } }

/-- R5 field 7: the tag's command base time in unit-time counts (units of 100 ms). -/
def baseTime (s : State) (tag : Nat) : Nat := 10 * ((s.tagRec? tag).map (·.base)).getD 0

/-- R128: an entry becomes FORWARDED with its reply deadline, and FORWARD is sent. -/
def forwardEntry (s : State) (k : Nat) : State :=
  match s.gate.transit.look k with
  | none => s
  | some t =>
    let t' := { t with state := .forwarded, deadline := s.now + s.baseTime t.tag }
    ({ s with gate := { s.gate with transit := s.gate.transit.put k t' } }).say [s.forwardMsg k t' false]

/-! ### Taking a command (R122 to R127) -/

/-- R141: COUNTERSIGN REQUEST to every UP station staffed by an operator other than the originator who holds level 3 in
the area, in ascending station number. -/
def countersignRequests (s : State) (k : Nat) (t : Transit) : List Out :=
  (s.upStations.filter (fun st =>
    match s.logonAt st with | none => false | some op => decide (op ≠ t.origOp ∧ 3 ≤ s.levelOf op t.area))).map
      (fun st => s.outTo st (.countersignRequest k t.tag t.area t.action t.value (s.badgeOf t.origOp) t.origStation
        (10 * (t.deadline - s.now))))

/-- R127: the entry that an accepted COMMAND creates, before it is forwarded. -/
def newTransit (s : State) (op st tag : Nat) (r : TagRec) (action : Action) (value : BitVec 32) : Transit :=
  { tag := tag, area := r.area, action := action, value := value, origOp := op, origStation := st, signer := none,
    key := s.keySupervisor op st, state := .awaiting, createdUnit := s.now, createdMill := s.time.mill,
    deadline := s.now + (s.areaRec r.area).window * Config.ticksPerSecond, extensions := 0, windowEnd := none,
    resend := none }

/-- R121: the ticket the next entry receives. -/
def ticketNow (s : State) : Nat := unusedTicket s.gate.transit Config.transitEntries s.gate.ticket

/-- R121, R127: an accepted COMMAND creates an entry, which waits for a countersignature (class 4 without the key) or is
forwarded at once; an open session of the area is told. -/
def createTransit (s : State) (op st tag : Nat) (r : TagRec) (action : Action) (value : BitVec 32) : State :=
  let k := s.ticketNow
  let t := s.newTransit op st tag r action value
  let table := s.gate.transit.put k t
  let s1 : State := { s with gate := { s.gate with
    transit := table, ticket := unusedTicket table (Config.transitEntries + 1) (nextTicket k) } }
  let s2 := if r.cls = 4 ∧ t.key = false then s1.say (s.countersignRequests k t) else s1.forwardEntry k
  s2.appendItem r.area (.command k tag) none

/-- R122: the checks of COMMAND, in order, and the creation of its entry. -/
def takeCommand (s : State) (st tag action : Nat) (value : BitVec 32) (rsv : Nat) : State × Ans :=
  if rsv ≠ 0 then (s, ans .reserved)
  else if 4095 < tag then (s, ans .range)
  else
    match s.tagRec? tag, Action.ofCode action, s.logonAt st with
    | none, _, _ => (s, ans .missingRecord)
    | some _, none, _ => (s, ans .code)
    | some _, some _, none => (s, ans .notLoggedOn)
    | some r, some act, some op =>
      if r.cls = 0 then (s, ans .readOnly)
      else if s.levelOf op r.area < classLevel r.cls then (s, ans .level (classLevel r.cls))
      else if !(s.isOwnerStation st r.area || s.keySupervisor op st) then (s, ans .notOwner)
      else if s.plant.link = .lost ∨ s.plant.link = .start then (s, ans .plantLost)
      else if s.isQuiescing r.area then (s, ans .handover)
      else
        match s.transitWhere (fun t => decide (t.tag = tag)), s.blocker? r with
        | k :: _, _ => (s, ans .tagBusy k)
        | [], some n => (s, ans .blocked n)
        | [], none =>
          if Config.transitEntries ≤ s.gate.transit.length then (s, ans .transitFull)
          else (s.createTransit op st tag r act value, ans .pending s.ticketNow)

/-! ### Countersignature (R142 to R146) -/

/-- R144: the first originator condition that fails at the agreement, if any. -/
def recheck (s : State) (t : Transit) : Option Code :=
  if s.logonAt t.origStation ≠ some t.origOp then some .notLoggedOn
  else if s.levelOf t.origOp t.area < 3 then some .level
  else if s.ownerOf t.area ≠ some (t.origOp, t.origStation) then some .notOwner
  else if s.plant.link = .lost ∨ s.plant.link = .start then some .plantLost
  else if s.isQuiescing t.area then some .handover
  else if (((s.tagRec? t.tag).bind s.blocker?)).isSome then some .blocked
  else none

/-- R142: the checks of COUNTERSIGN, either decision; on success the signer and the entry. -/
def countersignChecks (s : State) (st ticket tag rsv : Nat) : Except Ans (Nat × Transit) :=
  if rsv ≠ 0 then .error (ans .reserved)
  else if ticket = 0 ∨ 65535 < ticket ∨ 4095 < tag then .error (ans .range)
  else
    match s.logonAt st with
    | none => .error (ans .notLoggedOn)
    | some op =>
      match s.gate.transit.look ticket with
      | none => .error (ans .notPending)
      | some t =>
        if t.tag ≠ tag ∨ t.state ≠ .awaiting then .error (ans .notPending)
        else if op = t.origOp ∨ st = t.origStation ∨ s.levelOf op t.area < 3 then .error (ans .notEligible)
        else .ok (op, t)

/-- R143. -/
def takeDecline (s : State) (st ticket tag rsv : Nat) : State × Ans :=
  match s.countersignChecks st ticket tag rsv with
  | .error a => (s, a)
  | .ok (op, _) => (s.endAwaiting ticket .declined op .declined (some st) none, ans .done ticket)

/-- R144. -/
def takeAgree (s : State) (st ticket tag rsv : Nat) : State × Ans :=
  match s.countersignChecks st ticket tag rsv with
  | .error a => (s, a)
  | .ok (op, t) =>
    match s.recheck t with
    | some c => (s.endAwaiting ticket .refused c.number .refused (some st) (some st), ans .done ticket)
    | none =>
      let s1 := (s.updTransit ticket (fun t => { t with signer := some (op, st) })).forwardEntry ticket
      (s1.say (s.closedMsgs ticket t .forwarded (some st)), ans .done ticket)

/-- R146. -/
def takeWithdraw (s : State) (st ticket rsv : Nat) : State × Ans :=
  if rsv ≠ 0 then (s, ans .reserved)
  else if ticket = 0 ∨ 65535 < ticket then (s, ans .range)
  else
    match s.logonAt st, s.gate.transit.look ticket with
    | none, _ => (s, ans .notLoggedOn)
    | some _, none => (s, ans .notPending)
    | some op, some t =>
      if t.state ≠ .awaiting then (s, ans .notPending)
      else if op ≠ t.origOp ∨ st ≠ t.origStation then (s, ans .notOriginator)
      else (s.endAwaiting ticket .withdrawn WithdrawReason.withdraw.number .withdrawn none none, ans .done ticket)

/-! ### Replies (R129 to R133) and the gate's own timers -/

def countGate (s : State) (f : CountersG → CountersG) : State :=
  { s with gate := { s.gate with counters := f s.gate.counters } }

/-- R129: the entry a REPLY matches, if any; a REPLY that matches none is late. -/
def replyEntry? (s : State) (ticket tag : Nat) : Option Transit :=
  match s.gate.transit.look ticket with
  | none => none
  | some t => if t.tag = tag ∧ t.state ≠ .awaiting then some t else none

def lateReply (s : State) : State := s.countGate (fun c => { c with late := bump c.late })

/-- R130: a final REPLY. -/
def finalReply (s : State) (ticket tag : Nat) (outcome : ResultOutcome) (detail : Nat) : State :=
  match s.replyEntry? ticket tag with
  | none => s.lateReply
  | some _ => s.endFlight ticket outcome detail

/-- R131: a BUSY of an entry whose repeat window has not passed and which is FORWARDED: it becomes REPEAT WAIT. -/
def enterRepeatWait (s : State) (ticket : Nat) (t : Transit) : State :=
  let resend := s.now + Config.resendWait
  s.updTransit ticket (fun _ => { t with
    state := .repeatWait
    windowEnd := some (t.windowEnd.getD (s.now + Config.repeatWindow))
    resend := some resend
    deadline := max t.deadline (resend + s.baseTime t.tag) })

/-- R131. -/
def busyReply (s : State) (ticket tag : Nat) : State :=
  match s.replyEntry? ticket tag with
  | none => s.lateReply
  | some t =>
    if (t.windowEnd.map (fun w => decide (w < s.now))).getD false then
      (s.countGate (fun c => { c with busy := bump c.busy })).endFlight ticket .failedPlantBusy 0
    else if t.state = .repeatWait then s
    else s.enterRepeatWait ticket t

/-- R133: the smaller of `n` and what is left of eight extensions is granted. -/
def extendReply (s : State) (ticket tag n : Nat) : State :=
  match s.replyEntry? ticket tag with
  | none => s.lateReply
  | some t =>
    let granted := min n (Config.maxExtensions - t.extensions)
    s.updTransit ticket (fun t => { t with
      deadline := t.deadline + granted * s.baseTime t.tag, extensions := t.extensions + granted })

/-- The entry of a ticket, if there is one, meets a condition. -/
def ticketWhere (s : State) (ticket : Nat) (p : Transit → Bool) : Bool :=
  ((s.gate.transit.look ticket).map p).getD false

/-- R132: an entry in REPEAT WAIT has come to its re-send time. -/
def resendDue (s : State) (ticket : Nat) : Bool :=
  s.ticketWhere ticket (fun t =>
    decide (t.state = .repeatWait) && (t.resend.map (fun x => decide (x ≤ s.now))).getD false)

/-- R132: the entry becomes FORWARDED, and FORWARD is sent again with the repeat flag. -/
def resend (s : State) (ticket : Nat) : State :=
  match s.gate.transit.look ticket with
  | none => s
  | some t =>
    (s.updTransit ticket (fun t => { t with state := .forwarded, resend := none })).say [s.forwardMsg ticket t true]

/-- R135: a FORWARDED or REPEAT WAIT entry has come to its reply deadline. -/
def replyDeadlineDue (s : State) (ticket : Nat) : Bool :=
  s.ticketWhere ticket (fun t => decide (t.state ≠ .awaiting ∧ t.deadline ≤ s.now))

/-- R135: no reply has come in time. -/
def replyMissing (s : State) (ticket : Nat) : State :=
  match s.gate.transit.look ticket with
  | none => s
  | some t => (s.countGate (fun c => { c with noReply := bump c.noReply })).endFlight ticket .failedNoReply t.extensions

/-- R147: the countersign window of an AWAITING COUNTERSIGN entry has run out. -/
def windowDue (s : State) (ticket : Nat) : Bool :=
  s.ticketWhere ticket (fun t => decide (t.state = .awaiting ∧ t.deadline ≤ s.now))

/-- R147: the entry lapses. -/
def windowEnds (s : State) (ticket : Nat) : State := s.endAwaiting ticket .lapsed 0 .lapsed none none

/-- R134, R136: an ending by the loss of the link. -/
def failOne (s : State) (k : Nat) : State :=
  (s.countGate (fun c => { c with loss := bump c.loss })).endFlight k .failedPlantLost 0

/-- The messages of an ending that follow the event's ATTENTION messages: where the ending changes holders, NOTICE OVERRIDE
(R118) and the NOTICE HANDOVER DONE that comes after the holder changes (R168); elsewhere none. -/
def heldBack (ending : List Out) (o : Out) : Bool := ending.any Out.isOverride && (o.isOverride || o.isTransferDone)

/-- R134, R136: an ending that other endings of the event follow. All that it says goes before what the next one says, but
for what it holds back (log entry 5). -/
def failInTurn (s : State) (k : Nat) : State :=
  let t := { s with ev := { s.ev with post := [] } }.failOne k
  { t with ev := { t.ev with
      pre := t.ev.pre ++ t.ev.post.filter (fun o => !heldBack t.ev.post o)
      post := s.ev.post ++ t.ev.post.filter (heldBack t.ev.post) } }

/-- R136: the plant link has entered LOST. -/
def failInFlight (s : State) : State :=
  let failed := s.transitWhere (fun t => decide (t.state ≠ .awaiting))
  match failed.getLast? with
  | none => s
  | some last => (failed.dropLast.foldl failInTurn s).failOne last

end State

end Sys2Proof.Machine
end

