-- ==== Sys2Proof/Machine/ConsolePort.lean ====
section
/-! DEFINITION. The Console Port (R21 to R26, R183, R184): how a frame is accepted, what its arrival does to the link
state of its station, how its ANSWER follows, and the shape every command's event has. -/

namespace Sys2Proof.Machine

namespace State

/-- Nothing sent and nothing half done: where every event starts. -/
def fresh (s : State) : State := { s with sent := [], ev := EvBuf.empty }

def countA (s : State) (f : CountersA → CountersA) : State :=
  { s with console := { s.console with counters := f s.console.counters } }

/-- R184: the ANSWER goes to the link address the request came from, which was the address its station's record held
when the request arrived (R9, R180). -/
def answer (s : State) (h : Hdr) (a : Ans) : State :=
  { s with sent := s.sent ++ [.console h.station h.src (.answer h.rtag a)] }

def setLink (s : State) (st : Nat) (l : LinkState) : State :=
  { s with console := { s.console with link := s.console.link.setD st .absent l } }

/-- R22, R23, R26: the LOST set has changed from what it was; CONSOLE LOST follows it. -/
def followLost (s : State) (before : NSet) : State := s.sysFollow 517 before s.lostSet (.stations s.lostSet)

/-- R34, R23, R10: a station's grace timer stops. -/
def stopGrace (s : State) (st : Nat) : State := { s with auth := { s.auth with grace := s.auth.grace.del st } }

/-- The set of areas an operator owns. Where one event releases several of them, they go by rising area (DESIGN CHOICE, log
entry 40). -/
def areasOf (s : State) (op : Nat) : NSet :=
  areaNumbers.filter (fun a => decide ((s.ownerOf a).map Prod.fst = some op))

/-- R23: NOTICE RESUME with the badge of the operator logged on at the station, or none, and the areas that operator
owns. -/
def resumeNotice (s : State) (st : Nat) : Notice :=
  match s.logonAt st with
  | none => .resume 0 []
  | some op => .resume (s.badgeOf op) (s.areasOf op)

/-- R92: the station is sent ATTENTION at the end of the event whatever its shown top. -/
def forceAttention (s : State) (st : Nat) : State := { s with ev := { s.ev with force := s.ev.force.ins st } }

/-- R23: a LOST station returns: grace stops, cover is rescanned, NOTICE RESUME goes out and the stack is shown
afresh. -/
def stationReturns (s : State) (st : Nat) : State :=
  let s1 := ((s.setLink st .up).stopGrace st).followLost s.lostSet
  ((s1.coverScan).say [s1.outTo st (.notice (s1.resumeNotice st))]).forceAttention st

/-- R21: an accepted frame serves the link watch of its station. The change of link state is an event of its own whose
messages go before the frame is handled (R23). -/
def serveWatch (s : State) (st : Nat) : State :=
  let s1 : State := { s with console := { s.console with heard := s.console.heard.put st s.now } }
  match s1.link st with
  | .up => s1
  | .absent => ((s1.setLink st .up).coverScan).finish
  | .lost => (s1.stationReturns st).finish

/-- R24: the first accepted frame since the flag was set clears it and draws NOTICE RESTARTED. -/
def serveRestarted (s : State) (st : Nat) : State :=
  if st ∈ s.console.restartPending then
    { s with
      console := { s.console with restartPending := s.console.restartPending.del st }
      sent := s.sent ++ [s.outTo st (.notice (.restarted s.time.mill s.time.clockUnset))] }
  else s

/-- R183: what every accepted frame does before it is taken as a request: it is counted, serves the link watch and
then the RESTARTED-pending flag. -/
def admitFrame (s : State) (st : Nat) : State :=
  ((s.countA (fun c => { c with accepted := bump c.accepted })).serveWatch st).serveRestarted st

/-- R184: a request is handled, its event ends, and its ANSWER follows every message it caused. -/
def handle (s : State) (h : Hdr) (f : State → State × Ans) : State :=
  (if (f s).2.code.changes then (f s).1.finish else (f s).1).answer h (f s).2

/-- R183 checks 2 and 3, then the accepted frame. Check 1 has been passed: `h` heads a frame of consistent length. -/
def receive (s : State) (h : Hdr) (f : State → State) : State :=
  match (if 1 ≤ h.station ∧ h.station ≤ 16 then s.stationRec? h.station else none) with
  | none => s.countA (fun c => { c with unknown := bump c.unknown })
  | some r =>
    if r.addr ≠ h.src then s.countA (fun c => { c with mismatch := bump c.mismatch }) else f (s.admitFrame h.station)

/-- R184: an accepted frame of a console request: the header's reserved field is tested, then the request goes to the
block that owns it. -/
def request (s : State) (h : Hdr) (f : State → State) : State :=
  s.receive h (fun s => if h.rsv ≠ 0 then s.answer h (ans .reserved) else f s)

/-- R22: an UP station whose watch has run out becomes LOST. -/
def stationLost (s : State) (st : Nat) : State :=
  let s1 := (s.setLink st .lost).followLost s.lostSet
  let s2 : State :=
    if s1.staffed st then
      { s1 with auth := { s1.auth with
        grace :=
        s1.auth.grace.put st (s1.secondsAhead (((s1.stationRec? st).map (·.grace)).getD 0)) } }
    else s1
  s2.coverScan

/-- R21: the silence watch of an UP station has run out. -/
def silenceDue (s : State) (st : Nat) : Bool :=
  s.isUp st && s.watchDue ((s.console.heard.look st).getD 0) Config.consoleSilence

end State

/-! ### The shape of a command -/

/-- A command is one event. While the unit has no power or is held in RESET it takes no frame and its timers do not
run (R189), so the command leaves it as it is. -/
def event (f : State → State) (s : State) : Host.Outcome State Fault Refusal :=
  .next (if s.running then f s.fresh else s.fresh)

/-- A console request that is answered within its event. -/
def requestEvent (h : Hdr) (f : State → State × Ans) (s : State) : Host.Outcome State Fault Refusal :=
  event (fun s => s.request h (fun s => s.handle h f)) s

/-- A console request that only reads. -/
def askEvent (h : Hdr) (f : State → Ans) (s : State) : Host.Outcome State Fault Refusal :=
  event (fun s => s.request h (fun s => s.answer h (f s))) s

/-- A frame at Port B: it is carried out and its messages are sent. -/
def plantEvent (f : State → State) (s : State) : Host.Outcome State Fault Refusal :=
  event (fun s => (f s).finish) s

/-- An event of one of the unit's own timers. It happens where its time has come and what it waits for still stands; the
expiry of a timer that another event has stopped or moved does not happen. -/
def timerEvent (due : State → Bool) (f : State → State) (s : State) : Host.Outcome State Fault Refusal :=
  event (fun s => if due s then (f s).finish else s) s

/-! ### The commands of this block -/

/-- R21: BEAT serves the watch, draws no answer and is not examined further (R184). -/
def execBeat (h : Hdr) (s : State) : Host.Outcome State Fault Refusal :=
  event (fun s => s.receive h (fun s => s)) s

/-- R21, R22: 5 s have passed since a station's last-heard time. -/
def execConsoleSilenceTimeout (station : Nat) (s : State) : Host.Outcome State Fault Refusal :=
  timerEvent (fun s => s.silenceDue station) (fun s => s.stationLost station) s

end Sys2Proof.Machine
end

