-- ==== Sys2Proof/Machine/Authority.lean ====
section
/-! DEFINITION. The Authority Unit's own events (chapter 2): LOGON, LOGOFF, CLAIM, RELEASE, the loss of an operator by
grace expiry or by a Roster write, and the MASTER KEY line. -/

namespace Sys2Proof.Machine

namespace State

/-! ### The end of a logon -/

/-- The areas with an open session of a condition. DESIGN CHOICE (log entry 40): where one event closes several sessions, the
rules give no order; they close by rising area. -/
def sessionsWhere (s : State) (p : Session → Bool) : List Nat :=
  areaNumbers.filter (fun a => ((s.session? a).map p).getD false)

/-- The areas with a pending takeover led by an operator, cancelled by rising area (DESIGN CHOICE, log entry 40). -/
def takeoversBy (s : State) (op : Nat) : List Nat :=
  areaNumbers.filter (fun a =>
    match s.hand.look a with | some (.takingOver t) => decide (t.op = op) | _ => false)

/-- R10 step 3, R29 step 1, R34 step 3: sessions in which the operator is incoming close, and takeovers the operator
leads are cancelled. -/
def endIncoming (s : State) (op : Nat) : State :=
  let s1 := (s.sessionsWhere (fun x => decide (x.inOp = op))).foldl (fun s a => s.closeSession a .incomingGone) s
  (s1.takeoversBy op).foldl (fun s a => s.cancelTakeover a .supervisorGone) s1

/-- R10 step 2, R34 step 2: sessions in which the operator is outgoing close. -/
def endOutgoing (s : State) (op : Nat) : State :=
  (s.sessionsWhere (fun x => decide (x.outOp = op))).foldl (fun s a => s.closeSession a .ownerChanged) s

/-- R10 step 1, R11, R34 step 1: an area is taken from its owner. A takeover pending on it completes at once, from an
unowned area and before the cover scan (R167). -/
def loseArea (s : State) (a : Nat) : State :=
  let t := s.disown a
  match t.hand.look a with
  | some (.takingOver x) => t.takeArea a x.op
  | _ => t

/-- The logon at a station ends, its grace timer with it (R33). -/
def endLogon (s : State) (st : Nat) : State :=
  { s with auth := { s.auth with logon := s.auth.logon.del st, grace := s.auth.grace.del st } }

/-- R10, R34: an operator is forced off a station. -/
def forceOff (s : State) (op st : Nat) (reason : LogoffReason) (withdrawal : WithdrawReason) : State :=
  let s1 := (s.areasOf op).foldl loseArea s
  let s2 := (s1.endOutgoing op).endIncoming op
  let s3 := (s2.withdrawWaiting (fun t => decide (t.origOp = op)) withdrawal).endLogon st
  (s3.say (s3.heardBy st (.notice (.loggedOff reason)))).coverScan

/-- R34: the grace timer of a station has come to its expiry. -/
def graceDue (s : State) (st : Nat) : Bool := ((s.auth.grace.look st).map (fun x => decide (x ≤ s.now))).getD false

/-- R34: the station's operator is logged off. -/
def graceEnds (s : State) (st : Nat) : State :=
  match s.logonAt st with
  | some op => s.forceOff op st .link .link
  | none => s.stopGrace st

/-! ### Requests -/

/-- R28: LOGON. -/
def takeLogon (s : State) (st badge rsv : Nat) : State × Ans :=
  if badge = 0 ∨ 65535 < badge then (s, ans .range)
  else if rsv ≠ 0 then (s, ans .reserved)
  else
    match s.logonAt st, s.tables.roster.find? (fun p => decide (p.2.badge = badge)), s.stationRec? st with
    | some op, _, _ => (s, ans .stationOccupied op)
    | none, none, _ => (s, ans .unknownBadge)
    | none, some (_, r), none => (s, if r.enabled then ans .stationNotPermitted else ans .disabled)
    | none, some (op, r), some q =>
      if !r.enabled then (s, ans .disabled)
      else if st ∉ r.stations then (s, ans .stationNotPermitted)
      else if !roleFits q.kind r.role then (s, ans .role)
      else
        match s.stationOf op with
        | some other => (s, ans .alreadyLoggedOn other)
        | none =>
          (({ s with auth := { s.auth with logon := s.auth.logon.put st op } } : State).coverScan, ans .done op)

/-- R29: the lowest area that the operator owns or is handing over. -/
def heldArea? (s : State) (op : Nat) : Option Nat :=
  areaNumbers.find? (fun a => decide ((s.ownerOf a).map Prod.fst = some op) ||
    decide ((s.session? a).map (·.outOp) = some op))

/-- R29: LOGOFF. -/
def takeLogoff (s : State) (st : Nat) : State × Ans :=
  match s.logonAt st with
  | none => (s, ans .already)
  | some op =>
    match s.heldArea? op with
    | some a => (s, ans .ownsArea a)
    | none =>
      let s1 := (s.endIncoming op).withdrawWaiting (fun t => decide (t.origOp = op)) .logoff
      (((s1.endLogon st).coverScan).forceAttention st, ans .done)

/-- The format check of a request that names an area and nothing else that can be wrong, RANGE tested first (R30, R31,
R60). -/
def areaFault? (area rsv : Nat) : Option Ans :=
  if area < 1 ∨ 12 < area then some (ans .range) else if rsv ≠ 0 then some (ans .reserved) else none

/-- R30: CLAIM. -/
def takeClaim (s : State) (st area rsv : Nat) : State × Ans :=
  match areaFault? area rsv, s.logonAt st with
  | some a, _ => (s, a)
  | none, none => (s, ans .notLoggedOn)
  | none, some op =>
    if !s.permits st area then (s, ans .areaNotPermitted)
    else if s.levelOf op area < 1 then (s, ans .level)
    else
      match s.ownerOf area with
      | some (o, ost) => if o = op then (s, ans .already) else (s, ans .areaOwned ost)
      | none => ((s.giveOwner area op st).coverScan, ans .done)

/-- R31 check 5: the area's UNACKED ordinary entries that are ANNUNCIATED or DEFERRED. -/
def unackedHolding (s : State) (a : Nat) : List Nat :=
  s.ordinaryWhere (fun e =>
    decide (e.area = a ∧ e.ack = none ∧ (e.disp = .annunciated ∨ e.disp = .deferred)))

/-- R31: RELEASE. -/
def takeRelease (s : State) (st area rsv : Nat) : State × Ans :=
  match areaFault? area rsv, s.logonAt st with
  | some a, _ => (s, a)
  | none, none => (s, ans .notLoggedOn)
  | none, some op =>
    if (s.ownerOf area).map Prod.fst ≠ some op then (s, ans .notOwner)
    else if (s.session? area).isSome then (s, ans .sessionOpen)
    else if s.unackedHolding area ≠ [] then (s, ans .unackedAlarms (s.unackedHolding area).length)
    else if s.transitWhere (fun t => decide (t.area = area)) ≠ [] then
      (s, ans .commandsInFlight (s.transitWhere (fun t => decide (t.area = area))).length)
    else ((s.disown area).coverScan, ans .done)

/-! ### The MASTER KEY line (R38) -/

/-- The line has held its level without interruption for 50 ms. -/
def keySettled (s : State) : Bool := decide (s.auth.keySince + Config.debounce ≤ s.now)

/-- A change of the line's level starts the debounce interval afresh. -/
def setKeyLine (s : State) (closed : Bool) : State :=
  if s.auth.keyLine = closed then s
  else { s with auth := { s.auth with keyLine := closed, keySince := s.now } }

def assertDue (s : State) : Bool := s.auth.keyLine && !s.auth.key && s.keySettled

def releaseKeyDue (s : State) : Bool := !s.auth.keyLine && s.auth.key && s.keySettled

/-- The change to ASSERTED. -/
def assertKey (s : State) : State := ({ s with auth := { s.auth with key := true } } : State).sysRaise 519 .none

/-- The change to RELEASED. -/
def releaseKey (s : State) : State := ({ s with auth := { s.auth with key := false } } : State).sysReturn 519

end State

/-! ### The commands of this block -/

/-- R38, R190: the contact closes or opens. The level is the line's own, so it changes whether or not the unit runs;
start-up takes it as found. -/
def execMasterKeyLineChange (closed : Bool) (s : State) : Host.Outcome State Fault Refusal :=
  .next (s.fresh.setKeyLine closed)

/-- R38: the line has held asserted for 50 ms. -/
def execKeyAsserted (s : State) : Host.Outcome State Fault Refusal := timerEvent State.assertDue State.assertKey s

/-- R38: the line has held released for 50 ms. -/
def execKeyReleased (s : State) : Host.Outcome State Fault Refusal := timerEvent State.releaseKeyDue State.releaseKey s

/-- R34: a station's grace timer expires. -/
def execGraceExpiry (station : Nat) (s : State) : Host.Outcome State Fault Refusal :=
  timerEvent (fun s => s.graceDue station) (fun s => s.graceEnds station) s

/-- R28. -/
def execLogon (h : Hdr) (badge rsv : Nat) (s : State) : Host.Outcome State Fault Refusal :=
  requestEvent h (fun s => s.takeLogon h.station badge rsv) s

/-- R29. -/
def execLogoff (h : Hdr) (s : State) : Host.Outcome State Fault Refusal :=
  requestEvent h (fun s => s.takeLogoff h.station) s

/-- R30. -/
def execClaim (h : Hdr) (area rsv : Nat) (s : State) : Host.Outcome State Fault Refusal :=
  requestEvent h (fun s => s.takeClaim h.station area rsv) s

/-- R31. -/
def execRelease (h : Hdr) (area rsv : Nat) (s : State) : Host.Outcome State Fault Refusal :=
  requestEvent h (fun s => s.takeRelease h.station area rsv) s

end Sys2Proof.Machine
end

