-- ==== Sys2Proof/Machine/PlantPort.lean ====
section
/-! DEFINITION. The Plant Port (chapter 10): the link states and their watch, resync, sequence checking, and the frames
from the gateway. -/

namespace Sys2Proof.Machine

/-- What R176 makes of a notice's sequence. -/
inductive SeqFinding where | base | next | duplicate | gap
  deriving DecidableEq, Repr

/-- R176: a received sequence against the expected one, which is absent while AWAITING BASE. -/
def seqFinding (expected : Option Nat) (seq : Nat) : SeqFinding :=
  match expected with
  | none => .base
  | some x => if seq = (x + 1) % 65536 then .next else if seq = x then .duplicate else .gap

/-- R170: an ALARM NOTICE whose content is faulty. -/
def noticeFaulty (tag cond transition flag rsv : Nat) : Bool :=
  decide (4095 < tag ∨ 7 < cond ∨ (transition ≠ 1 ∧ transition ≠ 2) ∨ 1 < flag ∨ rsv ≠ 0)

/-- R129, R170: a REPLY whose content is faulty. -/
def replyFaulty (outcome rsv arg : Nat) : Bool :=
  decide (outcome < 1 ∨ 5 < outcome ∨ (outcome = 4 ∧ (arg < 1 ∨ 3 < arg)) ∨ rsv ≠ 0)

namespace State

def setPlant (s : State) (f : PlantPort → PlantPort) : State := { s with plant := f s.plant }

def countB (s : State) (f : CountersB → CountersB) : State :=
  s.setPlant (fun p => { p with counters := f p.counters })

/-- R171: a change of link state, with NOTICE PLANT LINK to every UP station after the event's other messages. A state
that stays sends none (R174 step 6). -/
def moveLink (s : State) (l : PlantLink) : State :=
  if s.plant.link = l then s
  else (s.setPlant (fun p => { p with link := l })).sayAfter (s.toUp (.plantLink l))

def markSilence (s : State) : State := s.setPlant (fun p => { p with mark := s.now })

/-- R174: entering RESYNC, or RESYNC afresh. -/
def enterResync (s : State) : State :=
  let n := (s.plant.resync + 1) % 65536
  let s1 := ((s.setPlant (fun p => { p with resync := n })).say [.plant (.resyncRequest 0 n)]).clearConfirmed
  (s1.setPlant (fun p =>
    { p with expected := none, timer := some (s.now + Config.resyncTime), mark := s.now })).moveLink .resync

/-- R172: entering DEGRADED. -/
def enterDegraded (s : State) : State :=
  let s1 := s.setPlant (fun p => { p with ret := decide (s.plant.link = .resync), mark := s.now })
  (s1.sysRaise 512 .none).moveLink .degraded

/-- R173: entering LOST. -/
def enterLost (s : State) : State :=
  let s1 := if s.plant.link = .degraded then s.sysReturn 512 else s
  let s2 := ((s1.sysRaise 513 .none).markStale).setPlant (fun p => { p with timer := none, expected := none })
  (s2.failInFlight.countB (fun c => { c with losses := bump c.losses })).moveLink .lost

/-- R172: an accepted frame in DEGRADED returns the link to its return state. -/
def leaveDegraded (s : State) : State :=
  (s.sysReturn 512).markSilence.moveLink (if s.plant.ret then .resync else .up)

/-- R170, R171: an accepted frame sets the last-heard time and is taken against the link state. -/
def serveLink (s : State) : State :=
  let s1 := s.setPlant (fun p => { p with heard := some s.now })
  match s1.plant.link with
  | .start => s1.enterResync
  | .lost => s1.enterResync
  | .up => s1.markSilence
  | .resync => s1.markSilence
  | .degraded => s1.leaveDegraded

/-! ### Notices -/

/-- The content of a notice handed on after its sequence check: faulty content is counted (R170), other content goes to
the Alarm Processor (R45). -/
def takeContent (s : State) (tag cond transition flag rsv : Nat) (time : MillTime) : State :=
  if noticeFaulty tag cond transition flag rsv then
    s.countB (fun c => { c with malformedContent := bump c.malformedContent })
  else s.takeNotice tag cond (decide (transition = 1)) (decide (flag = 1)) time

/-- R176: the sequence check of an accepted notice frame, and what follows it. A gap is applied before the resync it
causes. -/
def takeSequenced (s : State) (seq : Nat) (content : State → State) : State :=
  let handed := content (s.setPlant (fun p => { p with expected := some seq }))
  match seqFinding s.plant.expected seq with
  | .base => handed
  | .next => handed
  | .duplicate => s.countB (fun c => { c with duplicateSeq := bump c.duplicateSeq })
  | .gap => (handed.countB (fun c => { c with gaps := bump c.gaps })).enterResync

/-- R174, R176: an accepted ALARM NOTICE. DESIGN CHOICE (log entry 45): a notice that moves the link out of START or LOST is
applied with the resync flag that it carries, as the gateway sent it. -/
def noticeFrame (s : State) (seq tag cond transition flag rsv : Nat) (time : MillTime) : State :=
  s.serveLink.takeSequenced seq (fun s => s.takeContent tag cond transition flag rsv time)

/-! ### Replies and the end of a resync -/

/-- R129 to R133: a REPLY of sound content, by its outcome. -/
def takeReply (s : State) (ticket tag outcome arg : Nat) : State :=
  match outcome with
  | 1 => s.finalReply ticket tag .done 0
  | 2 => s.finalReply ticket tag .refusedByPlant arg
  | 3 => s.busyReply ticket tag
  | 4 => s.extendReply ticket tag arg
  | _ => s.extendReply ticket tag 1

/-- An accepted REPLY. -/
def replyFrame (s : State) (ticket tag outcome rsv arg : Nat) : State :=
  if replyFaulty outcome rsv arg then
    s.serveLink.countB (fun c => { c with malformedContent := bump c.malformedContent })
  else s.serveLink.takeReply ticket tag outcome arg

/-- R175: RESYNC END, in the state its frame leaves the link in. -/
def takeResyncEnd (s : State) (scope number : Nat) : State :=
  if scope ≠ 0 then s
  else if s.plant.link = .resync ∧ s.plant.resync = number then
    (((s.setPlant (fun p => { p with timer := none })).sweep.markSilence).sysReturn 513).moveLink .up
  else s.countB (fun c => { c with strayEnds := bump c.strayEnds })

/-- R177: an area-scoped RESYNC REQUEST. In UP, or in DEGRADED with return state UP, it takes a new resync number; in
RESYNC, or in DEGRADED with return state RESYNC, it carries the number of the resync under way. -/
def areaResync (s : State) (a : Nat) : State :=
  if s.plant.link = .start ∨ s.plant.link = .lost then s
  else
    let held := decide (s.plant.link = .resync) || (decide (s.plant.link = .degraded) && s.plant.ret)
    let n := if held then s.plant.resync else (s.plant.resync + 1) % 65536
    (s.setPlant (fun p => { p with resync := n, expected := none })).say [.plant (.resyncRequest a n)]

/-! ### The watch -/

/-- R171: 3 s of silence in UP or RESYNC. -/
def plantSilenceDue (s : State) : Bool :=
  decide (s.plant.link = .up ∨ s.plant.link = .resync) && s.watchDue s.plant.mark Config.plantSilence

/-- R171: 5 s in DEGRADED. -/
def plantDegradedDue (s : State) : Bool :=
  decide (s.plant.link = .degraded) && s.watchDue s.plant.mark Config.plantDegraded

/-- R171: 8 s in START with no accepted frame. -/
def plantStartDue (s : State) : Bool :=
  decide (s.plant.link = .start) && s.watchDue s.plant.mark Config.plantStart

/-- R175: the resync timer has come to its expiry. It runs in whole seconds. -/
def resyncTimerDue (s : State) : Bool := (s.plant.timer.map (fun x => s.watchDue x 0)).getD false

/-- R175: the resync timer expires: the link, or the return state of a DEGRADED link, becomes UP without a sweep. -/
def resyncTimesOut (s : State) : State :=
  let s1 := (s.setPlant (fun p => { p with timer := none })).countB (fun c => { c with timeouts := bump c.timeouts })
  let s2 := s1.sysReturn 513
  if s.plant.link = .degraded then s2.setPlant (fun p => { p with ret := false }) else s2.moveLink .up

/-- R178: UNIT BEAT. -/
def unitBeat (s : State) : State :=
  { s with sent := s.sent ++ [.plant (.unitBeat s.plant.link s.time.mill s.time.clockUnset)] }

end State

/-! ### The commands of this block -/

/-- R176, R45 to R50: an ALARM NOTICE with transition RAISE. -/
def execAlarmNoticeRaise (n : NoticeFields) (s : State) : Host.Outcome State Fault Refusal :=
  plantEvent (fun s => s.noticeFrame n.seq n.tag n.cond 1 (if n.resync then 1 else 0) 0 n.time) s

/-- R176, R45, R51: an ALARM NOTICE with transition RETURN. -/
def execAlarmNoticeReturn (n : NoticeFields) (s : State) : Host.Outcome State Fault Refusal :=
  plantEvent (fun s => s.noticeFrame n.seq n.tag n.cond 2 (if n.resync then 1 else 0) 0 n.time) s

/-- R170: accepted content that is faulty. DESIGN CHOICE (log entry 8): content that is sound is taken as the notice or the
REPLY that it is. -/
def execMalformedContent (c : PlantContent) (s : State) : Host.Outcome State Fault Refusal :=
  match c with
  | .notice seq tag cond transition flag rsv time =>
    plantEvent (fun s => s.noticeFrame seq tag cond transition flag rsv time) s
  | .reply ticket tag outcome rsv arg => plantEvent (fun s => s.replyFrame ticket tag outcome rsv arg) s

/-- R130: REPLY DONE. -/
def execReplyDone (ticket tag : Nat) (s : State) : Host.Outcome State Fault Refusal :=
  plantEvent (fun s => s.replyFrame ticket tag 1 0 0) s

/-- R130: REPLY REFUSED with a plant code. -/
def execReplyRefused (ticket tag code : Nat) (s : State) : Host.Outcome State Fault Refusal :=
  plantEvent (fun s => s.replyFrame ticket tag 2 0 code) s

/-- R131: REPLY BUSY. -/
def execReplyBusy (ticket tag : Nat) (s : State) : Host.Outcome State Fault Refusal :=
  plantEvent (fun s => s.replyFrame ticket tag 3 0 0) s

/-- R133: REPLY EXTEND. -/
def execReplyExtend (ticket tag count : Nat) (s : State) : Host.Outcome State Fault Refusal :=
  plantEvent (fun s => s.replyFrame ticket tag 4 0 count) s

/-- R133: REPLY HOLD ON, taken as EXTEND 1. -/
def execReplyHoldOn (ticket tag : Nat) (s : State) : Host.Outcome State Fault Refusal :=
  plantEvent (fun s => s.replyFrame ticket tag 5 0 0) s

/-- R171: PLANT BEAT serves the watch. -/
def execPlantBeat (s : State) : Host.Outcome State Fault Refusal := plantEvent State.serveLink s

/-- R175. -/
def execResyncEnd (scope number : Nat) (s : State) : Host.Outcome State Fault Refusal :=
  plantEvent (fun s => s.serveLink.takeResyncEnd scope number) s

/-- R172. -/
def execPlantSilenceTimeout (s : State) : Host.Outcome State Fault Refusal := timerEvent State.plantSilenceDue State.enterDegraded s

/-- R173. -/
def execPlantDegradedTimeout (s : State) : Host.Outcome State Fault Refusal := timerEvent State.plantDegradedDue State.enterLost s

/-- R173. -/
def execPlantStartTimeout (s : State) : Host.Outcome State Fault Refusal := timerEvent State.plantStartDue State.enterLost s

/-- R175. -/
def execResyncTimerExpiry (s : State) : Host.Outcome State Fault Refusal := timerEvent State.resyncTimerDue State.resyncTimesOut s

/-- R178: at every whole second, in every link state. -/
def execUnitBeat (s : State) : Host.Outcome State Fault Refusal := event State.unitBeat s

end Sys2Proof.Machine
end

