-- ==== Sys2Proof/Machine/AlarmRequests.lean ====
section
/-! DEFINITION. Requests and timers of the alarm blocks: ACK (R55), SERVICE (R60, R61), SILENCE (R95 to R97), the two
escalation deadlines (R100, R101), the decay event (R68) and the release timer (R78). -/

namespace Sys2Proof.Machine

namespace State

/-- R55: ACK. -/
def takeAck (s : State) (st : Nat) (ref : Ref) (rsv : Nat) : State × Ans :=
  if rsv ≠ 0 then (s, ans .reserved)
  else if Config.lastEntry < ref.num then (s, ans .range)
  else
    match s.logonAt st, s.entry? ref.num with
    | none, _ => (s, ans .notLoggedOn)
    | some _, none => (s, ans .staleReference)
    | some op, some e =>
      if s.gen ref.num ≠ ref.gen then (s, ans .staleReference)
      else
        match e.ack with
        | some a => (s, ans .already a.op)
        | none => if s.responsible op st e then (s.acknowledge ref.num op, ans .done) else (s, ans .notResponsible)

/-! ### SILENCE -/

/-- R96, R97: a station silences an alarm: it leaves the stack, and the station joins its silenced-station set. -/
def silence (s : State) (st n : Nat) : State :=
  (s.unstack st n).updAnnRec n (fun r => { r with silenced := r.silenced.ins st })

/-- R95, R96: SILENCE TOP. -/
def takeSilenceTop (s : State) (st : Nat) (ref : Ref) (rsv : Nat) : State × Ans :=
  if rsv ≠ 0 then (s, ans .reserved)
  else if Config.lastEntry < ref.num then (s, ans .range)
  else if s.logonAt st = none then (s, ans .notLoggedOn)
  else if !s.current ref then (s, ans .staleReference)
  else
    match s.top? st with
    | none => (s, ans .already)
    | some n => if n = ref.num then (s.silence st n, ans .done 1) else (s, ans .notOnTop n)

/-- R97: what SILENCE ALL silences: the stack and the waiting set. -/
def audible (s : State) (st : Nat) : List Nat := s.stack st ++ (s.waiting st).map Prod.fst

/-- R95, R97: SILENCE ALL. -/
def takeSilenceAll (s : State) (st rsv : Nat) : State × Ans :=
  if rsv ≠ 0 then (s, ans .reserved)
  else if s.logonAt st = none then (s, ans .notLoggedOn)
  else if s.audible st = [] then (s, ans .already)
  else ((s.audible st).foldl (fun s n => s.silence st n) s, ans .done (s.audible st).length)

/-! ### SERVICE -/

/-- R60 check 2: a SUPERVISOR-role operator at a SUPERVISOR station, or a station entitled to management. -/
def maySetService (s : State) (st : Nat) : Bool :=
  (match s.logonAt st with | none => false | some op => s.isSupervisorRole op && s.isSupervisorStation st)
    || s.entitled st

/-- NOTICE SERVICE to every UP station. -/
def serviceNotice (s : State) (a : Nat) (inService : Bool) : State := s.sayAfter (s.toUp (.service a inService))

/-- R60: an area goes out of service. -/
def areaOut (s : State) (a : Nat) : State :=
  let s1 : State := { s with alarm := { s.alarm with out := s.alarm.out.ins a } }
  ((((s.entriesOfArea a).foldl removeEntry s1).floodOut a).coverScan).serviceNotice a false

/-- R60: SERVICE with state OUT. -/
def takeServiceOut (s : State) (st area rsv : Nat) : State × Ans :=
  match areaFault? area rsv with
  | some a => (s, a)
  | none =>
    if !s.maySetService st then (s, ans .notSupervisor)
    else if !s.inService area then (s, ans .already)
    else (s.areaOut area, ans .done (s.entriesOfArea area).length)

/-- R61: an area returns to service. -/
def areaIn (s : State) (a : Nat) : State :=
  let s1 : State := { s with alarm := { s.alarm with out := s.alarm.out.del a } }
  ((s1.coverScan).areaResync a).serviceNotice a true

/-- R60, R61: SERVICE with state IN. -/
def takeServiceIn (s : State) (st area rsv : Nat) : State × Ans :=
  match areaFault? area rsv with
  | some a => (s, a)
  | none =>
    if !s.maySetService st then (s, ans .notSupervisor)
    else if s.inService area then (s, ans .already)
    else (s.areaIn area, ans .done)

/-! ### Escalation -/

/-- The entry has a deadline leading to a stage, and it has come. -/
def deadlineDue (s : State) (n stage : Nat) : Bool :=
  match (s.annRec n).deadline with
  | none => false
  | some (t, k) => decide (k = stage ∧ t ≤ s.now)

/-- R100: a stage-1 deadline expires. -/
def escalate (s : State) (n : Nat) : State :=
  match s.entry? n with
  | none => s
  | some e =>
    let s1 := (s.setEntry n { e with stage := 1, cur := e.cfg.raise }).unstackAll n
    let s2 := s1.updAnnRec n (fun r =>
      { r with silenced := [], deadline := some (s1.secondsAhead (s1.areaRec e.area).stage2, 2) })
    (s2.announceAt n).repriceItems e.area (s.refOf n) e.cfg.raise

/-- R101: a stage-2 deadline expires and the entry is overdue. -/
def fallOverdue (s : State) (n : Nat) : State :=
  match s.entry? n with
  | none => s
  | some e => ((s.setEntry n { e with stage := 2 }).updAnnRec n (fun r => { r with deadline := none })).overdueUp

/-! ### The Flood Monitor's timers -/

/-- R68: the decay event of an area whose load is 0 changes nothing. -/
def decayDue (s : State) (a : Nat) : Bool := decide (s.load a ≠ 0)

/-- R78: an area's release timer has come to its expiry. -/
def releaseDue (s : State) (a : Nat) : Bool :=
  ((s.flood.release.look a).map (fun x => decide (x ≤ s.now))).getD false

end State

/-! ### The commands of these blocks -/

/-- R55. -/
def execAck (h : Hdr) (ref : Ref) (rsv : Nat) (s : State) : Host.Outcome State Fault Refusal :=
  requestEvent h (fun s => s.takeAck h.station ref rsv) s

/-- R96. -/
def execSilenceTop (h : Hdr) (ref : Ref) (rsv : Nat) (s : State) : Host.Outcome State Fault Refusal :=
  requestEvent h (fun s => s.takeSilenceTop h.station ref rsv) s

/-- R97. -/
def execSilenceAll (h : Hdr) (rsv : Nat) (s : State) : Host.Outcome State Fault Refusal :=
  requestEvent h (fun s => s.takeSilenceAll h.station rsv) s

/-- R60. -/
def execServiceOut (h : Hdr) (area rsv : Nat) (s : State) : Host.Outcome State Fault Refusal :=
  requestEvent h (fun s => s.takeServiceOut h.station area rsv) s

/-- R61. -/
def execServiceIn (h : Hdr) (area rsv : Nat) (s : State) : Host.Outcome State Fault Refusal :=
  requestEvent h (fun s => s.takeServiceIn h.station area rsv) s

/-- R68. -/
def execDecayEvent (area : Nat) (s : State) : Host.Outcome State Fault Refusal :=
  timerEvent (fun s => s.decayDue area) (fun s => s.decay area) s

/-- R78. -/
def execReleaseTimerExpiry (area : Nat) (s : State) : Host.Outcome State Fault Refusal :=
  timerEvent (fun s => s.releaseDue area) (fun s => s.releaseOldest area) s

/-- R100. -/
def execStage1Expiry (entry : Nat) (s : State) : Host.Outcome State Fault Refusal :=
  timerEvent (fun s => s.deadlineDue entry 1) (fun s => s.escalate entry) s

/-- R101. -/
def execStage2Expiry (entry : Nat) (s : State) : Host.Outcome State Fault Refusal :=
  timerEvent (fun s => s.deadlineDue entry 2) (fun s => s.fallOverdue entry) s

end Sys2Proof.Machine
end

