-- ==== Sys2Proof/Machine/OverrideRegister.lean ====
section
/-! DEFINITION. The Override Register (chapter 6): SHELVE, UNSHELVE, BYPASS, UNBYPASS and the expiry of an override
entry. -/

namespace Sys2Proof.Machine

/-- R108, R113: a requested duration brought into the range 60 s to the area's maximum. -/
def grantedDuration (requested most : Nat) : Nat := max Config.overrideMin (min requested most)

namespace State

/-- R106: the lowest-numbered free override entry. -/
def freeOverride? (s : State) : Option Nat :=
  let k := lowestGap 0 s.overrides.keys
  if k < Config.overrideEntries then some k else none

/-- R108, R113: the maximum duration of a kind in an area, as its record holds it now. -/
def overrideMax (s : State) (k : OverrideKind) (a : Nat) : Nat :=
  match k with | .shelve => (s.areaRec a).shelveMax | .bypass => (s.areaRec a).bypassMax

def putOverride (s : State) (n : Nat) (o : Override) : State := { s with overrides := s.overrides.put n o }

/-- The item a handover session lists for an override entry (R152). -/
def overrideItem (n : Nat) (o : Override) : ItemRef :=
  match o.kind with | .shelve => .shelve n o.tag o.reason | .bypass => .bypass n o.tag o.reason

/-- R109: the acknowledgement that a shelf leaves an ACTIVE entry with: an ANNUNCIATED ACKED entry keeps its own, any
other is ACKED by the holder at the current mill time. -/
def shelfAck (s : State) (holder : Nat) (e : Entry) : Ack :=
  match e.disp with
  | .annunciated => e.ack.getD ⟨s.time.mill, holder⟩
  | _ => ⟨s.time.mill, holder⟩

/-- R109: what a shelf does before an ACTIVE entry becomes SHELVED: a DEFERRED entry is taken off the Deferred List, an
ANNUNCIATED UNACKED one is withdrawn. -/
def quietForShelf (s : State) (n : Nat) (e : Entry) : State :=
  match e.disp with
  | .deferred => s.undefer n
  | .annunciated => if e.ack.isSome then s else s.withdraw n
  | .suppressed => s
  | .shelved => s

/-- R109: a shelf acts on one entry of its tag as the entry stands. -/
def shelveEntry (holder : Nat) (s : State) (n : Nat) : State :=
  match s.entry? n with
  | none => s
  | some e =>
    if !e.active then s.removeEntry n
    else (s.quietForShelf n e).updEntry n (fun x => { x with disp := .shelved, ack := some (s.shelfAck holder e) })

/-- R109: a shelf acts on every entry of its tag. -/
def shelveTag (s : State) (tag holder : Nat) : State := (s.entriesOfTag tag).foldl (shelveEntry holder) s

/-- R108, R113: a placing. The session of the area is told after the shelf has acted on the tag's entries. -/
def placeOverride (s : State) (k : OverrideKind) (n op st tag a granted reason : Nat) : State :=
  let o : Override := ⟨k, tag, op, st, s.now, s.time.mill, s.secondsAhead granted, reason⟩
  let s1 := s.putOverride n o
  let s2 := match k with | .shelve => s1.shelveTag tag op | .bypass => s1
  (s2.appendItem a (overrideItem n o) none).sayAfter (s.overrideNotice .placed o)

/-- R108: a renewal keeps the placed time and takes everything else from the request. -/
def renewOverride (s : State) (n : Nat) (o : Override) (op st granted reason : Nat) : State :=
  let o' := { o with holder := op, station := st, expiry := s.secondsAhead granted, reason := reason }
  (s.putOverride n o').sayAfter (s.overrideNotice .renewed o')

/-- R106: the override right of the operator at the station on a tag of an area. -/
def overrideRight (s : State) (op st a : Nat) : Bool := s.isOwnerStation st a || s.keySupervisor op st

/-- R107 check 4, R113: the level a kind needs. -/
def overrideLevel : OverrideKind → Nat
  | .shelve => 2 | .bypass => 3

/-- R107 checks 7 and on: the renewal or the placing, or REGISTER FULL. -/
def grantOverride (s : State) (k : OverrideKind) (op st tag a duration reason : Nat) : State × Ans :=
  let granted := grantedDuration duration (s.overrideMax k a)
  match s.override? k tag, s.freeOverride? with
  | some (n, o), _ => (s.renewOverride n o op st granted reason, ans .renewed granted)
  | none, none => (s, ans .registerFull)
  | none, some n =>
    (s.placeOverride k n op st tag a granted reason,
      if granted = duration then ans .done granted else ans .clamped granted)

/-- R107, R113: SHELVE and BYPASS. -/
def takeOverride (s : State) (k : OverrideKind) (st tag duration reason rsv : Nat) : State × Ans :=
  if rsv ≠ 0 then (s, ans .reserved)
  else if 4095 < tag then (s, ans .range)
  else
    match s.tagRec? tag, s.logonAt st with
    | none, _ => (s, ans .missingRecord)
    | some _, none => (s, ans .notLoggedOn)
    | some r, some op =>
      if s.levelOf op r.area < overrideLevel k then (s, ans .level)
      else if !s.overrideRight op st r.area then (s, ans .notOwner)
      else if k = .shelve ∧ r.shelvable = false then (s, ans .notShelvable)
      else s.grantOverride k op st tag r.area duration reason

/-! ### Endings -/

/-- R112 step 2: the ACTIVE entries of a tag, ascending. -/
def shelvedActive (s : State) (tag : Nat) : List Nat :=
  s.ordinaryWhere (fun e => decide (e.tag = some tag) && e.active)

/-- R112 step 2: the ACTIVE entries of a tag are re-decided through steps 2 to 4 of the disposition order. -/
def redecideTag (s : State) (tag : Nat) : State :=
  (s.shelvedActive tag).foldl (fun s n => (s.resetForDecision n).decideUnshelved n true) s

/-- R112, R115: an override entry is freed, its item resolved and NOTICE OVERRIDE sent. -/
def endOverride (s : State) (n : Nat) (o : Override) (event : OverrideEvent) : State :=
  let s1 : State := { s with overrides := s.overrides.del n }
  let s2 := match o.kind with | .shelve => s1.redecideTag o.tag | .bypass => s1
  (s2.resolveItems (((s.tagRec? o.tag).map (·.area)).getD 0) (namesOverride o.kind n o.tag)).sayAfter
    (s.overrideNotice event o)

/-- R111 check 5: the holder at any station, the owner's station of the area, or a key supervisor. -/
def mayEnd (s : State) (o : Override) (op st a : Nat) : Bool :=
  decide (o.holder = op) || s.isOwnerStation st a || s.keySupervisor op st

/-- R111, R115: UNSHELVE and UNBYPASS. -/
def takeEnding (s : State) (k : OverrideKind) (st tag rsv : Nat) : State × Ans :=
  if rsv ≠ 0 then (s, ans .reserved)
  else if 4095 < tag then (s, ans .range)
  else
    match s.tagRec? tag, s.logonAt st, s.override? k tag with
    | none, _, _ => (s, ans .missingRecord)
    | some _, none, _ => (s, ans .notLoggedOn)
    | some _, some _, none => (s, ans .noOverride)
    | some r, some op, some (n, o) =>
      if !s.mayEnd o op st r.area then (s, ans .notOwner)
      else
        (s.endOverride n o .endedRemoved,
          match k with | .shelve => ans .done (s.shelvedActive tag).length | .bypass => ans .done)

/-- R116: an override entry has come to its expiry. -/
def overrideDue (s : State) (n : Nat) : Bool :=
  ((s.overrides.look n).map (fun o => decide (o.expiry ≤ s.now))).getD false

/-- R116: an override entry expires. -/
def overrideExpires (s : State) (n : Nat) : State :=
  match s.overrides.look n with
  | none => s
  | some o => s.endOverride n o .endedExpired

end State

/-! ### The commands of this block -/

/-- R107. -/
def execShelve (h : Hdr) (tag duration reason rsv : Nat) (s : State) : Host.Outcome State Fault Refusal :=
  requestEvent h (fun s => s.takeOverride .shelve h.station tag duration reason rsv) s

/-- R111. -/
def execUnshelve (h : Hdr) (tag rsv : Nat) (s : State) : Host.Outcome State Fault Refusal :=
  requestEvent h (fun s => s.takeEnding .shelve h.station tag rsv) s

/-- R113. -/
def execBypass (h : Hdr) (tag duration reason rsv : Nat) (s : State) : Host.Outcome State Fault Refusal :=
  requestEvent h (fun s => s.takeOverride .bypass h.station tag duration reason rsv) s

/-- R115. -/
def execUnbypass (h : Hdr) (tag rsv : Nat) (s : State) : Host.Outcome State Fault Refusal :=
  requestEvent h (fun s => s.takeEnding .bypass h.station tag rsv) s

/-- R116. -/
def execOverrideExpiry (entry : Nat) (s : State) : Host.Outcome State Fault Refusal :=
  timerEvent (fun s => s.overrideDue entry) (fun s => s.overrideExpires entry) s

end Sys2Proof.Machine
end

