-- ==== Sys2Proof/Machine/HandoverController.lean ====
section
/-! DEFINITION. The Handover Controller's requests and its lapse deadline (chapter 9): OFFER, REVIEW, ACCEPT, RECALL and
TAKEOVER. Closing, cancellation and transfer are in Machine/Cover.lean. -/

namespace Sys2Proof.Machine

namespace State

/-- The format check of a request that names an area, RESERVED tested first (R153, R158, R159, R162, R166). -/
def handoverFault? (area rsv : Nat) : Option Ans :=
  if rsv ≠ 0 then some (ans .reserved) else if area < 1 ∨ 12 < area then some (ans .range) else none

/-! ### OFFER -/

/-- R153 check 6: the operator and station that a badge names as eligible to take the area from a station. -/
def incoming? (s : State) (st area badge : Nat) : Option (Nat × Nat) :=
  match s.tables.roster.find? (fun p => decide (p.2.badge = badge)) with
  | none => none
  | some (op, r) =>
    match s.stationOf op with
    | none => none
    | some other =>
      if r.enabled && decide (other ≠ st) && decide (1 ≤ r.level area) && s.permits other area then some (op, other)
      else none

/-- Entries of an area of a condition in the order of R154: current priority descending, raise time ascending, entry
number ascending. -/
def areaAlarms (s : State) (a : Nat) (p : Entry → Bool) : List (Nat × Entry) :=
  sortBy urgentFirst (s.alarm.entries.filter (fun q =>
    decide (q.1 < Config.ordinaryEntries ∧ q.2.area = a) && p q.2))

/-- R154: the override entries of a kind on the area's tags, ascending. -/
def areaOverrides (s : State) (a : Nat) (k : OverrideKind) : List (Nat × Override) :=
  s.overrides.filter (fun p => decide (p.2.kind = k ∧ s.overrideArea p.2 = some a))

/-- R154: everything that would be listed, group by group. -/
def snapshot (s : State) (a : Nat) : List Item :=
  let alarm (f : Ref → ItemRef) (q : Nat × Entry) : Item := ⟨f (s.refOf q.1), some q.2.cur, false, false⟩
  let override (p : Nat × Override) : Item := ⟨overrideItem p.1 p.2, none, false, false⟩
  (s.areaAlarms a (fun e => decide (e.ack = none ∧ e.disp = .annunciated))).map (alarm .unackedAlarm)
    ++ (s.areaOverrides a .bypass).map override
    ++ (s.areaOverrides a .shelve).map override
    ++ (s.areaAlarms a (fun e => e.active && e.ack.isSome && decide (e.disp ≠ .shelved))).map (alarm .standingAlarm)
    ++ (s.gate.transit.filter (fun q => decide (q.2.area = a))).map (fun q =>
        ⟨.command q.1 q.2.tag, none, false, false⟩)
    ++ (if s.deferredOf a = [] then [] else [⟨.deferredSummary (s.deferredOf a).length, none, false, false⟩])

/-- R154, R155: the session an OFFER opens. -/
def newSession (s : State) (a op st inOp inSt : Nat) : Session :=
  (s.snapshot a).foldl listItem
    { outOp := op, outStation := st, inOp := inOp, inStation := inSt, openedUnit := s.now, openedMill := s.time.mill,
      lapse := some (s.secondsAhead (s.areaRec a).handover), items := [], remainder := 0 }

/-- R155. -/
def openSession (s : State) (a op st inOp inSt : Nat) : State :=
  let x := s.newSession a op st inOp inSt
  ({ s with hand := s.hand.put a (.offered x) } : State).sayAfter
    (s.heardBy inSt (.notice (.handoverOffer a (s.badgeOf op) st x.items.length x.remainder (s.areaRec a).handover)))

/-- R153: OFFER. -/
def takeOffer (s : State) (st area badge rsv : Nat) : State × Ans :=
  match handoverFault? area rsv, s.logonAt st with
  | some a, _ => (s, a)
  | none, l =>
    if badge = 0 ∨ 65535 < badge then (s, ans .range)
    else
      match l with
      | none => (s, ans .notLoggedOn)
      | some op =>
        if s.ownerOf area ≠ some (op, st) then (s, ans .notOwner)
        else
          match s.hand.look area, s.incoming? st area badge with
          | some (.offered _), _ => (s, ans .sessionOpen)
          | some (.quiescing _), _ => (s, ans .sessionOpen)
          | some (.takingOver t), _ => (s, ans .takeoverPending t.station)
          | none, none => (s, ans .incomingNotEligible)
          | none, some (inOp, inSt) =>
            (s.openSession area op st inOp inSt, ans .done (s.newSession area op st inOp inSt).items.length)

/-! ### REVIEW -/

/-- R158: the items from the first one on, up to the count or to the last item listed. -/
def reviewItems (first count : Nat) (x : Session) : Session :=
  { x with items := x.items.mapIdx (fun i item =>
      if first ≤ i + 1 ∧ i + 1 < first + count then { item with reviewed := true } else item) }

/-- R158: REVIEW. -/
def takeReview (s : State) (st area first count rsv : Nat) : State × Ans :=
  match handoverFault? area rsv, s.logonAt st, s.session? area with
  | some a, _, _ => (s, a)
  | none, l, x? =>
    if first < 1 ∨ 64 < first ∨ count < 1 ∨ 16 < count then (s, ans .range)
    else
      match l, x? with
      | none, _ => (s, ans .notLoggedOn)
      | some _, none => (s, ans .noSession)
      | some op, some x =>
        if x.inOp ≠ op ∨ x.inStation ≠ st then (s, ans .notIncoming)
        else if x.items.length < first then (s, ans .range x.items.length)
        else (s.updSession area (reviewItems first count), ans .done (unreviewed (reviewItems first count x)))

/-! ### ACCEPT and RECALL -/

/-- R159 step 1: the waiting entries of the outgoing operator are withdrawn, and the NOTICE HANDOVER UPDATE this causes
goes before the messages of the later steps. -/
def withdrawForHandover (s : State) (a out : Nat) : State :=
  let t := s.withdrawWaiting (fun t => decide (t.area = a ∧ t.origOp = out)) .handover
  { t with ev := { t.ev with pre := t.ev.pre ++ t.updateNotices, items := [] } }

/-- R159 step 3: the session waits for the area's commands in flight. -/
def startQuiescing (s : State) (a n : Nat) (x : Session) : State :=
  ({ s with hand := s.hand.put a (.quiescing { x with lapse := none }) } : State).sayAfter
    (s.toBoth x.outStation x.inStation (.handoverQuiescing a .handover n))

/-- R159: an accepted ACCEPT. -/
def acceptSession (s : State) (a : Nat) (x : Session) : State × Ans :=
  let s1 := s.withdrawForHandover a x.outOp
  let n := (s1.inFlight a).length
  if n = 0 then (s1.completeHandover a, ans .done)
  else (s1.startQuiescing a n ((s1.session? a).getD x), ans .pending n)

/-- R159: ACCEPT. -/
def takeAccept (s : State) (st area rsv : Nat) : State × Ans :=
  match handoverFault? area rsv, s.logonAt st, s.hand.look area with
  | some a, _, _ => (s, a)
  | none, none, _ => (s, ans .notLoggedOn)
  | none, some op, some (.offered x) =>
    if x.inOp ≠ op ∨ x.inStation ≠ st then (s, ans .notIncoming)
    else if unreviewed x ≠ 0 then (s, ans .itemsUnreviewed (unreviewed x))
    else s.acceptSession area x
  | none, some op, some (.quiescing x) =>
    if x.inOp ≠ op ∨ x.inStation ≠ st then (s, ans .notIncoming) else (s, ans .already (s.inFlight area).length)
  | none, some _, _ => (s, ans .noSession)

/-- R162: RECALL. -/
def takeRecall (s : State) (st area rsv : Nat) : State × Ans :=
  match handoverFault? area rsv, s.logonAt st, s.hand.look area with
  | some a, _, _ => (s, a)
  | none, none, _ => (s, ans .notLoggedOn)
  | none, some op, some (.offered x) =>
    if x.outOp ≠ op ∨ x.outStation ≠ st then (s, ans .notOwner) else (s.closeSession area .recalled, ans .done)
  | none, some op, some (.quiescing x) =>
    if x.outOp ≠ op ∨ x.outStation ≠ st then (s, ans .notOwner) else (s, ans .tooLate (s.inFlight area).length)
  | none, some _, _ => (s, ans .noSession)

/-- R164: an OFFERED session has come to its lapse deadline. -/
def lapseDue (s : State) (a : Nat) : Bool :=
  match s.hand.look a with
  | some (.offered x) => (x.lapse.map (fun t => decide (t ≤ s.now))).getD false
  | _ => false

/-! ### TAKEOVER -/

/-- R166: an area waits for its commands in flight before a supervisor takes it. -/
def startTakingOver (s : State) (a op st ost n : Nat) : State :=
  ({ s with hand := s.hand.put a (.takingOver ⟨op, st, s.now, s.time.mill⟩) } : State).sayAfter
    (s.toBoth ost st (.handoverQuiescing a .takeover n))

/-- R166: a TAKEOVER of an owned area. -/
def takeFromOwner (s : State) (a op st owner ost : Nat) : State × Ans :=
  let s1 := (s.closeSession a .takeover).withdrawWaiting (fun t => decide (t.area = a ∧ t.origOp = owner)) .takeover
  let n := (s1.inFlight a).length
  if n = 0 then (s1.completeTakeover a op, ans .done) else (s1.startTakingOver a op st ost n, ans .pending n)

/-- R166: a TAKEOVER that has passed checks 1 to 5. -/
def takeoverBy (s : State) (a op st : Nat) : State × Ans :=
  match s.ownerOf a, s.hand.look a with
  | none, some (.takingOver t) =>
    if t.op = op then (s, ans .already (s.inFlight a).length) else (s, ans .takeoverPending t.station)
  | none, _ => (s.completeTakeover a op, ans .done)
  | some (owner, ost), hd =>
    if owner = op then (s, ans .already)
    else
      match hd with
      | some (.takingOver t) =>
        if t.op = op then (s, ans .already (s.inFlight a).length) else (s, ans .takeoverPending t.station)
      | _ => s.takeFromOwner a op st owner ost

/-- R166: TAKEOVER. -/
def takeTakeover (s : State) (st area rsv : Nat) : State × Ans :=
  match handoverFault? area rsv, s.logonAt st with
  | some a, _ => (s, a)
  | none, none => (s, ans .notLoggedOn)
  | none, some op =>
    if !s.isSupervisorStation st then (s, ans .notSupervisor)
    else if !s.permits st area then (s, ans .areaNotPermitted)
    else if s.levelOf op area < 1 then (s, ans .level)
    else s.takeoverBy area op st

end State

/-! ### The commands of this block -/

/-- R153. -/
def execOffer (h : Hdr) (area badge rsv : Nat) (s : State) : Host.Outcome State Fault Refusal :=
  requestEvent h (fun s => s.takeOffer h.station area badge rsv) s

/-- R158. -/
def execReview (h : Hdr) (area first count rsv : Nat) (s : State) : Host.Outcome State Fault Refusal :=
  requestEvent h (fun s => s.takeReview h.station area first count rsv) s

/-- R159. -/
def execAccept (h : Hdr) (area rsv : Nat) (s : State) : Host.Outcome State Fault Refusal :=
  requestEvent h (fun s => s.takeAccept h.station area rsv) s

/-- R162. -/
def execRecallOffer (h : Hdr) (area rsv : Nat) (s : State) : Host.Outcome State Fault Refusal :=
  requestEvent h (fun s => s.takeRecall h.station area rsv) s

/-- R164. -/
def execHandoverLapse (area : Nat) (s : State) : Host.Outcome State Fault Refusal :=
  timerEvent (fun s => s.lapseDue area) (fun s => s.closeSession area .lapsed) s

/-- R166. -/
def execTakeover (h : Hdr) (area rsv : Nat) (s : State) : Host.Outcome State Fault Refusal :=
  requestEvent h (fun s => s.takeTakeover h.station area rsv) s

end Sys2Proof.Machine
end

