-- ==== Sys2Proof/Machine/Clock.lean ====
section
/-! DEFINITION. What the unit's clock does of itself (R187, 00_scope.md "Time"): 10 ms of unit time pass, and the events
that are then due join the queue of commands. -/

namespace Sys2Proof.Machine

namespace State

/-- The unit time falls on a whole second. -/
def onSecond (s : State) : Bool := decide (s.now % Config.ticksPerSecond = 0)

/-- The indexes of a table that a timer's test finds due. -/
def dueOf {α : Type} (t : Tbl α) (due : Nat → Bool) (event : Nat → Instr) : List Instr := (t.keys.filter due).map event

/-- R38, R132, R135, R147: the key debounce and the Command Gate's times run at 10 ms. -/
def fineEvents (s : State) : List Instr :=
  (if s.assertDue then [.keyAsserted] else []) ++ (if s.releaseKeyDue then [.keyReleased] else [])
    ++ dueOf s.gate.transit s.resendDue .reSend
    ++ dueOf s.gate.transit s.replyDeadlineDue .replyDeadlineExpiry
    ++ dueOf s.gate.transit s.windowDue .countersignWindowExpiry

/-- R21, R34, R78, R99, R116, R164, R171, R175, R178, R187: what runs in whole seconds. -/
def secondEvents (s : State) : List Instr :=
  [.millTimeAdvance, .unitBeat] ++ areaNumbers.map .decayEvent
    ++ (stationNumbers.filter s.silenceDue).map .consoleSilenceTimeout
    ++ dueOf s.auth.grace s.graceDue .graceExpiry
    ++ (if s.resyncTimerDue then [.resyncTimerExpiry] else [])
    ++ (if s.plantStartDue then [.plantStartTimeout] else [])
    ++ (if s.plantDegradedDue then [.plantDegradedTimeout] else [])
    ++ (if s.plantSilenceDue then [.plantSilenceTimeout] else [])
    ++ dueOf s.flood.release s.releaseDue .releaseTimerExpiry
    ++ dueOf s.ann.recs (fun n => s.deadlineDue n 1) .stage1Expiry
    ++ dueOf s.ann.recs (fun n => s.deadlineDue n 2) .stage2Expiry
    ++ dueOf s.overrides s.overrideDue .overrideExpiry
    ++ dueOf s.hand s.lapseDue .handoverLapse

/-- The events due at this moment, in the order the model takes them (log entry 9). The whole-second events come with the
whole second. -/
def dueEvents (s : State) : List Instr := s.fineEvents ++ (if s.onSecond then s.secondEvents else [])

/-- 10 ms pass: unit time counts on (R187) and the events that are due join the tail of the queue. DESIGN CHOICE (log entry
53): the first whole-second events come when unit time reaches 1 s; the spec does not say whether unit time 0, at which
operation begins (R189), is a whole second for them. -/
def elapse (s : State) : State :=
  let t : State := { s.fresh with time := { s.time with unit := s.time.unit + 1 } }
  { t with pending := t.pending ++ t.dueEvents }

/-- What the unit does when no command waits. Without power, or held in RESET, it does nothing. -/
def tick (s : State) : Host.Outcome State Fault Refusal :=
  if !s.running then .next s.fresh
  else if Config.unitTimeLimit ≤ s.time.unit + 1 then .fault .unitTimeExhausted
  else .next s.elapse

end State

end Sys2Proof.Machine
end

