-- ==== Sys2Proof/Machine/CommandRequests.lean ====
section
/-! DEFINITION. The commands of the Command Gate (chapters 7 and 8): COMMAND, COUNTERSIGN, WITHDRAW and the gate's three
timers. Their meanings are in Machine/Gate.lean. -/

namespace Sys2Proof.Machine

/-- R122. -/
def execCommand (h : Hdr) (tag action : Nat) (value : BitVec 32) (rsv : Nat) (s : State) :
    Host.Outcome State Fault Refusal :=
  requestEvent h (fun s => s.takeCommand h.station tag action value rsv) s

/-- R144. -/
def execCountersignAgree (h : Hdr) (ticket tag rsv : Nat) (s : State) : Host.Outcome State Fault Refusal :=
  requestEvent h (fun s => s.takeAgree h.station ticket tag rsv) s

/-- R143. -/
def execCountersignDecline (h : Hdr) (ticket tag rsv : Nat) (s : State) : Host.Outcome State Fault Refusal :=
  requestEvent h (fun s => s.takeDecline h.station ticket tag rsv) s

/-- R146. -/
def execWithdraw (h : Hdr) (ticket rsv : Nat) (s : State) : Host.Outcome State Fault Refusal :=
  requestEvent h (fun s => s.takeWithdraw h.station ticket rsv) s

/-- R147. -/
def execCountersignWindowExpiry (ticket : Nat) (s : State) : Host.Outcome State Fault Refusal :=
  timerEvent (fun s => s.windowDue ticket) (fun s => s.windowEnds ticket) s

/-- R132. -/
def execReSend (ticket : Nat) (s : State) : Host.Outcome State Fault Refusal :=
  timerEvent (fun s => s.resendDue ticket) (fun s => s.resend ticket) s

/-- R135. -/
def execReplyDeadlineExpiry (ticket : Nat) (s : State) : Host.Outcome State Fault Refusal :=
  timerEvent (fun s => s.replyDeadlineDue ticket) (fun s => s.replyMissing ticket) s

end Sys2Proof.Machine
end

