-- ==== Sys2Proof/Machine/Bytes.lean ====
section
/-! DEFINITION. Numbers, sets and table records as bytes (R180, R182), and the CRC-32 of the image (1.5). -/

namespace Sys2Proof.Machine

/-! ### Numbers (R180: most significant byte first) -/

def byte1 (n : Nat) : List Byte := [BitVec.ofNat 8 n]
def byte2 (n : Nat) : List Byte := [BitVec.ofNat 8 (n / 256), BitVec.ofNat 8 n]
def byte4 (n : Nat) : List Byte := byte2 (n / 65536) ++ byte2 n
def byte6 (n : Nat) : List Byte := byte2 (n / 4294967296) ++ byte4 n

/-- The number that bytes spell, most significant first. -/
def numberOf (bs : List Byte) : Nat := bs.foldl (fun acc b => acc * 256 + b.toNat) 0

def byteFlag (b : Bool) : List Byte := byte1 (if b then 1 else 0)

/-- R180: a mill time is a day and a second of day. -/
def byteMill (t : MillTime) : List Byte := byte2 t.day ++ byte4 t.sec

def byteAddr (a : LinkAddr) : List Byte := byte6 a.toNat

def byteSet (s : NSet) : List Byte := byte2 s.mask

def byteRef (r : Ref) : List Byte := byte2 r.num ++ byte2 r.gen

/-- R182: an alarm reference that is none has every bit set. -/
def byteNoRef : List Byte := List.replicate 4 0xFF

/-- R182: a list in a query result is a 2-byte count and then its members. -/
def byteList (members : List (List Byte)) : List Byte := byte2 members.length ++ members.flatten

/-! ### Codes (R182: a value's place in its list, counting from 1) -/

def StationKind.code : StationKind → Nat
  | .operator => 1 | .supervisor => 2 | .engineering => 3

def Role.code : Role → Nat
  | .operator => 1 | .supervisor => 2 | .engineer => 3

/-- R182: 0 is NONE. -/
def prioCode : Option Priority → Nat
  | none => 0 | some p => p.value

/-! ### Records in field-number order (R2 to R5, R182) -/

def StationRec.bytes (r : StationRec) : List Byte :=
  byte1 r.kind.code ++ byteAddr r.addr ++ byteSet r.areas ++ byte2 r.grace

def RosterRec.bytes (r : RosterRec) : List Byte :=
  byte2 r.badge ++ r.name ++ byte1 r.role.code ++ byteFlag r.enabled ++ r.levels.toList.flatMap byte1
    ++ byteSet r.stations

/-- R182: the fallback list has four places, 0 in the unused ones. -/
def byteFallback (l : List Nat) : List Byte := (l ++ List.replicate (4 - l.length) 0).flatMap byte1

def AreaRec.bytes (r : AreaRec) : List Byte :=
  r.name ++ r.stage1.toList.flatMap byte2 ++ byte2 r.stage2 ++ byte2 r.decay ++ byte2 r.floodOn ++ byte2 r.floodOff
    ++ byte1 r.cut.value ++ byte2 r.release ++ byte2 r.shelveMax ++ byte2 r.bypassMax ++ byte2 r.window
    ++ byte2 r.handover ++ byteFallback r.fallback

def TagRec.bytes (r : TagRec) : List Byte :=
  r.name ++ byte1 r.area ++ r.prios.toList.flatMap (fun p => byte1 (prioCode p))
    ++ (match r.parent with
      | none => List.replicate 4 0
      | some (p, m) => byte1 1 ++ byte2 p ++ [m])
    ++ (match r.blocker with
      | none => List.replicate 4 0
      | some (b, p) => byte1 1 ++ byte2 b ++ byte1 p.value)
    ++ byte1 r.cls ++ byte1 r.base ++ byteFlag r.shelvable ++ byteFlag r.ackRelay

/-- The lengths of the records' fields on the wire. -/
def stationLength : Nat := 11
def rosterLength : Nat := 42
def areaLength : Nat := 47
def tagLength : Nat := 41

/-! ### The image (1.5) -/

/-- A record of the image with its presence: a byte 1 and the record, or a byte 0 (log entry 6). -/
def presentBytes (o : Option (List Byte)) : List Byte :=
  match o with | none => [0] | some bs => 1 :: bs

/-- Every record of every table, with its presence, in the order of R1. -/
def imageBytes (t : Tables) : List Byte :=
  stationNumbers.flatMap (fun i => presentBytes ((t.stations.look i).map (·.bytes)))
    ++ (List.range 128).flatMap (fun i => presentBytes ((t.roster.look i).map (·.bytes)))
    ++ areaNumbers.flatMap (fun a => presentBytes (some (t.areas.getD a (AreaRec.default a)).bytes))
    ++ (List.range 4096).flatMap (fun i => presentBytes ((t.tags.look i).map (·.bytes)))

/-- One bit of the CRC-32 with generator 04C11DB7 taken in reflected form. -/
def crcBit (c : BitVec 32) : BitVec 32 := if c.getLsbD 0 then (c >>> 1) ^^^ 0xEDB88320#32 else c >>> 1

def crcByte (c : BitVec 32) (b : Byte) : BitVec 32 :=
  crcBit (crcBit (crcBit (crcBit (crcBit (crcBit (crcBit (crcBit (c ^^^ b.setWidth 32))))))))

/-- 1.5: CRC-32 with reflected input and output, an initial value of all ones and a final inversion. -/
def crc32 (bs : List Byte) : BitVec 32 := ~~~ (bs.foldl crcByte 0xFFFFFFFF#32)

def imageCrc (t : Tables) : BitVec 32 := crc32 (imageBytes t)

/-- R19: the stored CRC agrees with the image. -/
def Image.agrees (i : Image) : Bool := decide (imageCrc i.tables = i.crc)

end Sys2Proof.Machine
end

