-- ==== Sys2Proof/Machine/Operands.lean ====
section
/-! DEFINITION. The records of WRITE RECORD as operands: the structural checks of R7, the clamping of R8 and the record
that is written. A check answers the lowest-numbered field at fault. -/

namespace Sys2Proof.Machine

/-- A value brought to the nearer end of a range (R8). -/
def clamp (lo hi n : Nat) : Nat := max lo (min hi n)

/-- The number of the first field of a list of (field, as sent, as written) whose value was clamped, 0 where none was
(R8: the detail names the lowest-numbered clamped field). -/
def clampedField : List (Nat × List Nat × List Nat) → Nat
  | [] => 0
  | (f, sent, written) :: r => if sent = written then clampedField r else f

/-- What a structural check comes to: the answer that refuses the request, or the record to write and the number of its
lowest-numbered clamped field, 0 for none. -/
abbrev Checked (α : Type) := Except Ans (α × Nat)

/-- R7: the lists of field numbers at fault, with their codes; the first one refuses the request. -/
def firstFault : List (Nat × Code × Bool) → Option Ans
  | [] => none
  | (f, c, bad) :: r => if bad then some (ans c f) else firstFault r

/-- R2, R7, R8: a Station record. -/
def checkStation (r : RawStation) : Checked StationRec :=
  match StationKind.ofCode r.kind with
  | none => .error (ans .code 1)
  | some k =>
    match firstFault [(3, .range, r.areas.any (fun a => decide (a < 1 ∨ 12 < a)))] with
    | some a => .error a
    | none =>
      let grace := clamp 30 600 r.grace
      .ok (⟨k, r.addr, NSet.ofList r.areas, grace⟩, clampedField [(4, [r.grace], [grace])])

/-- R3, R7: a badge held by a present record of another index. -/
def badgeTaken (roster : Tbl RosterRec) (index badge : Nat) : Bool :=
  roster.any (fun p => decide (p.1 ≠ index ∧ p.2.badge = badge))

/-- R3, R7, R8: a Roster record for an index. -/
def checkRoster (r : RawRoster) (roster : Tbl RosterRec) (index : Nat) : Checked RosterRec :=
  match firstFault [(1, .range, decide (r.badge = 0)), (1, .duplicateBadge, badgeTaken roster index r.badge)] with
  | some a => .error a
  | none =>
    match Role.ofCode r.role with
    | none => .error (ans .code 3)
    | some role =>
      match firstFault [(6, .range, r.stations.any (fun n => decide (n < 1 ∨ 16 < n)))] with
      | some a => .error a
      | none =>
        let levels := r.levels.map (fun l => min l 3)
        .ok (⟨r.badge, r.name, role, r.enabled, levels, NSet.ofList r.stations⟩,
          clampedField [(5, r.levels.toList, levels.toList)])

/-- R4: a flood cut as written: URGENT becomes HIGH, and NONE or a code that is no priority is none. -/
def cutOf (code : Nat) : Option Priority :=
  match Priority.ofCode code with
  | some .urgent => some .high
  | p => p

/-- R4, R8: the numeric fields of an Area record brought into range. F_on is clamped first, then F_off against it. -/
def areaWritten (r : RawArea) (cut : Priority) : AreaRec :=
  let on := clamp 16 65535 r.floodOn
  { name := r.name, stage1 := r.stage1.map (clamp 10 3600), stage2 := clamp 60 3600 r.stage2,
    decay := clamp 1 4095 r.decay, floodOn := on, floodOff := min r.floodOff (on - 1), cut := cut,
    release := clamp 1 60 r.release, shelveMax := clamp 60 43200 r.shelveMax,
    bypassMax := clamp 60 28800 r.bypassMax, window := clamp 30 600 r.window,
    handover := clamp 120 3600 r.handover, fallback := r.fallback.filter (fun n => decide (n ≠ 0)) }

/-- R8: the lowest-numbered clamped field of an Area record. -/
def areaClamped (r : RawArea) (w : AreaRec) : Nat :=
  clampedField [(2, r.stage1.toList, w.stage1.toList), (3, [r.stage2], [w.stage2]), (4, [r.decay], [w.decay]),
    (5, [r.floodOn], [w.floodOn]), (6, [r.floodOff], [w.floodOff]), (7, [r.cut], [w.cut.value]),
    (8, [r.release], [w.release]), (9, [r.shelveMax], [w.shelveMax]), (10, [r.bypassMax], [w.bypassMax]),
    (11, [r.window], [w.window]), (12, [r.handover], [w.handover])]

/-- R4, R7, R8: an Area record. -/
def checkArea (r : RawArea) : Checked AreaRec :=
  match cutOf r.cut with
  | none => .error (ans .code 7)
  | some cut =>
    match firstFault [(13, .range, r.fallback.any (fun n => decide (16 < n)))] with
    | some a => .error a
    | none => .ok (areaWritten r cut, areaClamped r (areaWritten r cut))

/-- R5 field 5: a blocker as written. -/
def blockerOf (b : Option (Nat × Nat)) : Option (Nat × Priority) :=
  b.bind (fun x => (Priority.ofCode x.2).map (fun p => (x.1, p)))

/-- R5, R7: the faults of a Tag record for an index, in field order. -/
def tagFault? (r : RawTag) (index : Nat) : Option Ans :=
  firstFault
    [(2, .range, decide (r.area < 1 ∨ 12 < r.area)),
     (3, .code, r.prios.toList.any (fun c => decide (4 < c))),
     (4, .range, (r.parent.map (fun p => decide (4095 < p.1))).getD false),
     (4, .selfParent, (r.parent.map (fun p => decide (p.1 = index))).getD false),
     (5, .range, (r.blocker.map (fun b => decide (4095 < b.1))).getD false),
     (5, .code, (r.blocker.map (fun b => decide (Priority.ofCode b.2 = none))).getD false)]

/-- R5, R7, R8: a Tag record for an index. -/
def checkTag (r : RawTag) (index : Nat) : Checked TagRec :=
  match tagFault? r index with
  | some a => .error a
  | none =>
    let cls := min r.cls 4
    let base := clamp 1 255 r.base
    .ok ({ name := r.name, area := r.area, prios := r.prios.map Priority.ofCode, parent := r.parent,
           blocker := blockerOf r.blocker, cls := cls, base := base, shelvable := r.shelvable,
           ackRelay := r.ackRelay },
      clampedField [(6, [r.cls], [cls]), (7, [r.base], [base])])

end Sys2Proof.Machine
end

