-- ==== Sys2Proof/Machine/Management.lean ====
section
/-! DEFINITION. Management (chapter 1 and R186 to R188): WRITE RECORD and its effects on live state, READ RECORD, STORE,
SET CLOCK and RESTART. -/

namespace Sys2Proof.Machine

/-- R187: the mill time one second on. -/
def nextSecond (t : MillTime) : MillTime :=
  if t.sec < 86399 then ⟨t.day, t.sec + 1⟩ else ⟨(t.day + 1) % 65536, 0⟩

namespace State

/-! ### WRITE RECORD: what all four tables share (R6) -/

/-- R6 checks 1 and 2, and the faults outside the record (R7): a reserved byte, then an index outside the table. -/
def writeFault? (s : State) (st : Nat) (indexOk : Bool) (rsv : Nat) : Option Ans :=
  if !s.entitled st then some (ans .notEngineer)
  else if s.store.job.isSome then some (ans .storing)
  else if rsv ≠ 0 then some (ans .reserved)
  else if !indexOk then some (ans .range)
  else none

/-- R6, R8: the answer to a write that is applied, `field` being the lowest-numbered clamped field or 0. -/
def writeAnswer (field : Nat) : Ans := if field = 0 then ans .done else ans .clamped field

def setTables (s : State) (t : Tables) : State := { s with tables := t }

/-! ### Station writes (R9) -/

/-- R9: the link state becomes ABSENT and the RESTARTED-pending flag is set; a station that was LOST leaves the LOST
set. -/
def resetStation (s : State) (st : Nat) : State :=
  let t : State := { s with console := { s.console with
    link := s.console.link.del st, heard := s.console.heard.del st,
    restartPending := s.console.restartPending.ins st } }
  (t.followLost s.lostSet).coverScan

/-- R9: an applied write of a Station record. -/
def putStation (s : State) (st : Nat) (r : StationRec) : State :=
  let t := s.setTables { s.tables with stations := s.tables.stations.put st r }
  if (s.stationRec? st).isSome then t else t.resetStation st

/-- R9: an applied clear of a Station record. -/
def clearStation (s : State) (st : Nat) : State :=
  (s.setTables { s.tables with stations := s.tables.stations.del st }).resetStation st

/-- R6, R9: WRITE RECORD to the Station Table. -/
def takeStationWrite (s : State) (st index : Nat) (record : Option RawStation) (rsv : Nat) : State × Ans :=
  match s.writeFault? st (decide (1 ≤ index ∧ index ≤ 16)) rsv, record with
  | some a, _ => (s, a)
  | none, none =>
    if s.staffed index then (s, ans .stationOccupied)
    else if s.stationRec? index = none then (s, ans .already)
    else (s.clearStation index, ans .done)
  | none, some raw =>
    match checkStation raw with
    | .error a => (s, a)
    | .ok (r, field) =>
      if s.staffed index then (s, ans .stationOccupied) else (s.putStation index r, writeAnswer field)

/-! ### Roster writes (R10 to R12) -/

/-- R10: after the write the operator logged on at a station may stay there. -/
def mayStay (s : State) (op st : Nat) : Bool :=
  match s.rosterRec? op, s.stationRec? st with
  | some r, some q => r.enabled && decide (st ∈ r.stations) && roleFits q.kind r.role
  | _, _ => false

/-- R11, first case: an area that the operator owns at level 0 becomes unowned, and its session closes. -/
def loseAtZero (op : Nat) (s : State) (a : Nat) : State :=
  let t := s.loseArea a
  if ((t.session? a).map (·.outOp)) = some op then t.closeSession a .ownerChanged else t

/-- R11, second and third case: the operator at level 0 is no longer the incoming operator of the area's session or the
supervisor of its takeover. -/
def leaveAtZero (op : Nat) (s : State) (a : Nat) : State :=
  let t := if ((s.session? a).map (·.inOp)) = some op then s.closeSession a .incomingGone else s
  match t.hand.look a with
  | some (.takingOver x) => if x.op = op then t.cancelTakeover a .supervisorGone else t
  | _ => t

/-- R11: the areas in which the operator's level is now 0. The waiting commands of all of them are withdrawn together, in
ascending ticket order (R148). DESIGN CHOICE (log entry 40): each of R11's cases is carried out for every such area, by
rising area, before the next case. -/
def releaseAtZero (s : State) (op : Nat) : State :=
  let zero := areaNumbers.filter (fun a => decide (s.levelOf op a = 0))
  let owned := zero.filter (fun a => decide ((s.ownerOf a).map Prod.fst = some op))
  let s1 := (owned.foldl (loseAtZero op) s).withdrawWaiting (fun x => decide (x.area ∈ owned ∧ x.origOp = op))
    .originatorGone
  zero.foldl (leaveAtZero op) s1

/-- R10 to R12: what a Roster write or clear does to live state once the record is in place. -/
def rosterEffects (s : State) (op : Nat) : State :=
  match s.stationOf op with
  | none => s.coverScan
  | some st =>
    if s.mayStay op st then
      (s.releaseAtZero op).coverScan
    else (s.forceOff op st .roster .originatorGone).forceAttention st

/-- R6, R10 to R12: WRITE RECORD to the Roster. -/
def takeRosterWrite (s : State) (st index : Nat) (record : Option RawRoster) (rsv : Nat) : State × Ans :=
  match s.writeFault? st (decide (index ≤ 127)) rsv, record with
  | some a, _ => (s, a)
  | none, none =>
    if s.rosterRec? index = none then (s, ans .already)
    else ((s.setTables { s.tables with roster := s.tables.roster.del index }).rosterEffects index, ans .done)
  | none, some raw =>
    match checkRoster raw s.tables.roster index with
    | .error a => (s, a)
    | .ok (r, field) =>
      ((s.setTables { s.tables with roster := s.tables.roster.put index r }).rosterEffects index, writeAnswer field)

/-! ### Area writes (R13, R14) -/

/-- R13, R14: an Area record is written: the flood flag is tested against the new thresholds and cover is rescanned. -/
def putArea (s : State) (a : Nat) (r : AreaRec) : State :=
  let t := s.setTables { s.tables with areas := s.tables.areas.setD a (AreaRec.default a) r }
  ((t.floodEntryTest a).floodExitTest a).coverScan

/-- R6, R13: WRITE RECORD to the Area Table. An Area record cannot be cleared (R7). -/
def takeAreaWrite (s : State) (st index : Nat) (record : Option RawArea) (rsv : Nat) : State × Ans :=
  match s.writeFault? st (decide (1 ≤ index ∧ index ≤ 12)) rsv, record with
  | some a, _ => (s, a)
  | none, none => (s, ans .missingRecord)
  | none, some raw =>
    match checkArea raw with
    | .error a => (s, a)
    | .ok (r, field) => (s.putArea index r, writeAnswer field)

/-! ### Tag writes (R15) -/

/-- R15: the tag has an alarm entry, an override entry or a transit entry. -/
def tagInUse (s : State) (tag : Nat) : Bool :=
  decide (s.entriesOfTag tag ≠ []) || s.overrides.any (fun p => decide (p.2.tag = tag))
    || s.gate.transit.any (fun p => decide (p.2.tag = tag))

/-- R6, R15: WRITE RECORD to the Tag Table. -/
def takeTagWrite (s : State) (st index : Nat) (record : Option RawTag) (rsv : Nat) : State × Ans :=
  match s.writeFault? st (decide (index ≤ 4095)) rsv, record with
  | some a, _ => (s, a)
  | none, none =>
    if s.tagInUse index then (s, ans .tagInUse index)
    else if s.tagRec? index = none then (s, ans .already)
    else (s.setTables { s.tables with tags := s.tables.tags.del index }, ans .done)
  | none, some raw =>
    match checkTag raw index with
    | .error a => (s, a)
    | .ok (r, field) =>
      if s.tagInUse index then (s, ans .tagInUse index)
      else (s.setTables { s.tables with tags := s.tables.tags.put index r }, writeAnswer field)

/-! ### READ RECORD (R16) -/

/-- R16: the record of a table at an index, none where the table or the index is none of the unit's. Tables are numbered
in the order of R1 (R182). -/
def recordAt (s : State) (table index : Nat) : Option Payload :=
  if table = 1 ∧ 1 ≤ index ∧ index ≤ 16 then some (.station (s.stationRec? index))
  else if table = 2 ∧ index ≤ 127 then some (.roster (s.rosterRec? index))
  else if table = 3 ∧ 1 ≤ index ∧ index ≤ 12 then some (.area (s.areaRec index))
  else if table = 4 ∧ index ≤ 4095 then some (.tag (s.tagRec? index))
  else none

/-- R16: READ RECORD. -/
def askRecord (s : State) (st table index rsv : Nat) : Ans :=
  if !s.entitled st then ans .notEngineer
  else
    match s.recordAt table index with
    | none => ans .range
    | some p => if rsv ≠ 0 then ans .reserved else ⟨.done, 0, p⟩

/-! ### STORE (R17, R18) -/

/-- R17: STORE. Its ANSWER comes at its completion. -/
def takeStore (s : State) (h : Hdr) : State :=
  if !s.entitled h.station then s.answer h (ans .notEngineer)
  else if s.store.job.isSome then s.answer h (ans .storing)
  else { s with store := { s.store with job := some ⟨h.station, h.src, h.rtag⟩ } }

/-- R17, R18: the read-back has matched: the image holds the tables and the store fault condition is cleared. -/
def storeMatched (s : State) : State :=
  let t : State := { s with store := { s.store with
    job := none, fault := false, image := ⟨s.tables, imageCrc s.tables⟩ } }
  if s.store.fault then t.sysReturn 520 else t

/-- R17, R18: the read-back has not matched. What the image then holds is free (log entry 3). -/
def storeFailed (s : State) : State :=
  ({ s with store := { s.store with
    job := none, fault := true, image := Config.misreadImage s.store.misreads,
    misreads := s.store.misreads + 1 } } : State).sysRaise 520 .none

/-- R17: the STORE ends and its ANSWER goes to the station that sent it, at the address it sent it from. -/
def storeDone (s : State) (matched : Bool) : State :=
  match s.store.job with
  | none => s
  | some j =>
    let t := if matched then s.storeMatched.finish else s.storeFailed.finish
    t.answer ⟨j.addr, j.station, j.rtag, 0⟩ (if matched then ans .done else ans .store)

/-! ### SET CLOCK and RESTART -/

/-- R187: SET CLOCK. -/
def takeSetClock (s : State) (st : Nat) (time : MillTime) (rsv : Nat) : State × Ans :=
  if !s.entitled st then (s, ans .notEngineer)
  else if 86399 < time.sec then (s, ans .range)
  else if rsv ≠ 0 then (s, ans .reserved)
  else ({ s with time := { s.time with mill := time, clockUnset := false } }, ans .done)

/-- R188 steps 1, 2 and 4: the live state of every block takes its RESTART value; what is kept is kept. -/
def cleared (s : State) : State :=
  { s with
    console := ConsolePort.initial
    auth := { Authority.initial s.auth.keyLine with key := s.auth.key, keySince := s.auth.keySince }
    alarm := { AlarmProc.initial with out := s.alarm.out }
    flood := FloodMon.initial
    ann := Annun.initial
    overrides := []
    gate := { Gate.initial with ticket := s.gate.ticket }
    hand := []
    plant := { PlantPort.initial with resync := s.plant.resync, mark := s.now }
    ev := EvBuf.empty }

/-- R18, R38, R40, R188 step 3: the start-up cover scan runs, and STORE FAULT and MASTER KEY IN USE are raised where
their conditions stand. -/
def startUpAlarms (s : State) : State :=
  let s1 := s.coverScan
  let s2 := if s1.store.fault then s1.sysRaise 520 .none else s1
  if s2.auth.key then s2.sysRaise 519 .none else s2

/-- R188: RESTART. -/
def takeRestart (s : State) (st : Nat) : State × Ans :=
  if !s.entitled st then (s, ans .notEngineer)
  else if s.store.job.isSome then (s, ans .storing)
  else (s.cleared.startUpAlarms, ans .done)

/-- R187: the mill time advances by one second. -/
def advanceMill (s : State) : State := { s with time := { s.time with mill := nextSecond s.time.mill } }

end State

/-! ### The commands of these blocks -/

/-- R9. -/
def execStationWrite (h : Hdr) (index : Nat) (record : Option RawStation) (rsv : Nat) (s : State) :
    Host.Outcome State Fault Refusal :=
  requestEvent h (fun s => s.takeStationWrite h.station index record rsv) s

/-- R10 to R12. -/
def execRosterWrite (h : Hdr) (index : Nat) (record : Option RawRoster) (rsv : Nat) (s : State) :
    Host.Outcome State Fault Refusal :=
  requestEvent h (fun s => s.takeRosterWrite h.station index record rsv) s

/-- R13, R14. -/
def execAreaWrite (h : Hdr) (index : Nat) (record : Option RawArea) (rsv : Nat) (s : State) :
    Host.Outcome State Fault Refusal :=
  requestEvent h (fun s => s.takeAreaWrite h.station index record rsv) s

/-- R15. -/
def execTagWrite (h : Hdr) (index : Nat) (record : Option RawTag) (rsv : Nat) (s : State) :
    Host.Outcome State Fault Refusal :=
  requestEvent h (fun s => s.takeTagWrite h.station index record rsv) s

/-- R16. -/
def execReadRecord (h : Hdr) (table index rsv : Nat) (s : State) : Host.Outcome State Fault Refusal :=
  askEvent h (fun s => s.askRecord h.station table index rsv) s

/-- R17. -/
def execStore (h : Hdr) (s : State) : Host.Outcome State Fault Refusal :=
  event (fun s => s.request h (fun s => s.takeStore h)) s

/-- R17: the write and read-back of the image end. -/
def execStoreComplete (matched : Bool) (s : State) : Host.Outcome State Fault Refusal :=
  event (fun s => s.storeDone matched) s

/-- R187. -/
def execSetClock (h : Hdr) (time : MillTime) (rsv : Nat) (s : State) : Host.Outcome State Fault Refusal :=
  requestEvent h (fun s => s.takeSetClock h.station time rsv) s

/-- R188. -/
def execRestart (h : Hdr) (s : State) : Host.Outcome State Fault Refusal :=
  requestEvent h (fun s => s.takeRestart h.station) s

/-- R187. -/
def execMillTimeAdvance (s : State) : Host.Outcome State Fault Refusal := event State.advanceMill s

end Sys2Proof.Machine
end

