-- ==== Sys2Proof/Machine/Power.lean ====
section
/-! DEFINITION. Power and RESET (R19, R20, R189, R190): the load of the store, start-up, and what a loss of power or an
assertion of RESET leaves. -/

namespace Sys2Proof.Machine

/-- R189: the STRAP inputs as a value 0 to 15, STRAP0 the least significant. An open input reads 1 (R190). -/
def strapValue (p : Straps) : Nat :=
  (if p.s0 then 1 else 0) + (if p.s1 then 2 else 0) + (if p.s2 then 4 else 0) + (if p.s3 then 8 else 0)

/-! ### The image after an interrupted STORE (R20) -/

/-- The first `n` records of a table in index order are the new ones and the rest the old ones. -/
def mixTable {α : Type} (indexes : List Nat) (n : Nat) (new old : Tbl α) : Tbl α :=
  let done := indexes.take n
  new.filter (fun p => decide (p.1 ∈ done)) ++ old.filter (fun p => decide (p.1 ∉ done))

/-- R20: the write ended after `n` records, in the order of R1 and of the indexes within a table. -/
def mixTables (n : Nat) (new old : Tables) : Tables :=
  { stations := mixTable stationNumbers n new.stations old.stations
    roster := mixTable (List.range 128) (n - 16) new.roster old.roster
    areas := mixTable areaNumbers (n - 144) new.areas old.areas
    tags := mixTable (List.range 4096) (n - 156) new.tags old.tags }

/-- R20: the stored CRC, which is written last, then disagrees with the image. -/
def tornImage (n : Nat) (new old : Tables) : Image :=
  let t := mixTables n new old
  ⟨t, ~~~ imageCrc t⟩

namespace State

/-- R20: the image as the loss of power or of operation leaves it. -/
def imageAfterLoss (s : State) (m : StoreMoment) : Image :=
  match s.store.job, m with
  | none, _ => s.store.image
  | some _, .writing n => tornImage n s.tables s.store.image.tables
  | some _, .readBack => ⟨s.tables, imageCrc s.tables⟩

/-- R189: no block holds any state; the image, the queue and the levels of the lines are all there is. The output is
deasserted. -/
def dark (s : State) (power reset : Bool) (image : Image) : State :=
  { State.reset with
    pins := ⟨power, reset, 0⟩
    store := ⟨none, false, image, s.store.misreads⟩
    auth := Authority.initial s.auth.keyLine
    alarm := AlarmProc.initial
    pending := s.pending }

/-- R19: the load: the tables and the store fault condition. -/
def loaded (i : Image) : Tables × Bool := if i.agrees then (i.tables, false) else (Tables.empty, true)

/-- R189: start-up with the STRAP inputs as found. DESIGN CHOICE (log entry 53): no whole-second event falls at unit time 0, so
no UNIT BEAT is sent here. -/
def startUp (s : State) (p : Straps) : State :=
  let base : State := { s.dark true false s.store.image with
    pins := ⟨true, false, strapValue p⟩
    tables := (loaded s.store.image).1
    store := ⟨none, (loaded s.store.image).2, s.store.image, s.store.misreads⟩ }
  base.startUpAlarms.finish

/-- R189: while RESET is held asserted, and while there is no power, the unit does not start. -/
def powerOn (s : State) (p : Straps) : State :=
  if s.pins.reset then s.dark true true s.store.image else s.startUp p

end State

/-! ### The commands of these blocks -/

/-- R189: power comes up. -/
def execPowerUp (straps : Straps) (s : State) : Host.Outcome State Fault Refusal := .next (s.powerOn straps)

/-- R189: RESET is asserted. The state of every block is discarded, a STORE in flight ends as R20 gives. DESIGN CHOICE (log
entry 47): R190 asks for a low level of 10 ms and says nothing of a shorter one; here any assertion resets the unit. -/
def execResetAssert (moment : StoreMoment) (s : State) : Host.Outcome State Fault Refusal :=
  .next (s.dark s.pins.power true (s.imageAfterLoss moment))

/-- R189: RESET is deasserted: the unit starts, if it has power. -/
def execResetDeassert (straps : Straps) (s : State) : Host.Outcome State Fault Refusal :=
  .next (if s.pins.power then s.startUp straps else s.dark false false s.store.image)

/-- R20: power is lost. -/
def execPowerLoss (moment : StoreMoment) (s : State) : Host.Outcome State Fault Refusal :=
  .next (s.dark false s.pins.reset (s.imageAfterLoss moment))

end Sys2Proof.Machine
end

