-- ==== Sys2Proof/Machine/Queries.lean ====
section
/-! DEFINITION. The queries (R185, R118, R138, R168) and the requests that no other command stands for (R184). A query
changes nothing. -/

namespace Sys2Proof.Machine

namespace State

/-! ### The parts of the results -/

/-- The ANNOUNCE body of an entry in use (R181). -/
def announceBody (s : State) (n : Nat) (e : Entry) : Announce := ⟨s.refOf n, false, e.shown⟩

/-- R185: UNIT STATUS. DESIGN CHOICE (log entry 46): the seconds since the last plant frame (R179) are the whole seconds
that have passed. -/
def unitStatus (s : State) : UnitStatus :=
  { link := s.plant.link, resync := s.plant.resync,
    sinceFrame := s.plant.heard.map (fun t => (s.now - t) / Config.ticksPerSecond),
    mill := s.time.mill, clockUnset := s.time.clockUnset, keyAsserted := s.auth.key,
    storing := s.store.job.isSome, storeFault := s.store.fault, freeEntries := s.freeCount,
    deferred := s.flood.deferred.length, overflow := s.flood.overflow, transit := s.gate.transit.length,
    ticket := s.gate.ticket, strapStation := s.pins.strap + 1, portA := s.console.counters,
    portB := s.plant.counters, gate := s.gate.counters }

/-- R151, R182: a handover state by its place in the list of R151. -/
def handoverCode (s : State) (a : Nat) : Nat :=
  match s.hand.look a with
  | none => 1
  | some (.offered _) => 2
  | some (.quiescing _) => 3
  | some (.takingOver _) => 4

/-- The count of an area's transit entries in a state. -/
def transitCount (s : State) (a : Nat) (x : TransitState) : Nat :=
  (s.transitWhere (fun t => decide (t.area = a ∧ t.state = x))).length

/-- R185: AREA STATUS. -/
def areaStatus (s : State) (a : Nat) : AreaStatus :=
  { ownerBadge := ((s.ownerOf a).map (fun o => s.badgeOf o.1)).getD 0
    ownerStation := ((s.ownerOf a).map Prod.snd).getD 0
    cover := (s.coverOf a).getD 0, orphan := s.isOrphan a, inService := s.inService a, load := s.load a,
    flooded := s.flooded a, releasing := (s.flood.release.look a).isSome, deferred := (s.deferredOf a).length,
    overflows := s.flood.overflows.getD a 0, discarded := s.alarm.discarded.getD a 0,
    duplicates := s.alarm.duplicates.getD a 0, dropped := s.alarm.dropped.getD a 0,
    shelves := (s.areaOverrides a .shelve).length, bypasses := (s.areaOverrides a .bypass).length,
    awaiting := s.transitCount a .awaiting, forwarded := s.transitCount a .forwarded,
    repeatWait := s.transitCount a .repeatWait, handover := s.handoverCode a }

/-- R185: the ALARM PAGE filters, numbered in that rule's order (R182). -/
def pageFilter (filter : Nat) : Option (Entry → Bool) :=
  match filter with
  | 1 => some (fun _ => true)
  | 2 => some (fun e => decide (e.ack = none))
  | 3 => some (fun e => decide (e.disp = .deferred))
  | 4 => some (fun e => decide (e.disp = .suppressed))
  | 5 => some (fun e => decide (e.disp = .shelved))
  | 6 => some (fun e => decide (e.stage = 1 ∨ e.stage = 2))
  | 7 => some (fun e => e.stale)
  | _ => none

/-- R185: the entries of an area (0 for the system alarms) that pass a filter, in the order of ALARM PAGE. -/
def pageEntries (s : State) (area : Nat) (p : Entry → Bool) : List (Nat × Entry) :=
  sortBy urgentFirst (s.alarm.entries.filter (fun q => decide (q.2.area = area) && p q.2))

/-- R185: page p holds entries 12p + 1 to 12p + 12. -/
def alarmPage (s : State) (area page : Nat) (p : Entry → Bool) : Payload :=
  .alarmPage (s.pageEntries area p).length
    ((((s.pageEntries area p).drop (page * Config.pageSize)).take Config.pageSize).map
      (fun q => s.announceBody q.1 q.2))

/-- R185: ALARM ENTRY: the route, the silenced-station set, and the seconds to the escalation deadline with the stage it
leads to, both 0 where there is none. -/
def alarmEntry (s : State) (n : Nat) (e : Entry) : Payload :=
  .alarmEntry (s.announceBody n e) (s.annRec n).route (s.annRec n).silenced
    (((s.annRec n).deadline.map (fun d => s.secondsLeft d.1)).getD 0) (((s.annRec n).deadline.map Prod.snd).getD 0)

/-- R138: milliseconds to a time, rounded down to 10 ms, 0 where it is absent. -/
def msLeft (s : State) (t : Option Nat) : Nat := (t.map (fun x => 10 * (x - s.now))).getD 0

/-- R138: one entry of TRANSIT LIST. -/
def transitView (s : State) (q : Nat × Transit) : TransitView :=
  { ticket := q.1, tag := q.2.tag, area := q.2.area, action := q.2.action, value := q.2.value,
    origBadge := s.badgeOf q.2.origOp, origStation := q.2.origStation,
    signBadge := (q.2.signer.map (fun x => s.badgeOf x.1)).getD 0, signStation := (q.2.signer.map Prod.snd).getD 0,
    key := q.2.key, state := q.2.state, createdUnit := q.2.createdUnit, createdMill := q.2.createdMill,
    deadlineMs := s.msLeft (some q.2.deadline), extensions := q.2.extensions, windowMs := s.msLeft q.2.windowEnd,
    resendMs := s.msLeft q.2.resend }

/-- R118: OVERRIDE LIST. DESIGN CHOICE (log entry 42): R118 and R185 give the entries no order; they go by ascending
override entry number. -/
def overrideViews (s : State) : List OverrideView :=
  s.overrides.map (fun p =>
    { kind := p.2.kind, tag := p.2.tag, holder := p.2.holder, station := p.2.station, placedUnit := p.2.placedUnit,
      placedMill := p.2.placedMill, expiry := p.2.expiry, reason := p.2.reason, badge := s.badgeOf p.2.holder,
      remaining := s.secondsLeft p.2.expiry })

/-- R168: HANDOVER LIST: the seconds to the lapse deadline stand in place of the deadline, 0 while QUIESCING. -/
def handoverView (s : State) (a : Nat) : HandoverView :=
  match s.hand.look a with
  | none => .idle
  | some (.offered x) => .session 2 a x ((x.lapse.map s.secondsLeft).getD 0)
  | some (.quiescing x) => .session 3 a x 0
  | some (.takingOver t) => .takeover t

/-- R185: STATION STATUS. -/
def stationStatus (s : State) (st : Nat) : StationStatus :=
  { present := (s.stationRec? st).isSome, kind := (s.stationRec? st).map (·.kind), link := s.link st,
    badge := ((s.logonAt st).map s.badgeOf).getD 0,
    grace := ((s.auth.grace.look st).map s.secondsLeft).getD 0, stack := (s.stack st).map s.refOf,
    waiting := (s.waiting st).length, shown := s.ann.shown.look st }

/-! ### The requests -/

/-- R185: UNIT STATUS is answered with or without a logon. -/
def askUnitStatus (s : State) (rsv : Nat) : Ans :=
  if rsv ≠ 0 then ans .reserved else ⟨.done, 0, .unitStatus s.unitStatus⟩

/-- R185: what every other query goes through: the reserved byte, its arguments and the logon (log entry 12). -/
def ask (s : State) (st rsv : Nat) (fault : Option Ans) (result : Ans) : Ans :=
  if rsv ≠ 0 then ans .reserved
  else
    match fault, s.logonAt st with
    | some a, _ => a
    | none, none => ans .notLoggedOn
    | none, some _ => result

/-- R185: an accepted query draws ACCEPTED/DONE with the result as payload. -/
def found (p : Payload) : Ans := ⟨.done, 0, p⟩

/-- R185: a number outside a range. -/
def outside (lo hi n : Nat) : Option Ans := if n < lo ∨ hi < n then some (ans .range) else none

def askAreaStatus (s : State) (st area rsv : Nat) : Ans :=
  s.ask st rsv (outside 1 12 area) (found (.areaStatus (s.areaStatus area)))

def askAlarmPage (s : State) (st area page filter rsv : Nat) : Ans :=
  match pageFilter filter with
  | none => s.ask st rsv (some ((outside 0 12 area).getD (ans .code))) (ans .code)
  | some p => s.ask st rsv (outside 0 12 area) (found (s.alarmPage area page p))

def askAlarmEntry (s : State) (st : Nat) (ref : Ref) (rsv : Nat) : Ans :=
  s.ask st rsv (outside 0 Config.lastEntry ref.num)
    (match s.entry? ref.num with
      | none => ans .staleReference
      | some e => if s.current ref then found (s.alarmEntry ref.num e) else ans .staleReference)

def askTransitList (s : State) (st rsv : Nat) : Ans :=
  s.ask st rsv none (found (.transitList (s.gate.transit.map s.transitView)))

def askOverrideList (s : State) (st rsv : Nat) : Ans := s.ask st rsv none (found (.overrideList s.overrideViews))

def askHandoverList (s : State) (st area rsv : Nat) : Ans :=
  s.ask st rsv (outside 1 12 area) (found (.handoverList (s.handoverView area)))

def askStationStatus (s : State) (st station rsv : Nat) : Ans :=
  s.ask st rsv (outside 1 16 station) (found (.stationStatus (s.stationStatus station)))

/-! ### Requests whose selector names nothing the unit knows -/

/-- R184, R7, R60, R95, R142, R185: the ANSWER to an accepted frame that no other command stands for. -/
def oddAnswer (s : State) (h : Hdr) : OddRequest → Ans
  | .kind _ => ans .code
  | .silenceMode _ _ _ => ans .code
  | .serviceState area _ _ => if area < 1 ∨ 12 < area then ans .range else ans .code
  | .decision ticket tag _ rsv =>
    if rsv ≠ 0 then ans .reserved else if ticket = 0 ∨ 65535 < ticket ∨ 4095 < tag then ans .range else ans .code
  | .writeTable _ _ => (s.writeFault? h.station false 0).getD (ans .range)
  | .queryKind _ => ans .code

/-- R184: an unknown kind is answered before the header's reserved field is looked at; the other requests are of a known
kind. -/
def unknownRequest (s : State) (h : Hdr) (r : OddRequest) : State :=
  match r with
  | .kind c => s.receive h (fun s => s.answer h (s.oddAnswer h (.kind c)))
  | r => s.request h (fun s => s.answer h (s.oddAnswer h r))

end State

/-! ### The commands -/

/-- R184. -/
def execUnknownKind (h : Hdr) (r : OddRequest) (s : State) : Host.Outcome State Fault Refusal :=
  event (fun s => s.unknownRequest h r) s

/-- R185. -/
def execQueryUnitStatus (h : Hdr) (rsv : Nat) (s : State) : Host.Outcome State Fault Refusal :=
  askEvent h (fun s => s.askUnitStatus rsv) s

/-- R185. -/
def execQueryAreaStatus (h : Hdr) (area rsv : Nat) (s : State) : Host.Outcome State Fault Refusal :=
  askEvent h (fun s => s.askAreaStatus h.station area rsv) s

/-- R185. -/
def execQueryAlarmPage (h : Hdr) (area page filter rsv : Nat) (s : State) : Host.Outcome State Fault Refusal :=
  askEvent h (fun s => s.askAlarmPage h.station area page filter rsv) s

/-- R185. -/
def execQueryAlarmEntry (h : Hdr) (ref : Ref) (rsv : Nat) (s : State) : Host.Outcome State Fault Refusal :=
  askEvent h (fun s => s.askAlarmEntry h.station ref rsv) s

/-- R138. -/
def execQueryTransitList (h : Hdr) (rsv : Nat) (s : State) : Host.Outcome State Fault Refusal :=
  askEvent h (fun s => s.askTransitList h.station rsv) s

/-- R118. -/
def execQueryOverrideList (h : Hdr) (rsv : Nat) (s : State) : Host.Outcome State Fault Refusal :=
  askEvent h (fun s => s.askOverrideList h.station rsv) s

/-- R168. -/
def execQueryHandoverList (h : Hdr) (area rsv : Nat) (s : State) : Host.Outcome State Fault Refusal :=
  askEvent h (fun s => s.askHandoverList h.station area rsv) s

/-- R185. -/
def execQueryStationStatus (h : Hdr) (station rsv : Nat) (s : State) : Host.Outcome State Fault Refusal :=
  askEvent h (fun s => s.askStationStatus h.station station rsv) s

end Sys2Proof.Machine
end

