-- ==== Sys2Proof/Machine/WireIn.lean ====
section
/-! DEFINITION. The layouts of the messages the unit takes (R180 to R183, R170): which command a frame's payload spells,
and the two commands for a frame that is discarded. -/

namespace Sys2Proof.Machine

/-! ### Fields of a payload -/

/-- The number in `n` bytes from byte `i` on, the most significant first. -/
def field (b : List Byte) (i n : Nat) : Nat := numberOf ((b.drop i).take n)

/-- The members of a set sent as 2 bytes: n where bit n - 1 is set. -/
def setMembers (m : Nat) : List Nat := stationNumbers.filter (fun n => m.testBit (n - 1))

def refAt (b : List Byte) (i : Nat) : Ref := ⟨field b i 2, field b (i + 2) 2⟩

def millAt (b : List Byte) (i : Nat) : MillTime := ⟨field b i 2, field b (i + 2) 4⟩

def textAt (b : List Byte) (i n : Nat) : Text := (b.drop i).take n

/-- R182: a flag byte is 1 for yes; any other value is read as no (log entry 14). -/
def flagAt (b : List Byte) (i : Nat) : Bool := decide (field b i 1 = 1)

/-! ### Records (R182: the fields in field-number order) -/

def stationAt (b : List Byte) (i : Nat) : RawStation :=
  ⟨field b i 1, BitVec.ofNat 48 (field b (i + 1) 6), setMembers (field b (i + 7) 2), field b (i + 9) 2⟩

def rosterAt (b : List Byte) (i : Nat) : RawRoster :=
  ⟨field b i 2, textAt b (i + 2) 24, field b (i + 26) 1, flagAt b (i + 27),
    Vector.ofFn (fun k : Fin 12 => field b (i + 28 + k) 1), setMembers (field b (i + 40) 2)⟩

def areaAt (b : List Byte) (i : Nat) : RawArea :=
  { name := textAt b i 16, stage1 := Vector.ofFn (fun k : Fin 4 => field b (i + 16 + 2 * k) 2),
    stage2 := field b (i + 24) 2, decay := field b (i + 26) 2, floodOn := field b (i + 28) 2,
    floodOff := field b (i + 30) 2, cut := field b (i + 32) 1, release := field b (i + 33) 2,
    shelveMax := field b (i + 35) 2, bypassMax := field b (i + 37) 2, window := field b (i + 39) 2,
    handover := field b (i + 41) 2, fallback := (List.range 4).map (fun k => field b (i + 43 + k) 1) }

/-- A Tag record (R5). DESIGN CHOICE (log entry 48): a parent or blocker whose presence byte says none is sent with zeros after
it (R182), and no rule refuses others; they are not looked at. -/
def tagAt (b : List Byte) (i : Nat) : RawTag :=
  { name := textAt b i 20, area := field b (i + 20) 1, prios := Vector.ofFn (fun k : Fin 8 => field b (i + 21 + k) 1),
    parent := if flagAt b (i + 29) then some (field b (i + 30) 2, BitVec.ofNat 8 (field b (i + 32) 1)) else none,
    blocker := if flagAt b (i + 33) then some (field b (i + 34) 2, field b (i + 36) 1) else none,
    cls := field b (i + 37) 1, base := field b (i + 38) 1, shelvable := flagAt b (i + 39),
    ackRelay := flagAt b (i + 40) }

/-! ### Console requests (R181, R182) -/

/-- The command of a body of a required length. -/
def ofLength (b : List Byte) (n : Nat) (i : Instr) : Option Instr := if b.length = n then some i else none

/-- SILENCE: mode TOP or ALL (R95), the reference, and the reserved byte. DESIGN CHOICE (log entry 41): R182 sends the
reference of SILENCE ALL as zeros and no rule refuses another value; it is not looked at. -/
def readSilence (h : Hdr) (b : List Byte) : Option Instr :=
  ofLength b 6
    (match field b 0 1 with
      | 1 => .silenceTop h (refAt b 1) (field b 5 1)
      | 2 => .silenceAll h (field b 5 1)
      | m => .unknownKind h (.silenceMode m (refAt b 1) (field b 5 1)))

/-- SERVICE: area, state IN or OUT (R60), and the reserved byte. -/
def readService (h : Hdr) (b : List Byte) : Option Instr :=
  ofLength b 3
    (match field b 1 1 with
      | 1 => .serviceIn h (field b 0 1) (field b 2 1)
      | 2 => .serviceOut h (field b 0 1) (field b 2 1)
      | x => .unknownKind h (.serviceState (field b 0 1) x (field b 2 1)))

/-- COUNTERSIGN: ticket, tag, decision AGREE or DECLINE (R142), and the reserved byte. -/
def readCountersign (h : Hdr) (b : List Byte) : Option Instr :=
  ofLength b 6
    (match field b 4 1 with
      | 1 => .countersignAgree h (field b 0 2) (field b 2 2) (field b 5 1)
      | 2 => .countersignDecline h (field b 0 2) (field b 2 2) (field b 5 1)
      | d => .unknownKind h (.decision (field b 0 2) (field b 2 2) d (field b 5 1)))

/-- QUERY: the query kind, in the order of R185, its arguments and the reserved byte. A kind the unit does not know
passes on its fit alone (R183). DEDUCED (log entry 24): the place of the reserved byte follows from the kind's arguments
(R182), so a QUERY of such a kind has none to test and draws CODE whatever its further bytes are. -/
def readQuery (h : Hdr) (b : List Byte) : Option Instr :=
  if b = [] then none
  else
    match field b 0 1 with
    | 1 => ofLength b 2 (.queryUnitStatus h (field b 1 1))
    | 2 => ofLength b 3 (.queryAreaStatus h (field b 1 1) (field b 2 1))
    | 3 => ofLength b 6 (.queryAlarmPage h (field b 1 1) (field b 2 2) (field b 4 1) (field b 5 1))
    | 4 => ofLength b 6 (.queryAlarmEntry h (refAt b 1) (field b 5 1))
    | 5 => ofLength b 2 (.queryTransitList h (field b 1 1))
    | 6 => ofLength b 2 (.queryOverrideList h (field b 1 1))
    | 7 => ofLength b 3 (.queryHandoverList h (field b 1 1) (field b 2 1))
    | 8 => ofLength b 3 (.queryStationStatus h (field b 1 1) (field b 2 1))
    | k => some (.unknownKind h (.queryKind k))

/-- WRITE RECORD: the table, the index, the presence byte, the record and the reserved byte. DESIGN CHOICE (log entry 48): a
clear sends the record's bytes as zeros (R182) and no rule refuses others; they are not looked at. DEDUCED (log entry 24): a
table the unit does not know gives the record no length and the reserved byte no place, so none is tested. -/
def readWrite (h : Hdr) (b : List Byte) : Option Instr :=
  if b = [] then none
  else
    match field b 0 1 with
    | 1 => ofLength b (5 + stationLength)
        (.stationWrite h (field b 1 2) (if flagAt b 3 then some (stationAt b 4) else none) (field b (4 + stationLength) 1))
    | 2 => ofLength b (5 + rosterLength)
        (.rosterWrite h (field b 1 2) (if flagAt b 3 then some (rosterAt b 4) else none) (field b (4 + rosterLength) 1))
    | 3 => ofLength b (5 + areaLength)
        (.areaWrite h (field b 1 2) (if flagAt b 3 then some (areaAt b 4) else none) (field b (4 + areaLength) 1))
    | 4 => ofLength b (5 + tagLength)
        (.tagWrite h (field b 1 2) (if flagAt b 3 then some (tagAt b 4) else none) (field b (4 + tagLength) 1))
    | t => some (.unknownKind h (.writeTable t (field b 1 2)))

/-- READ RECORD: the table, the index and the reserved byte. A table the unit does not know passes on its fit alone. -/
def readRead (h : Hdr) (b : List Byte) : Option Instr :=
  if b = [] then none
  else if field b 0 1 < 1 ∨ 4 < field b 0 1 then
    some (.readRecord h (field b 0 1) (field b 1 2) (field b (b.length - 1) 1))
  else ofLength b 4 (.readRecord h (field b 0 1) (field b 1 2) (field b 3 1))

/-- R180, R183 check 1: the request a kind and a body spell, none where the body has not the length the kind requires. An
unknown kind passes on its fit alone. -/
def readRequest (h : Hdr) (kind : Nat) (b : List Byte) : Option Instr :=
  match kind with
  | 1 => ofLength b 0 (.beat h)
  | 2 => ofLength b 3 (.logon h (field b 0 2) (field b 2 1))
  | 3 => ofLength b 0 (.logoff h)
  | 4 => ofLength b 2 (.claim h (field b 0 1) (field b 1 1))
  | 5 => ofLength b 2 (.release h (field b 0 1) (field b 1 1))
  | 6 => ofLength b 5 (.ack h (refAt b 0) (field b 4 1))
  | 7 => readSilence h b
  | 8 => readService h b
  | 9 => ofLength b 6 (.shelve h (field b 0 2) (field b 2 2) (field b 4 1) (field b 5 1))
  | 10 => ofLength b 3 (.unshelve h (field b 0 2) (field b 2 1))
  | 11 => ofLength b 6 (.bypass h (field b 0 2) (field b 2 2) (field b 4 1) (field b 5 1))
  | 12 => ofLength b 3 (.unbypass h (field b 0 2) (field b 2 1))
  | 13 => ofLength b 8 (.command h (field b 0 2) (field b 2 1) (BitVec.ofNat 32 (field b 4 4)) (field b 3 1))
  | 14 => readCountersign h b
  | 15 => ofLength b 3 (.withdraw h (field b 0 2) (field b 2 1))
  | 16 => ofLength b 4 (.offer h (field b 0 1) (field b 1 2) (field b 3 1))
  | 17 => ofLength b 5 (.review h (field b 0 1) (field b 1 1) (field b 2 2) (field b 4 1))
  | 18 => ofLength b 2 (.accept h (field b 0 1) (field b 1 1))
  | 19 => ofLength b 2 (.recallOffer h (field b 0 1) (field b 1 1))
  | 20 => ofLength b 2 (.takeover h (field b 0 1) (field b 1 1))
  | 21 => readQuery h b
  | 24 => readWrite h b
  | 25 => readRead h b
  | 26 => ofLength b 0 (.store h)
  | 27 => ofLength b 7 (.setClock h (millAt b 0) (field b 6 1))
  | 28 => ofLength b 0 (.restart h)
  | k => some (.unknownKind h (.kind k))

/-- The body that the header's length field gives, none where the payload does not hold it (R183 check 1). -/
def bodyOf (payload : List Byte) : Option (List Byte) :=
  if 8 ≤ payload.length ∧ 8 + field payload 4 2 ≤ payload.length then
    some ((payload.drop 8).take (field payload 4 2))
  else none

/-- The header of a Port A frame. -/
def headerOf (src : LinkAddr) (payload : List Byte) : Hdr :=
  ⟨src, field payload 1 1, field payload 2 2, field payload 6 2⟩

/-- R183 check 1: the command a Port A frame spells; a frame that fails the check spells its own discarding. Checks 2 and
3 need the Station Table and stand in `State.receive`. -/
def readPortA (src : LinkAddr) (payload : List Byte) : Instr :=
  match (bodyOf payload).bind (readRequest (headerOf src payload) (field payload 0 1)) with
  | some i => i
  | none => .portAFrameDiscarded src payload

/-! ### Plant messages (R170, R181) -/

/-- ALARM NOTICE: faulty content is a command of its own. -/
def readNotice (b : List Byte) : Instr :=
  let tag := field b 2 2
  let cond := field b 4 1
  if noticeFaulty tag cond (field b 5 1) (field b 6 1) (field b 7 1) then
    .malformedContent (.notice (field b 0 2) tag cond (field b 5 1) (field b 6 1) (field b 7 1) (millAt b 8))
  else
    let n : NoticeFields := ⟨field b 0 2, tag, cond, decide (field b 6 1 = 1), millAt b 8⟩
    if field b 5 1 = 1 then .alarmNoticeRaise n else .alarmNoticeReturn n

/-- REPLY: faulty content is a command of its own. -/
def readReply (b : List Byte) : Instr :=
  let ticket := field b 0 2
  let tag := field b 2 2
  if replyFaulty (field b 4 1) (field b 5 1) (field b 6 2) then
    .malformedContent (.reply ticket tag (field b 4 1) (field b 5 1) (field b 6 2))
  else
    match field b 4 1 with
    | 1 => .replyDone ticket tag
    | 2 => .replyRefused ticket tag (field b 6 2)
    | 3 => .replyBusy ticket tag
    | 4 => .replyExtend ticket tag (field b 6 2)
    | _ => .replyHoldOn ticket tag

/-- R170: the command a Port B frame's kind and body spell, none where the kind is unknown or the length inconsistent. -/
def readPlant (kind : Nat) (b : List Byte) : Option Instr :=
  match kind with
  | 128 => ofLength b 14 (readNotice b)
  | 129 => ofLength b 8 (readReply b)
  | 130 => ofLength b 0 .plantBeat
  | 131 => ofLength b 3 (.resyncEnd (field b 0 1) (field b 1 2))
  | _ => none

/-- R170: the command a Port B frame spells. DESIGN CHOICE (log entry 52): R170 counts a frame as faulty for "a non-zero
reserved byte" and chapter 3 for "reserved fields"; the model takes these as the reserved byte of the body and does not look
at the reserved field of the header (R180). -/
def readPortB (payload : List Byte) : Instr :=
  match (bodyOf payload).bind (readPlant (field payload 0 1)) with
  | some i => i
  | none => .plantFrameDiscarded payload

namespace State

/-- R183 checks 2 and 3 alone. -/
def countStranger (s : State) (h : Hdr) : State :=
  match (if 1 ≤ h.station ∧ h.station ≤ 16 then s.stationRec? h.station else none) with
  | none => s.countA (fun c => { c with unknown := bump c.unknown })
  | some r => if r.addr ≠ h.src then s.countA (fun c => { c with mismatch := bump c.mismatch }) else s

/-- R183: a Port A frame that fails a check is counted at the first check it fails. One that fails none is no discarded
frame, and nothing happens (log entry 8). -/
def discardPortA (s : State) (src : LinkAddr) (payload : List Byte) : State :=
  match (bodyOf payload).bind (readRequest (headerOf src payload) (field payload 0 1)) with
  | none => s.countA (fun c => { c with length := bump c.length })
  | some _ => s.countStranger (headerOf src payload)

/-- R170: a Port B frame of unknown kind or inconsistent length. One that is neither is no discarded frame. -/
def discardPortB (s : State) (payload : List Byte) : State :=
  match (bodyOf payload).bind (readPlant (field payload 0 1)) with
  | none => s.countB (fun c => { c with malformedFrames := bump c.malformedFrames })
  | some _ => s

end State

/-- R183. -/
def execPortAFrameDiscarded (src : LinkAddr) (payload : List Byte) (s : State) : Host.Outcome State Fault Refusal :=
  event (fun s => s.discardPortA src payload) s

/-- R170. -/
def execPlantFrameDiscarded (payload : List Byte) (s : State) : Host.Outcome State Fault Refusal :=
  event (fun s => s.discardPortB payload) s

end Sys2Proof.Machine
end

