-- ==== Sys2Proof/Machine/Dispatch.lean ====
section
/-! DEFINITION. One arm per command, in the order of spec/opcode_table.json. -/

namespace Sys2Proof.Machine

def exec (i : Instr) (s : State) : Host.Outcome State Fault Refusal :=
  match i with
  | .powerUp straps => Sys2Proof.Machine.execPowerUp straps s
  | .resetAssert moment => Sys2Proof.Machine.execResetAssert moment s
  | .resetDeassert straps => Sys2Proof.Machine.execResetDeassert straps s
  | .powerLoss moment => Sys2Proof.Machine.execPowerLoss moment s
  | .masterKeyLineChange closed => Sys2Proof.Machine.execMasterKeyLineChange closed s
  | .keyAsserted => Sys2Proof.Machine.execKeyAsserted s
  | .keyReleased => Sys2Proof.Machine.execKeyReleased s
  | .portAFrameDiscarded src payload => Sys2Proof.Machine.execPortAFrameDiscarded src payload s
  | .unknownKind h r => Sys2Proof.Machine.execUnknownKind h r s
  | .beat h => Sys2Proof.Machine.execBeat h s
  | .consoleSilenceTimeout station => Sys2Proof.Machine.execConsoleSilenceTimeout station s
  | .graceExpiry station => Sys2Proof.Machine.execGraceExpiry station s
  | .logon h badge rsv => Sys2Proof.Machine.execLogon h badge rsv s
  | .logoff h => Sys2Proof.Machine.execLogoff h s
  | .claim h area rsv => Sys2Proof.Machine.execClaim h area rsv s
  | .release h area rsv => Sys2Proof.Machine.execRelease h area rsv s
  | .ack h ref rsv => Sys2Proof.Machine.execAck h ref rsv s
  | .silenceTop h ref rsv => Sys2Proof.Machine.execSilenceTop h ref rsv s
  | .silenceAll h rsv => Sys2Proof.Machine.execSilenceAll h rsv s
  | .serviceOut h area rsv => Sys2Proof.Machine.execServiceOut h area rsv s
  | .serviceIn h area rsv => Sys2Proof.Machine.execServiceIn h area rsv s
  | .shelve h tag duration reason rsv => Sys2Proof.Machine.execShelve h tag duration reason rsv s
  | .unshelve h tag rsv => Sys2Proof.Machine.execUnshelve h tag rsv s
  | .bypass h tag duration reason rsv => Sys2Proof.Machine.execBypass h tag duration reason rsv s
  | .unbypass h tag rsv => Sys2Proof.Machine.execUnbypass h tag rsv s
  | .overrideExpiry entry => Sys2Proof.Machine.execOverrideExpiry entry s
  | .command h tag action value rsv => Sys2Proof.Machine.execCommand h tag action value rsv s
  | .countersignAgree h ticket tag rsv => Sys2Proof.Machine.execCountersignAgree h ticket tag rsv s
  | .countersignDecline h ticket tag rsv => Sys2Proof.Machine.execCountersignDecline h ticket tag rsv s
  | .withdraw h ticket rsv => Sys2Proof.Machine.execWithdraw h ticket rsv s
  | .countersignWindowExpiry ticket => Sys2Proof.Machine.execCountersignWindowExpiry ticket s
  | .replyDone ticket tag => Sys2Proof.Machine.execReplyDone ticket tag s
  | .replyRefused ticket tag code => Sys2Proof.Machine.execReplyRefused ticket tag code s
  | .replyBusy ticket tag => Sys2Proof.Machine.execReplyBusy ticket tag s
  | .replyExtend ticket tag count => Sys2Proof.Machine.execReplyExtend ticket tag count s
  | .replyHoldOn ticket tag => Sys2Proof.Machine.execReplyHoldOn ticket tag s
  | .reSend ticket => Sys2Proof.Machine.execReSend ticket s
  | .replyDeadlineExpiry ticket => Sys2Proof.Machine.execReplyDeadlineExpiry ticket s
  | .offer h area badge rsv => Sys2Proof.Machine.execOffer h area badge rsv s
  | .review h area first count rsv => Sys2Proof.Machine.execReview h area first count rsv s
  | .accept h area rsv => Sys2Proof.Machine.execAccept h area rsv s
  | .recallOffer h area rsv => Sys2Proof.Machine.execRecallOffer h area rsv s
  | .handoverLapse area => Sys2Proof.Machine.execHandoverLapse area s
  | .takeover h area rsv => Sys2Proof.Machine.execTakeover h area rsv s
  | .queryUnitStatus h rsv => Sys2Proof.Machine.execQueryUnitStatus h rsv s
  | .queryAreaStatus h area rsv => Sys2Proof.Machine.execQueryAreaStatus h area rsv s
  | .queryAlarmPage h area page filter rsv => Sys2Proof.Machine.execQueryAlarmPage h area page filter rsv s
  | .queryAlarmEntry h ref rsv => Sys2Proof.Machine.execQueryAlarmEntry h ref rsv s
  | .queryTransitList h rsv => Sys2Proof.Machine.execQueryTransitList h rsv s
  | .queryOverrideList h rsv => Sys2Proof.Machine.execQueryOverrideList h rsv s
  | .queryHandoverList h area rsv => Sys2Proof.Machine.execQueryHandoverList h area rsv s
  | .queryStationStatus h station rsv => Sys2Proof.Machine.execQueryStationStatus h station rsv s
  | .stationWrite h index record rsv => Sys2Proof.Machine.execStationWrite h index record rsv s
  | .rosterWrite h index record rsv => Sys2Proof.Machine.execRosterWrite h index record rsv s
  | .areaWrite h index record rsv => Sys2Proof.Machine.execAreaWrite h index record rsv s
  | .tagWrite h index record rsv => Sys2Proof.Machine.execTagWrite h index record rsv s
  | .readRecord h table index rsv => Sys2Proof.Machine.execReadRecord h table index rsv s
  | .store h => Sys2Proof.Machine.execStore h s
  | .storeComplete matched => Sys2Proof.Machine.execStoreComplete matched s
  | .setClock h time rsv => Sys2Proof.Machine.execSetClock h time rsv s
  | .restart h => Sys2Proof.Machine.execRestart h s
  | .millTimeAdvance => Sys2Proof.Machine.execMillTimeAdvance s
  | .plantFrameDiscarded payload => Sys2Proof.Machine.execPlantFrameDiscarded payload s
  | .alarmNoticeRaise n => Sys2Proof.Machine.execAlarmNoticeRaise n s
  | .alarmNoticeReturn n => Sys2Proof.Machine.execAlarmNoticeReturn n s
  | .decayEvent area => Sys2Proof.Machine.execDecayEvent area s
  | .releaseTimerExpiry area => Sys2Proof.Machine.execReleaseTimerExpiry area s
  | .stage1Expiry entry => Sys2Proof.Machine.execStage1Expiry entry s
  | .stage2Expiry entry => Sys2Proof.Machine.execStage2Expiry entry s
  | .plantBeat => Sys2Proof.Machine.execPlantBeat s
  | .resyncEnd scope number => Sys2Proof.Machine.execResyncEnd scope number s
  | .plantSilenceTimeout => Sys2Proof.Machine.execPlantSilenceTimeout s
  | .plantDegradedTimeout => Sys2Proof.Machine.execPlantDegradedTimeout s
  | .plantStartTimeout => Sys2Proof.Machine.execPlantStartTimeout s
  | .resyncTimerExpiry => Sys2Proof.Machine.execResyncTimerExpiry s
  | .unitBeat => Sys2Proof.Machine.execUnitBeat s
  | .malformedContent c => Sys2Proof.Machine.execMalformedContent c s

end Sys2Proof.Machine
end

