-- ==== Sys2Proof/Safety.lean ====
section
/-! DEFINITION. What counts as a sound state of the unit, and the vocabulary that claims use: the parts of the state, what
an event keeps, what a command may touch, and the invariants that the rules state. -/

namespace Sys2Proof.Machine

/-! ### Frames -/

/-- The sorts of message that leave the unit (R178, R180). -/
inductive MsgKind where
  | answer | announce | attention | result | notice | countersign | forward | relay | resync | beat
  deriving DecidableEq, Repr

def Out.kind : Out → MsgKind
  | .console _ _ (.answer _ _) => .answer
  | .console _ _ (.announce _) => .announce
  | .console _ _ (.attention _) => .attention
  | .console _ _ (.result _ _ _ _ _ _) => .result
  | .console _ _ (.notice _) => .notice
  | .console _ _ (.countersignRequest _ _ _ _ _ _ _ _) => .countersign
  | .plant (.forward _ _ _ _ _ _ _ _) => .forward
  | .plant (.ackRelay _ _ _ _) => .relay
  | .plant (.resyncRequest _ _) => .resync
  | .plant (.unitBeat _ _ _) => .beat

/-- The parts of the state, one for each piece of it, and for each sort of message what has been said of that sort in
the event so far. -/
inductive Part where
  | pins | unitTime | millTime | clockUnset
  | stations | roster | areas | tags
  | storeJob | storeFault | image | misreads
  | link | heard | restartPending | countersA
  | logon | grace | owner | cover | orphans | key | keyLine
  | entries | gens | tableFull | outAreas | discarded | duplicates | dropped | unitAlarm
  | load | flooded | release | deferred | overflow | overflowSubject | overflows
  | recs | attnStacks | shown | overdue
  | overrides | transit | ticket | countersG | handover
  | plantLink | plantReturn | plantHeard | plantMark | plantExpected | plantResync | plantTimer | countersB
  | queue
  | said (k : MsgKind)
  deriving DecidableEq, Repr

namespace State

/-- The messages of a sort that the event has sent or has ready to send. -/
def saidOf (s : State) (k : MsgKind) : List Out :=
  (s.sent ++ s.ev.pre ++ s.ev.post).filter (fun o => decide (o.kind = k))

end State

/-- A part is the same in two states. -/
def Part.same (s t : State) : Part → Prop
  | .pins => t.pins = s.pins
  | .unitTime => t.time.unit = s.time.unit
  | .millTime => t.time.mill = s.time.mill
  | .clockUnset => t.time.clockUnset = s.time.clockUnset
  | .stations => t.tables.stations = s.tables.stations
  | .roster => t.tables.roster = s.tables.roster
  | .areas => t.tables.areas = s.tables.areas
  | .tags => t.tables.tags = s.tables.tags
  | .storeJob => t.store.job = s.store.job
  | .storeFault => t.store.fault = s.store.fault
  | .image => t.store.image = s.store.image
  | .misreads => t.store.misreads = s.store.misreads
  | .link => t.console.link = s.console.link
  | .heard => t.console.heard = s.console.heard
  | .restartPending => t.console.restartPending = s.console.restartPending
  | .countersA => t.console.counters = s.console.counters
  | .logon => t.auth.logon = s.auth.logon
  | .grace => t.auth.grace = s.auth.grace
  | .owner => t.auth.owner = s.auth.owner
  | .cover => t.auth.cover = s.auth.cover
  | .orphans => t.auth.orphans = s.auth.orphans
  | .key => t.auth.key = s.auth.key
  | .keyLine => t.auth.keyLine = s.auth.keyLine ∧ t.auth.keySince = s.auth.keySince
  | .entries => t.alarm.entries = s.alarm.entries
  | .gens => t.alarm.gens = s.alarm.gens
  | .tableFull => t.alarm.tableFull = s.alarm.tableFull
  | .outAreas => t.alarm.out = s.alarm.out
  | .discarded => t.alarm.discarded = s.alarm.discarded
  | .duplicates => t.alarm.duplicates = s.alarm.duplicates
  | .dropped => t.alarm.dropped = s.alarm.dropped
  | .unitAlarm => t.alarm.unitAlarm = s.alarm.unitAlarm
  | .load => t.flood.load = s.flood.load
  | .flooded => t.flood.flooded = s.flood.flooded
  | .release => t.flood.release = s.flood.release
  | .deferred => t.flood.deferred = s.flood.deferred
  | .overflow => t.flood.overflow = s.flood.overflow
  | .overflowSubject => t.flood.subject = s.flood.subject
  | .overflows => t.flood.overflows = s.flood.overflows
  | .recs => t.ann.recs = s.ann.recs
  | .attnStacks => t.ann.stack = s.ann.stack
  | .shown => t.ann.shown = s.ann.shown
  | .overdue => t.ann.overdue = s.ann.overdue
  | .overrides => t.overrides = s.overrides
  | .transit => t.gate.transit = s.gate.transit
  | .ticket => t.gate.ticket = s.gate.ticket
  | .countersG => t.gate.counters = s.gate.counters
  | .handover => t.hand = s.hand
  | .plantLink => t.plant.link = s.plant.link
  | .plantReturn => t.plant.ret = s.plant.ret
  | .plantHeard => t.plant.heard = s.plant.heard
  | .plantMark => t.plant.mark = s.plant.mark
  | .plantExpected => t.plant.expected = s.plant.expected
  | .plantResync => t.plant.resync = s.plant.resync
  | .plantTimer => t.plant.timer = s.plant.timer
  | .countersB => t.plant.counters = s.plant.counters
  | .queue => t.pending = s.pending
  | .said k => t.saidOf k = s.saidOf k

/-- From `s` to `t` nothing changed and nothing was said but in the parts listed. -/
def Touches (l : List Part) (s t : State) : Prop := ∀ p, p ∉ l → p.same s t

/-! ### What each sort of event may touch -/

/-- The end of an event (R62, R87, R91, R92). -/
def endParts : List Part :=
  [.recs, .attnStacks, .shown, .unitAlarm, .said .announce, .said .attention, .said .notice]

/-- A request for a system alarm (R44). -/
def sysParts : List Part := [.entries, .recs, .attnStacks]

/-- A cover scan (R35 to R37, R87). -/
def coverParts : List Part := .cover :: .orphans :: .said .notice :: sysParts

/-- Admission, release, re-decision and removal of alarm entries (R49 to R53, R59, R71 to R75). -/
def alarmParts : List Part :=
  [.entries, .gens, .tableFull, .recs, .attnStacks, .overdue, .load, .flooded, .release, .deferred, .overflow,
   .overflowSubject, .overflows, .handover, .said .notice]

/-- The transfer of an area (R32, R117, R161). -/
def transferParts : List Part := [.owner, .overrides, .handover, .said .notice] ++ coverParts

/-- The end of a transit entry (R134). -/
def endingParts : List Part := [.transit, .said .result] ++ transferParts

/-- The arrival of an accepted frame at Port A (R21, R23, R24, R183), with the end of the event that its change of link
state is. -/
def arrivalParts : List Part := [.countersA, .heard, .link, .restartPending, .grace] ++ coverParts ++ endParts

/-- The arrival of an accepted frame at Port B (R170 to R172, R174). -/
def plantArrivalParts : List Part :=
  [.plantHeard, .plantLink, .plantMark, .plantExpected, .plantResync, .plantTimer, .said .resync] ++ sysParts ++ endParts

/-- A request that is answered in its event. -/
def requestParts : List Part := .said .answer :: arrivalParts

/-- A power or RESET event, which makes every block afresh (R189); the queue waits outside the unit. -/
def startParts : List Part :=
  [.pins, .unitTime, .millTime, .clockUnset, .stations, .roster, .areas, .tags, .storeJob, .storeFault, .image,
   .link, .heard, .restartPending, .countersA, .logon, .grace, .owner, .cover, .orphans, .key, .keyLine, .entries,
   .gens, .tableFull, .outAreas, .discarded, .duplicates, .dropped, .unitAlarm, .load, .flooded, .release, .deferred,
   .overflow, .overflowSubject, .overflows, .recs, .attnStacks, .shown, .overdue, .overrides, .transit, .ticket,
   .countersG, .handover, .plantLink, .plantReturn, .plantHeard, .plantMark, .plantExpected, .plantResync,
   .plantTimer, .countersB]

/-- R188 step 1: what RESTART clears. -/
def restartParts : List Part :=
  [.link, .heard, .restartPending, .countersA, .logon, .grace, .owner, .cover, .orphans, .entries, .gens,
   .tableFull, .discarded, .duplicates, .dropped, .unitAlarm, .load, .flooded, .release, .deferred, .overflow,
   .overflowSubject, .overflows, .recs, .attnStacks, .shown, .overdue, .overrides, .transit, .countersG, .handover,
   .plantLink, .plantReturn, .plantHeard, .plantMark, .plantExpected, .plantTimer, .countersB]

/-- An ALARM NOTICE that is handed on to the Alarm Processor (R45 to R51). -/
def noticeParts : List Part := [.countersB, .discarded, .duplicates, .dropped] ++ alarmParts ++ plantArrivalParts

/-- A REPLY that is taken by its outcome (R129 to R133). -/
def replyParts : List Part := .countersG :: endingParts ++ plantArrivalParts

/-- A frame whose content is faulty: it has served the watch and is counted (R170, R176). -/
def faultyParts : List Part := .countersB :: plantArrivalParts

/-- What each command may change and may say, the rules that own its effects taken together. A part that is not listed
stays as it was, and a sort of message that is not listed is not sent. -/
def footprint : Instr → List Part
  | .powerUp _ => startParts
  | .resetAssert _ => startParts
  | .resetDeassert _ => startParts
  | .powerLoss _ => startParts
  | .masterKeyLineChange _ => [.keyLine]
  | .keyAsserted => .key :: sysParts ++ endParts
  | .keyReleased => .key :: sysParts ++ endParts
  | .portAFrameDiscarded _ _ => [.countersA]
  | .unknownKind _ _ => requestParts
  | .beat _ => arrivalParts
  | .consoleSilenceTimeout _ => [.link, .grace] ++ coverParts ++ endParts
  | .graceExpiry _ => [.logon, .grace] ++ endingParts ++ endParts
  | .logon _ _ _ => .logon :: requestParts
  | .logoff _ => [.logon, .transit, .handover, .said .result] ++ requestParts
  | .claim _ _ _ => .owner :: requestParts
  | .release _ _ _ => .owner :: requestParts
  | .ack _ _ _ => [.countersB, .said .relay] ++ alarmParts ++ requestParts
  | .silenceTop _ _ _ => requestParts
  | .silenceAll _ _ => requestParts
  | .serviceOut _ _ _ => .outAreas :: alarmParts ++ requestParts
  | .serviceIn _ _ _ => [.outAreas, .plantResync, .plantExpected, .said .resync] ++ requestParts
  | .shelve _ _ _ _ _ => .overrides :: alarmParts ++ requestParts
  | .unshelve _ _ _ => .overrides :: alarmParts ++ requestParts
  | .bypass _ _ _ _ _ => [.overrides, .handover] ++ requestParts
  | .unbypass _ _ _ => [.overrides, .handover] ++ requestParts
  | .overrideExpiry _ => .overrides :: alarmParts ++ endParts
  | .command _ _ _ _ _ => [.transit, .ticket, .handover, .said .countersign, .said .forward] ++ requestParts
  | .countersignAgree _ _ _ _ => [.transit, .handover, .said .result, .said .forward] ++ requestParts
  | .countersignDecline _ _ _ _ => [.transit, .handover, .said .result] ++ requestParts
  | .withdraw _ _ _ => [.transit, .handover, .said .result] ++ requestParts
  | .countersignWindowExpiry _ => [.transit, .handover, .said .result] ++ endParts
  | .replyDone _ _ => replyParts
  | .replyRefused _ _ _ => replyParts
  | .replyBusy _ _ => replyParts
  | .replyExtend _ _ _ => [.countersG, .transit, .countersB] ++ plantArrivalParts
  | .replyHoldOn _ _ => [.countersG, .transit] ++ plantArrivalParts
  | .reSend _ => [.transit, .said .forward] ++ endParts
  | .replyDeadlineExpiry _ => .countersG :: endingParts ++ endParts
  | .offer _ _ _ _ => .handover :: requestParts
  | .review _ _ _ _ _ => .handover :: requestParts
  | .accept _ _ _ => endingParts ++ requestParts
  | .recallOffer _ _ _ => .handover :: requestParts
  | .handoverLapse _ => .handover :: endParts
  | .takeover _ _ _ => endingParts ++ requestParts
  | .queryUnitStatus _ _ => requestParts
  | .queryAreaStatus _ _ _ => requestParts
  | .queryAlarmPage _ _ _ _ _ => requestParts
  | .queryAlarmEntry _ _ _ => requestParts
  | .queryTransitList _ _ => requestParts
  | .queryOverrideList _ _ => requestParts
  | .queryHandoverList _ _ _ => requestParts
  | .queryStationStatus _ _ _ => requestParts
  | .stationWrite _ _ _ _ => .stations :: requestParts
  | .rosterWrite _ _ _ _ => [.roster, .logon] ++ endingParts ++ requestParts
  | .areaWrite _ _ _ _ => [.areas, .flooded, .release] ++ requestParts
  | .tagWrite _ _ _ _ => .tags :: requestParts
  | .readRecord _ _ _ _ => requestParts
  | .store _ => .storeJob :: requestParts
  | .storeComplete _ => [.storeJob, .storeFault, .image, .misreads, .said .answer] ++ sysParts ++ endParts
  | .setClock _ _ _ => [.millTime, .clockUnset] ++ requestParts
  | .restart _ => restartParts ++ requestParts
  | .millTimeAdvance => [.millTime]
  | .plantFrameDiscarded _ => [.countersB]
  | .alarmNoticeRaise _ => noticeParts
  | .alarmNoticeReturn _ => [.countersB, .discarded, .duplicates] ++ alarmParts ++ plantArrivalParts
  | .decayEvent _ => [.load, .flooded, .release] ++ endParts
  | .releaseTimerExpiry _ => alarmParts ++ endParts
  | .stage1Expiry _ => .handover :: sysParts ++ endParts
  | .stage2Expiry _ => .overdue :: sysParts ++ endParts
  | .plantBeat => plantArrivalParts
  | .resyncEnd _ _ => .countersB :: alarmParts ++ plantArrivalParts
  | .plantSilenceTimeout => [.plantLink, .plantReturn, .plantMark] ++ sysParts ++ endParts
  | .plantDegradedTimeout =>
    [.plantLink, .plantExpected, .plantTimer, .countersB, .countersG] ++ endingParts ++ endParts
  | .plantStartTimeout =>
    [.plantLink, .plantExpected, .plantTimer, .countersB, .countersG] ++ endingParts ++ endParts
  | .resyncTimerExpiry => [.plantLink, .plantReturn, .plantTimer, .countersB] ++ sysParts ++ endParts
  | .unitBeat => [.said .beat]
  | .malformedContent (.notice _ tag cond transition flag rsv _) =>
    if noticeFaulty tag cond transition flag rsv then faultyParts else noticeParts
  | .malformedContent (.reply _ _ outcome rsv arg) => if replyFaulty outcome rsv arg then faultyParts else replyParts

/-! ### Requests at Port A -/

/-- The header of the frame at Port A that a command is, where it is one. -/
def requestHeader? : Instr → Option Hdr
  | .unknownKind h _ | .beat h | .logon h _ _ | .logoff h | .claim h _ _ | .release h _ _ | .ack h _ _
  | .silenceTop h _ _ | .silenceAll h _ | .serviceOut h _ _ | .serviceIn h _ _ | .shelve h _ _ _ _
  | .unshelve h _ _ | .bypass h _ _ _ _ | .unbypass h _ _ | .command h _ _ _ _ | .countersignAgree h _ _ _
  | .countersignDecline h _ _ _ | .withdraw h _ _ | .offer h _ _ _ | .review h _ _ _ _ | .accept h _ _
  | .recallOffer h _ _ | .takeover h _ _ | .queryUnitStatus h _ | .queryAreaStatus h _ _ | .queryAlarmPage h _ _ _ _
  | .queryAlarmEntry h _ _ | .queryTransitList h _ | .queryOverrideList h _ | .queryHandoverList h _ _
  | .queryStationStatus h _ _ | .stationWrite h _ _ _ | .rosterWrite h _ _ _ | .areaWrite h _ _ _
  | .tagWrite h _ _ _ | .readRecord h _ _ _ | .store h | .setClock h _ _ | .restart h => some h
  | .powerUp _ | .resetAssert _ | .resetDeassert _ | .powerLoss _ | .masterKeyLineChange _ | .keyAsserted
  | .keyReleased | .portAFrameDiscarded _ _ | .consoleSilenceTimeout _ | .graceExpiry _ | .overrideExpiry _
  | .countersignWindowExpiry _ | .replyDone _ _ | .replyRefused _ _ _ | .replyBusy _ _ | .replyExtend _ _ _
  | .replyHoldOn _ _ | .reSend _ | .replyDeadlineExpiry _ | .handoverLapse _ | .storeComplete _ | .millTimeAdvance
  | .plantFrameDiscarded _ | .alarmNoticeRaise _ | .alarmNoticeReturn _ | .decayEvent _ | .releaseTimerExpiry _
  | .stage1Expiry _ | .stage2Expiry _ | .plantBeat | .resyncEnd _ _ | .plantSilenceTimeout | .plantDegradedTimeout
  | .plantStartTimeout | .resyncTimerExpiry | .unitBeat | .malformedContent _ => none

/-- The frame passes checks 2 and 3 of R183: its station's record is present and holds the address it came from. -/
def Accepted (s : State) (h : Hdr) : Prop :=
  s.running = true ∧ 1 ≤ h.station ∧ h.station ≤ 16 ∧ (s.stationRec? h.station).map (·.addr) = some h.src

/-- R184: an accepted frame whose header's reserved field is zero, so that its request goes to the block that owns it. -/
def Taken (s : State) (h : Hdr) : Prop := Accepted s h ∧ h.rsv = 0

/-- The state that an accepted frame's request is taken against (R21, R24). -/
def arrived (s : State) (h : Hdr) : State := s.fresh.admitFrame h.station

/-- The ANSWER to the request is the last message of the event, and it carries this. -/
def Answered (t : State) (h : Hdr) (a : Ans) : Prop :=
  t.sent.getLast? = some (.console h.station h.src (.answer h.rtag a))

/-! ### Effects that several commands share -/

/-- R32, R117, R118, R161: from `s` to `t` the area has passed to the operator at the station. No cover station is left, the
area is IDLE, no other area has changed hands, the operator holds every override on the area's tags, and every UP station is
sent NOTICE OVERRIDE of each holder change. -/
def Transferred (s t : State) (a op st : Nat) : Prop :=
  t.ownerOf a = some (op, st) ∧ t.coverOf a = none ∧ (∀ b, b ≠ a → t.ownerOf b = s.ownerOf b) ∧
    t.hand.look a = none ∧ (∀ b, b ≠ a → t.hand.look b = s.hand.look b) ∧
    (∀ n o, s.overrides.look n = some o →
      t.overrides.look n = some (if s.overrideArea o = some a then { o with holder := op } else o)) ∧
    (∀ n o j, s.overrides.look n = some o → s.overrideArea o = some a → o.holder ≠ op → 1 ≤ j → j ≤ 16 →
      s.isUp j = true → s.outTo j (.notice (.override .holderChanged o.kind o.tag (s.badgeOf op) o.station
        (s.secondsLeft o.expiry) o.reason)) ∈ t.sent)

/-- R94, R102: from `s` to `t` the overdue count has fallen by one, and an ACTIVE OVERDUE ALARM has been updated with the new
count, or returned where that is 0. -/
def OverdueFell (s t : State) : Prop :=
  t.ann.overdue = s.ann.overdue - 1 ∧
    ∀ e, s.entry? 518 = some e → e.active = true →
      (1 < s.ann.overdue → t.entry? 518 = some { e with subject := .count (s.ann.overdue - 1) }) ∧
      (s.ann.overdue = 1 → t.entry? 518 =
        if e.ack.isSome then none else some { e with active := false, returnTime := some s.time.mill })

/-! ### Invariants -/

namespace State

/-- R85, R86, R87: between events the route held for every alarm entry is the one the state gives. -/
def RoutesStand (s : State) : Prop := ∀ n, (s.annRec n).route = s.routeNow n

/-- R35, R36: while the unit runs, the cover station of every area is the one that the walk of R35 gives in the state, and
the orphan set holds the areas that R35 calls orphans. -/
def CoverStands (s : State) : Prop :=
  s.running = true → ∀ a, 1 ≤ a → a ≤ 12 →
    s.coverOf a = s.coverWalk a ∧ (s.isOrphan a = true ↔ s.ownerOf a = none ∧ s.inService a = true ∧ s.coverOf a = none)

/-- R72, R89, R106, R120: the attention stacks, the Deferred List, the Override Register and the Command Transit Table
stay within their capacities, and the two tables list each entry once. -/
structure WithinCapacity (s : State) : Prop where
  stackRoom : ∀ st, (s.stack st).length ≤ Config.stackDepth
  deferredRoom : s.flood.deferred.length ≤ Config.deferredCapacity
  overrideRoom : Tbl.wf s.overrides ∧ (∀ p ∈ s.overrides, p.1 < Config.overrideEntries)
    ∧ s.overrides.length ≤ Config.overrideEntries
  transitRoom : Tbl.wf s.gate.transit ∧ s.gate.transit.length ≤ Config.transitEntries

/-- R41, R43, R100: what holds of an alarm entry in use. It is not both RETURNED and ACKED, its stage is 0 to 2, its raise
count is 1 to 255, its current priority is its configured one or one step above, and it names a tag exactly if it is
an ordinary entry. -/
def EntrySound (n : Nat) (e : Entry) : Prop :=
  (e.active = true ∨ e.ack = none) ∧ e.stage ≤ 2 ∧ 1 ≤ e.raiseCount ∧ e.raiseCount ≤ Config.raiseCountMax
    ∧ (e.cur = e.cfg ∨ e.cur = e.cfg.raise) ∧ (e.tag.isSome = true ↔ n < Config.ordinaryEntries)

def EntriesSound (s : State) : Prop := Tbl.wf s.alarm.entries ∧ ∀ p ∈ s.alarm.entries, EntrySound p.1 p.2

/-- R27 with what it needs of the tables that hold it: the logons are listed by station, no operator twice; every owner
is an operator logged on at the owner's station, which permits the area, and holds level 1 or higher there; and an
area that waits for a takeover (R166) is owned by another operator than the supervisor and has commands in flight. -/
structure OwnersEntitled (s : State) : Prop where
  logonsListed : Tbl.wf s.auth.logon
  transitListed : Tbl.wf s.gate.transit
  transitRoom : s.gate.transit.length ≤ Config.transitEntries
  onePlace : ∀ st st' op, s.logonAt st = some op → s.logonAt st' = some op → st = st'
  areas : ∀ a, (s.ownerOf a).isSome = true ∨ (s.hand.look a).isSome = true → 1 ≤ a ∧ a ≤ 12
  owners : ∀ a op st, s.ownerOf a = some (op, st) →
    s.logonAt st = some op ∧ s.permits st a = true ∧ 1 ≤ s.levelOf op a
  takeovers : ∀ a t, s.hand.look a = some (.takingOver t) →
    s.inFlight a ≠ [] ∧ ∃ op st, s.ownerOf a = some (op, st) ∧ op ≠ t.op

end State

end Sys2Proof.Machine
end

