-- ==== Sys2Proof/Certificates/Slice0/Obligations.lean ====
section
/-! DEFINITION. The statements about the model, one `Obligations.<Name>` each. Of a console request, `arrived s h` is the
state that its accepted frame leaves and its request is taken against (R21 to R24); what an arrival changes is stated once,
in `AcceptedFrameArrives`. `Touches l u t` says that every part of the state that `l` does not list stays as it was in `u`,
and that no message of a sort that `l` does not list is sent. -/

open Sys2Proof Sys2Proof.Machine

/-! ### The step, the clock and what every command keeps -/

/-- 00_scope.md "Block overview": a block acts on the events that reach it. A step takes the command at the front of the
queue (the queue is the model's own, log entry 7). -/
def Obligations.StepRunsFrontCommand : Prop :=
  ∀ (c : Instr) (rest : List Instr) (s : State), s.pending = c :: rest → step s = exec c { s with pending := rest }

/-- R187 with the timers of R21, R34, R38, R68, R78, R99, R116, R132, R135, R147, R164, R171, R175 and R178: on an empty
queue 10 ms pass, and an event joins the queue exactly where its time has come, the whole-second events at whole seconds.
Three clauses are the model's choice and no rule's: that an empty queue makes the clock run (log entry 7), that the step at
the 48-bit limit of unit time faults (log entry 36), and that the watches and the resync timer, which are marked at 10 ms,
are due at the first whole second past their limit (log entry 13). -/
def Obligations.ClockRunsOnEmptyQueue : Prop :=
  ∀ s : State, s.pending = [] →
    (s.running = false → step s = .next s.fresh) ∧
    (s.running = true → 2 ^ 48 ≤ s.time.unit + 1 → step s = .fault .unitTimeExhausted) ∧
    (s.running = true → s.time.unit + 1 < 2 ^ 48 →
      ∃ t, step s = .next t ∧ t.time.unit = s.time.unit + 1 ∧ t.sent = [] ∧
        Touches [.unitTime, .queue] s.fresh t ∧
        (.keyAsserted ∈ t.pending ↔ t.assertDue = true) ∧
        (.keyReleased ∈ t.pending ↔ t.releaseKeyDue = true) ∧
        (∀ k, .reSend k ∈ t.pending ↔ t.resendDue k = true) ∧
        (∀ k, .replyDeadlineExpiry k ∈ t.pending ↔ t.replyDeadlineDue k = true) ∧
        (∀ k, .countersignWindowExpiry k ∈ t.pending ↔ t.windowDue k = true) ∧
        (.millTimeAdvance ∈ t.pending ↔ t.time.unit % 100 = 0) ∧
        (.unitBeat ∈ t.pending ↔ t.time.unit % 100 = 0) ∧
        (∀ a, .decayEvent a ∈ t.pending ↔ t.time.unit % 100 = 0 ∧ 1 ≤ a ∧ a ≤ 12) ∧
        (∀ st, .consoleSilenceTimeout st ∈ t.pending ↔
          t.time.unit % 100 = 0 ∧ 1 ≤ st ∧ st ≤ 16 ∧ t.silenceDue st = true) ∧
        (∀ st, .graceExpiry st ∈ t.pending ↔ t.time.unit % 100 = 0 ∧ t.graceDue st = true) ∧
        (.resyncTimerExpiry ∈ t.pending ↔ t.time.unit % 100 = 0 ∧ t.resyncTimerDue = true) ∧
        (.plantStartTimeout ∈ t.pending ↔ t.time.unit % 100 = 0 ∧ t.plantStartDue = true) ∧
        (.plantDegradedTimeout ∈ t.pending ↔ t.time.unit % 100 = 0 ∧ t.plantDegradedDue = true) ∧
        (.plantSilenceTimeout ∈ t.pending ↔ t.time.unit % 100 = 0 ∧ t.plantSilenceDue = true) ∧
        (∀ a, .releaseTimerExpiry a ∈ t.pending ↔ t.time.unit % 100 = 0 ∧ t.releaseDue a = true) ∧
        (∀ n, .stage1Expiry n ∈ t.pending ↔ t.time.unit % 100 = 0 ∧ t.deadlineDue n 1 = true) ∧
        (∀ n, .stage2Expiry n ∈ t.pending ↔ t.time.unit % 100 = 0 ∧ t.deadlineDue n 2 = true) ∧
        (∀ n, .overrideExpiry n ∈ t.pending ↔ t.time.unit % 100 = 0 ∧ t.overrideDue n = true) ∧
        (∀ a, .handoverLapse a ∈ t.pending ↔ t.time.unit % 100 = 0 ∧ t.lapseDue a = true))

/-- Every command is taken, and changes no part of the state and sends no sort of message that its rules do not name. -/
def Obligations.CommandsKeepToTheirFootprint : Prop :=
  ∀ (i : Instr) (s : State), ∃ t, exec i s = .next t ∧ Touches (footprint i) s.fresh t

/-- R6, R28, R55, R107, R122, R142, R153 and their like: a request that is refused, or answered ALREADY, changes no state;
only its ANSWER is sent. -/
def Obligations.RefusedRequestChangesNothing : Prop :=
  ∀ (i : Instr) (h : Hdr) (s t : State) (a : Ans), requestHeader? i = some h → Accepted s h → exec i s = .next t →
    Answered t h a → a.code.changes = false → Touches [.said .answer] (arrived s h) t

/-! ### Invariants of every step -/

/-- R27: every owner is an operator logged on at the owner's station, which permits the area, and holds level 1 or higher
there. Every step keeps this, with what it needs of the tables that hold it (`State.OwnersEntitled`). -/
def Obligations.OwnersStayEntitled : Prop :=
  ∀ s t : State, s.OwnersEntitled → step s = .next t → t.OwnersEntitled

/-- R35, R36: every event that could change a cover station or the orphan set runs the cover scan, so every step of a unit
that runs keeps them as the scan gives them (`State.CoverStands`). -/
def Obligations.CoverStaysAsScanned : Prop :=
  ∀ s t : State, s.CoverStands → step s = .next t → t.CoverStands

/-- R87: every event that changes what a route reads recomputes the routes, so every step keeps the route held for each
alarm entry as R85 and R86 give it (`State.RoutesStand`). -/
def Obligations.RoutesStayAsComputed : Prop :=
  ∀ s t : State, s.RoutesStand → step s = .next t → t.RoutesStand

/-- R41, R43, R100: no alarm entry is both RETURNED and ACKED, its stage, raise count and current priority stay in their
ranges, and it names a tag exactly if it is an ordinary entry. Every step keeps this (`State.EntriesSound`). -/
def Obligations.EntriesStaySound : Prop :=
  ∀ s t : State, s.EntriesSound → step s = .next t → t.EntriesSound

/-- R72, R89, R106, R120: every step keeps the attention stacks, the Deferred List, the Override Register and the Command
Transit Table within their capacities (`State.WithinCapacity`). -/
def Obligations.TablesStayWithinCapacity : Prop :=
  ∀ s t : State, s.WithinCapacity → step s = .next t → t.WithinCapacity

/-- R40, R65, R84, R105, R119, R139, R169: the state right after reset meets every invariant. What that state holds where
the spec gives no value is the model's choice: the image, and with it the failed load (log entry 1), the levels of the
lines (log entry 2), and the model's own fields (log entry 38). -/
def Obligations.ResetMeetsTheInvariants : Prop :=
  State.reset.OwnersEntitled ∧ State.reset.CoverStands ∧ State.reset.RoutesStand ∧ State.reset.EntriesSound ∧
    State.reset.WithinCapacity

/-- R128, R144: whatever the event, a command that is forwarded for the first time was originated by an operator logged on
at the originating station who owns the area there, or by a key supervisor, holds the level of the tag's class, and, where
its class is 4, was given under the key or carries a countersigner who is another operator at another station with level
3. FORWARD carries the badges the Roster holds. -/
def Obligations.ForwardedCommandsAreEntitled : Prop :=
  ∀ (i : Instr) (s t : State) (k tag badge signBadge : Nat) (action : Action) (value : BitVec 32) (key : Bool),
    s.OwnersEntitled → exec i s = .next t →
    .plant (.forward k tag action value badge signBadge key false) ∈ t.sent →
    ∃ x, t.gate.transit.look k = some x ∧ x.state = .forwarded ∧ x.tag = tag ∧ x.action = action ∧ x.value = value ∧
      x.key = key ∧ x.deadline = s.now + s.baseTime tag ∧
      badge = s.badgeOf x.origOp ∧ signBadge = (x.signer.map (fun y => s.badgeOf y.1)).getD 0 ∧
      s.logonAt x.origStation = some x.origOp ∧
      (s.ownerOf x.area = some (x.origOp, x.origStation) ∨ s.keySupervisor x.origOp x.origStation = true) ∧
      ∀ r, s.tagRec? tag = some r →
        classLevel r.cls ≤ s.levelOf x.origOp x.area ∧
        (r.cls = 4 → s.keySupervisor x.origOp x.origStation = true ∨
          ∃ op st, x.signer = some (op, st) ∧ op ≠ x.origOp ∧ st ≠ x.origStation ∧ s.logonAt st = some op ∧
            3 ≤ s.levelOf op x.area)

/-- R32, R159, R161, R166, R167: ownership passes from one operator to another only at a transfer: to the incoming operator of
a session that is accepted (it is QUIESCING, or the event is its ACCEPT from the incoming station by that operator), to the
supervisor of the area's pending takeover, or to the operator whose TAKEOVER from a SUPERVISOR station the event is. -/
def Obligations.OwnershipPassesOnlyByTransfer : Prop :=
  ∀ (i : Instr) (s t : State) (a op st op' st' : Nat), exec i s = .next t →
    s.ownerOf a = some (op, st) → t.ownerOf a = some (op', st') → op' ≠ op →
    (∃ x, s.hand.look a = some (.quiescing x) ∧ x.inOp = op') ∨
      (∃ h x, i = .accept h a 0 ∧ s.hand.look a = some (.offered x) ∧ x.inOp = op' ∧ x.inStation = h.station ∧
        s.logonAt h.station = some op') ∨
      (∃ x, s.hand.look a = some (.takingOver x) ∧ x.op = op') ∨
      ∃ h, i = .takeover h a 0 ∧ s.logonAt h.station = some op' ∧ s.isSupervisorStation h.station = true

/-! ### Port A: arrival, strangers, unknown kinds, queries -/

/-- R21, R23, R24, R183: an accepted frame is counted, renews the last-heard time and makes its station UP; a LOST station
is told by NOTICE RESUME and ATTENTION and its grace timer stops; the first frame since the flag was set clears it and
draws NOTICE RESTARTED. A BEAT draws no answer and does nothing else. -/
def Obligations.AcceptedFrameArrives : Prop :=
  ∀ (s : State) (h : Hdr), Accepted s h →
    ∃ t, exec (.beat h) s = .next t ∧ t = arrived s h ∧
      t.isUp h.station = true ∧ (∀ st, st ≠ h.station → t.link st = s.link st) ∧
      t.console.heard.look h.station = some s.now ∧ h.station ∉ t.console.restartPending ∧
      t.console.counters = { s.console.counters with accepted := bump s.console.counters.accepted } ∧
      Touches arrivalParts s.fresh t ∧
      (s.isUp h.station = true → h.station ∉ s.console.restartPending →
        t.sent = [] ∧ Touches [.countersA, .heard] s.fresh t) ∧
      (h.station ∈ s.console.restartPending →
        t.sent.getLast? = some (.console h.station h.src (.notice (.restarted s.time.mill s.time.clockUnset)))) ∧
      (s.link h.station = .lost →
        t.auth.grace.look h.station = none ∧
        .console h.station h.src (.notice (s.resumeNotice h.station)) ∈ t.sent ∧
        .console h.station h.src (.attention (t.tone? h.station)) ∈ t.sent)

/-- R183, R170, R176: a Port A frame that fails a check is counted at the first check it fails and does nothing else,
whether it comes as a frame discarded or as the request it spells. A Port B frame of unknown kind or length is counted and
serves nothing. Faulty content has served the watch, whatever the link state, and is counted; of a notice, the sequence has
been taken first: it is consumed where it is the base or the next one, a repeat is counted as such in place of the fault, and
a gap is counted besides it and begins a whole-mill resync. That a payload which fails no check is no discarded frame, so
that nothing happens, is the model's choice (log entry 8). -/
def Obligations.DiscardedFramesAreCounted : Prop :=
  (∀ s : State, s.running = true →
      (∀ src payload,
        let spelled := (bodyOf payload).bind (readRequest (headerOf src payload) (field payload 0 1))
        let h := headerOf src payload
        (spelled = none → exec (.portAFrameDiscarded src payload) s =
          .next (s.fresh.countA (fun c => { c with length := bump c.length }))) ∧
        (spelled.isSome = true → h.station < 1 ∨ 16 < h.station ∨ s.stationRec? h.station = none →
          exec (.portAFrameDiscarded src payload) s =
            .next (s.fresh.countA (fun c => { c with unknown := bump c.unknown }))) ∧
        (∀ r, spelled.isSome = true → 1 ≤ h.station → h.station ≤ 16 → s.stationRec? h.station = some r →
          exec (.portAFrameDiscarded src payload) s = .next (if r.addr = src then s.fresh
            else s.fresh.countA (fun c => { c with mismatch := bump c.mismatch })))) ∧
      (∀ (i : Instr) (h : Hdr), requestHeader? i = some h →
        (h.station < 1 ∨ 16 < h.station ∨ s.stationRec? h.station = none) →
        exec i s = .next (s.fresh.countA (fun c => { c with unknown := bump c.unknown }))) ∧
      (∀ (i : Instr) (h : Hdr) (r : StationRec), requestHeader? i = some h → 1 ≤ h.station → h.station ≤ 16 →
        s.stationRec? h.station = some r → r.addr ≠ h.src →
        exec i s = .next (s.fresh.countA (fun c => { c with mismatch := bump c.mismatch })))) ∧
  (∀ s : State, s.running = true →
      let steady : Prop := s.plant.link = .up ∨ s.plant.link = .resync
      let begun : Prop := s.plant.link = .start ∨ s.plant.link = .lost
      let served : PlantLink :=
        if s.plant.link = .start ∨ s.plant.link = .lost then .resync
        else if s.plant.link = .degraded then (if s.plant.ret then .resync else .up) else s.plant.link
      let quiet : List Part := [.plantHeard, .plantMark, .countersB, .recs, .attnStacks, .shown, .unitAlarm,
        .said .attention]
      let counted (t : State) (c : CountersB) : Prop := t.plant.counters = c
      (∀ payload,
        ((bodyOf payload).bind (readPlant (field payload 0 1)) = none → exec (.plantFrameDiscarded payload) s =
          .next (s.fresh.countB (fun c => { c with malformedFrames := bump c.malformedFrames }))) ∧
        (((bodyOf payload).bind (readPlant (field payload 0 1))).isSome = true →
          exec (.plantFrameDiscarded payload) s = .next s.fresh)) ∧
      (∀ seq tag cond transition flag rsv time, noticeFaulty tag cond transition flag rsv = true →
        ∃ t, exec (.malformedContent (.notice seq tag cond transition flag rsv time)) s = .next t ∧
          t.plant.heard = some s.now ∧ t.plant.mark = s.now ∧
          (begun ∨ s.plant.expected = none ∨ (∃ x, s.plant.expected = some x ∧ seq = (x + 1) % 65536) →
            t.plant.link = served ∧ t.plant.expected = some seq ∧
            counted t { s.plant.counters with malformedContent := bump s.plant.counters.malformedContent } ∧
            (steady → Touches (.plantExpected :: quiet) s.fresh t)) ∧
          (∀ x, ¬ begun → s.plant.expected = some x → seq = x →
            t.plant.link = served ∧ t.plant.expected = some x ∧
            counted t { s.plant.counters with duplicateSeq := bump s.plant.counters.duplicateSeq } ∧
            (steady → Touches quiet s.fresh t)) ∧
          (∀ x, ¬ begun → s.plant.expected = some x → seq ≠ x → seq ≠ (x + 1) % 65536 →
            t.plant.link = .resync ∧ t.plant.expected = none ∧ t.plant.resync = (s.plant.resync + 1) % 65536 ∧
            t.plant.timer = some (s.now + 3000) ∧ .plant (.resyncRequest 0 t.plant.resync) ∈ t.sent ∧
            counted t { s.plant.counters with
              malformedContent := bump s.plant.counters.malformedContent
              gaps := bump s.plant.counters.gaps }) ∧
          Touches (.countersB :: plantArrivalParts) s.fresh t) ∧
      (∀ ticket tag outcome rsv arg, replyFaulty outcome rsv arg = true →
        ∃ t, exec (.malformedContent (.reply ticket tag outcome rsv arg)) s = .next t ∧
          t.plant.heard = some s.now ∧ t.plant.mark = s.now ∧ t.plant.link = served ∧
          counted t { s.plant.counters with malformedContent := bump s.plant.counters.malformedContent } ∧
          (steady → Touches quiet s.fresh t) ∧ Touches (.countersB :: plantArrivalParts) s.fresh t))

/-- R184, R7, R60, R95, R142, R185: a kind that is no console request, and a mode, state, decision or query kind that is
none the unit knows, draw CODE; an unknown table draws RANGE at an entitled station. A request of known kind whose header's
reserved field is not zero draws RESERVED. Four points are the model's and no rule's: that such requests come as the row
UNKNOWN_KIND (log entry 31); that an unknown query kind draws CODE before the logon is tested (log entry 12); that CODE goes
before the reserved byte of a SILENCE and a SERVICE; and that a query of unknown kind and a write to an unknown table have no
reserved byte to test (both log entry 24). -/
def Obligations.UnknownRequestIsRefused : Prop :=
  ∀ (s : State) (h : Hdr), Accepted s h →
    (∀ c, ∃ t, exec (.unknownKind h (.kind c)) s = .next t ∧ Answered t h (ans .code) ∧
      Touches [.said .answer] (arrived s h) t) ∧
    (h.rsv ≠ 0 → ∀ i, requestHeader? i = some h → i ≠ .beat h → (∀ c, i ≠ .unknownKind h (.kind c)) →
      ∃ t, exec i s = .next t ∧ Answered t h (ans .reserved) ∧ Touches [.said .answer] (arrived s h) t) ∧
    (h.rsv = 0 →
      (∀ m r rsv, ∃ t, exec (.unknownKind h (.silenceMode m r rsv)) s = .next t ∧ Answered t h (ans .code) ∧
        Touches [.said .answer] (arrived s h) t) ∧
      (∀ a x rsv, 1 ≤ a → a ≤ 12 → ∃ t, exec (.unknownKind h (.serviceState a x rsv)) s = .next t ∧
        Answered t h (ans .code) ∧ Touches [.said .answer] (arrived s h) t) ∧
      (∀ k g d, 1 ≤ k → k ≤ 65535 → g ≤ 4095 → ∃ t, exec (.unknownKind h (.decision k g d 0)) s = .next t ∧
        Answered t h (ans .code) ∧ Touches [.said .answer] (arrived s h) t) ∧
      (∀ c, ∃ t, exec (.unknownKind h (.queryKind c)) s = .next t ∧ Answered t h (ans .code) ∧
        Touches [.said .answer] (arrived s h) t) ∧
      (∀ c x, s.entitled h.station = true → s.store.job = none →
        ∃ t, exec (.unknownKind h (.writeTable c x)) s = .next t ∧ Answered t h (ans .range) ∧
          Touches [.said .answer] (arrived s h) t))

/-- R185 with R118, R138 and R168, and R16: a query and READ RECORD draw their result as it stands when they arrive, and
change nothing. UNIT STATUS needs no logon, READ RECORD an entitled station, every other query a logon. The rounding of the
seconds since the last plant frame (log entry 46), the order of an OVERRIDE LIST (42), and how the seconds and milliseconds
remaining are counted in ALARM ENTRY, TRANSIT LIST, OVERRIDE LIST, HANDOVER LIST and STATION STATUS (19) are the model's
choices. -/
def Obligations.QueriesAnswerAndChangeNothing : Prop :=
  ∀ (s : State) (h : Hdr), Taken s h →
    (∃ t, exec (.queryUnitStatus h 0) s = .next t ∧
      Answered t h ⟨.done, 0, .unitStatus (arrived s h).unitStatus⟩ ∧ Touches [.said .answer] (arrived s h) t) ∧
    (∀ table index p, s.entitled h.station = true → s.recordAt table index = some p →
      ∃ t, exec (.readRecord h table index 0) s = .next t ∧ Answered t h ⟨.done, 0, p⟩ ∧
        Touches [.said .answer] (arrived s h) t) ∧
    ((s.logonAt h.station).isSome = true →
      (∀ a, 1 ≤ a → a ≤ 12 → ∃ t, exec (.queryAreaStatus h a 0) s = .next t ∧
        Answered t h ⟨.done, 0, .areaStatus ((arrived s h).areaStatus a)⟩ ∧
        Touches [.said .answer] (arrived s h) t) ∧
      (∀ a page f p, a ≤ 12 → State.pageFilter f = some p → ∃ t, exec (.queryAlarmPage h a page f 0) s = .next t ∧
        Answered t h ⟨.done, 0, (arrived s h).alarmPage a page p⟩ ∧ Touches [.said .answer] (arrived s h) t) ∧
      (∀ r e, r.num ≤ 520 → (arrived s h).entry? r.num = some e → (arrived s h).gen r.num = r.gen →
        ∃ t, exec (.queryAlarmEntry h r 0) s = .next t ∧
          Answered t h ⟨.done, 0, (arrived s h).alarmEntry r.num e⟩ ∧ Touches [.said .answer] (arrived s h) t) ∧
      (∃ t, exec (.queryTransitList h 0) s = .next t ∧
        Answered t h ⟨.done, 0, .transitList (s.gate.transit.map s.transitView)⟩ ∧
        Touches [.said .answer] (arrived s h) t) ∧
      (∃ t, exec (.queryOverrideList h 0) s = .next t ∧ Answered t h ⟨.done, 0, .overrideList s.overrideViews⟩ ∧
        Touches [.said .answer] (arrived s h) t) ∧
      (∀ a, 1 ≤ a → a ≤ 12 → ∃ t, exec (.queryHandoverList h a 0) s = .next t ∧
        Answered t h ⟨.done, 0, .handoverList (s.handoverView a)⟩ ∧ Touches [.said .answer] (arrived s h) t) ∧
      (∀ st, 1 ≤ st → st ≤ 16 → ∃ t, exec (.queryStationStatus h st 0) s = .next t ∧
        Answered t h ⟨.done, 0, .stationStatus ((arrived s h).stationStatus st)⟩ ∧
        Touches [.said .answer] (arrived s h) t))

/-! ### The Authority Unit -/

/-- R28: the effect of LOGON: the badge's operator is logged on at the station and no other logon changes. -/
def Obligations.LogonStaffsStation : Prop :=
  ∀ (s : State) (h : Hdr) (badge op : Nat) (r : RosterRec) (q : StationRec), Taken s h →
    1 ≤ badge → badge ≤ 65535 → s.logonAt h.station = none →
    s.tables.roster.find? (fun p => decide (p.2.badge = badge)) = some (op, r) → r.enabled = true →
    h.station ∈ r.stations → s.stationRec? h.station = some q → roleFits q.kind r.role = true → s.stationOf op = none →
    ∃ t, exec (.logon h badge 0) s = .next t ∧ t.logonAt h.station = some op ∧
      (∀ st, st ≠ h.station → t.logonAt st = s.logonAt st) ∧ Answered t h (ans .done op) ∧
      Touches (([.logon, .said .answer] : List Part) ++ coverParts ++ endParts) (arrived s h) t

/-- R29: the effect of LOGOFF: sessions and takeovers that wait for the operator end, waiting commands of the operator
are withdrawn, the logon ends and the station is sent ATTENTION. -/
def Obligations.LogoffEndsLogon : Prop :=
  ∀ (s : State) (h : Hdr) (op : Nat), Taken s h → s.logonAt h.station = some op →
    (∀ a, 1 ≤ a → a ≤ 12 → (s.ownerOf a).map Prod.fst ≠ some op ∧ (s.session? a).map (·.outOp) ≠ some op) →
    Tbl.wf s.gate.transit →
    ∃ t, exec (.logoff h) s = .next t ∧ t.logonAt h.station = none ∧
      (∀ st, st ≠ h.station → t.logonAt st = s.logonAt st) ∧ t.auth.grace.look h.station = none ∧
      (∀ a, 1 ≤ a → a ≤ 12 → (s.session? a).map (·.inOp) = some op → t.hand.look a = none) ∧
      (∀ a x, 1 ≤ a → a ≤ 12 → s.hand.look a = some (.takingOver x) → x.op = op → t.hand.look a = none) ∧
      (∀ k x, s.gate.transit.look k = some x →
        t.gate.transit.look k = if x.state = .awaiting ∧ x.origOp = op then none else some x) ∧
      .console h.station h.src (.attention (t.tone? h.station)) ∈ t.sent ∧ Answered t h (ans .done) ∧
      Touches (([.logon, .grace, .transit, .handover, .said .result,
        .said .answer] : List Part) ++ coverParts ++ endParts)
        (arrived s h) t

/-- R30, R31: CLAIM of an unowned area makes the operator its owner, without cover station, and every UP station is told.
RELEASE of an area with no open session, no UNACKED alarm ANNUNCIATED or DEFERRED and no transit entry gives it up. -/
def Obligations.ClaimAndReleaseChangeOwner : Prop :=
  (∀ (s : State) (h : Hdr) (area op : Nat), Taken s h → 1 ≤ area → area ≤ 12 → s.logonAt h.station = some op →
      s.permits h.station area = true → 1 ≤ s.levelOf op area → s.ownerOf area = none →
      ∃ t, exec (.claim h area 0) s = .next t ∧ t.ownerOf area = some (op, h.station) ∧ t.coverOf area = none ∧
        t.isOrphan area = false ∧ (∀ a, a ≠ area → t.ownerOf a = s.ownerOf a) ∧
        (∀ st, 1 ≤ st → st ≤ 16 → (arrived s h).isUp st = true →
          s.outTo st (.notice (.area area (s.badgeOf op) h.station 0 false)) ∈ t.sent) ∧
        Answered t h (ans .done) ∧ Touches (([.owner, .said .answer] : List Part) ++ coverParts ++ endParts)
          (arrived s h) t) ∧
  (∀ (s : State) (h : Hdr) (area op ost : Nat), Taken s h → 1 ≤ area → area ≤ 12 → s.logonAt h.station = some op →
      s.ownerOf area = some (op, ost) → s.session? area = none →
      (∀ n e, n < 512 → s.entry? n = some e → e.area = area → e.ack = none →
        e.disp ≠ .annunciated ∧ e.disp ≠ .deferred) →
      (∀ p ∈ s.gate.transit, p.2.area ≠ area) →
      ∃ t, exec (.release h area 0) s = .next t ∧ t.ownerOf area = none ∧ t.coverOf area = t.coverWalk area ∧
        (∀ a, a ≠ area → t.ownerOf a = s.ownerOf a) ∧ Answered t h (ans .done) ∧
        Touches (([.owner, .said .answer] : List Part) ++ coverParts ++ endParts) (arrived s h) t)

/-- R35, the cover scan: an owned area has no cover station; an unowned one is covered by the first station of its
fallback list that is present, UP and permits the area and whose operator holds level 1 or higher there; an unowned area
in service without cover is an orphan. The former cover does not enter. -/
def Obligations.CoverScanWalksFallback : Prop :=
  ∀ (s : State) (a : Nat), 1 ≤ a → a ≤ 12 →
    s.coverScan.coverOf a =
      (if (s.ownerOf a).isSome then none
       else (s.areaRec a).fallback.find? (fun st =>
         (s.stationRec? st).isSome && s.isUp st && decide (∃ op, s.logonAt st = some op ∧ 1 ≤ s.levelOf op a)
           && s.permits st a)) ∧
    (s.coverScan.isOrphan a = true ↔
      s.ownerOf a = none ∧ s.inService a = true ∧ s.coverScan.coverOf a = none) ∧
    Touches coverParts s s.coverScan

/-- R22: a station that has been silent for 5 s is LOST; if it is staffed its grace timer starts, and its operator keeps
logon and areas. That the grace time counts from the whole second of the event is the model's inference (log entry 13). -/
def Obligations.SilentStationIsLost : Prop :=
  ∀ (s : State) (st : Nat), s.running = true → s.silenceDue st = true →
    ∃ t, exec (.consoleSilenceTimeout st) s = .next t ∧ t.link st = .lost ∧
      (∀ st', st' ≠ st → t.link st' = s.link st') ∧
      (s.staffed st = false → t.auth.grace = s.auth.grace) ∧
      (∀ r, s.staffed st = true → s.stationRec? st = some r →
        t.auth.grace.look st = some (s.secondsAhead r.grace) ∧
        ∀ st', st' ≠ st → t.auth.grace.look st' = s.auth.grace.look st') ∧
      Touches (([.link, .grace] : List Part) ++ coverParts ++ endParts) s.fresh t

/-- R34: when a station's grace timer expires its operator is logged off: the operator owns no area any more, every
session the operator is a party to closes, waiting commands are withdrawn, and the station is told. -/
def Obligations.GraceExpiryLogsOff : Prop :=
  ∀ (s : State) (st op : Nat), s.running = true → s.OwnersEntitled → s.graceDue st = true → s.logonAt st = some op →
    ∃ t, exec (.graceExpiry st) s = .next t ∧ t.logonAt st = none ∧ t.auth.grace.look st = none ∧
      (∀ st', st' ≠ st → t.logonAt st' = s.logonAt st') ∧ (∀ a b, t.ownerOf a ≠ some (op, b)) ∧
      (∀ a, (s.ownerOf a).map Prod.fst ≠ some op → t.ownerOf a = s.ownerOf a) ∧
      (∀ a x, 1 ≤ a → a ≤ 12 → s.session? a = some x → x.outOp = op ∨ x.inOp = op → t.hand.look a = none) ∧
      (∀ a x, s.hand.look a = some (.takingOver x) → x.op = op → t.hand.look a = none) ∧
      (∀ k x, s.gate.transit.look k = some x →
        t.gate.transit.look k = if x.state = .awaiting ∧ x.origOp = op then none else some x) ∧
      (s.link st ≠ .absent → s.outTo st (.notice (.loggedOff .link)) ∈ t.sent) ∧
      Touches (([.logon, .grace] : List Part) ++ endingParts ++ endParts) s.fresh t

/-- R38, R190: the line's level changes with the contact, and an interval of 50 ms starts; a level held for 50 ms becomes
the key state, with MASTER KEY IN USE raised or returned. That a level given again leaves the interval running (log entry
18), and that the line follows the contact in a unit that is off as well (log entry 10), are the model's inferences. -/
def Obligations.MasterKeyFollowsItsLine : Prop :=
  ∀ s : State,
    (∀ c, ∃ t, exec (.masterKeyLineChange c) s = .next t ∧ t.auth.keyLine = c ∧
      t.auth.keySince = (if s.auth.keyLine = c then s.auth.keySince else s.now) ∧ Touches [.keyLine] s.fresh t) ∧
    (s.running = true → s.auth.keyLine = true → s.auth.key = false → s.auth.keySince + 5 ≤ s.now →
      ∃ t e, exec .keyAsserted s = .next t ∧ t.auth.key = true ∧ t.entry? 519 = some e ∧ e.active = true ∧
        Touches (Part.key :: sysParts ++ endParts) s.fresh t) ∧
    (s.running = true → s.auth.keyLine = false → s.auth.key = true → s.auth.keySince + 5 ≤ s.now →
      ∃ t, exec .keyReleased s = .next t ∧ t.auth.key = false ∧ (∀ e, t.entry? 519 = some e → e.active = false) ∧
        Touches (Part.key :: sysParts ++ endParts) s.fresh t)

/-! ### Alarms: notices, acknowledgement, service -/

/-- R49, R41, R66, R71, R99: a RAISE in sequence over an UP link or in RESYNC, for a pair with no entry, of a tag that is not
shelved or suppressed, in an area that is not flooded or above the area's flood cut, takes the free entry and annunciates it
with its stage-1 deadline; the area's load grows by the weight of its priority unless the notice is a resync notice. (That a
tag is not its own parent is R5 field 4.) R67: an area so brought to its flood-on threshold is flooded, every UP station is
told, and its release timer stops; one that is flooded stays so, its release timer with it.
R46, R47: a RAISE of an ACTIVE entry clears its stale flag, confirms it, and is counted as a duplicate unless it is a resync
notice. R48: a RAISE of a RETURNED entry makes it ACTIVE again with its raise count one higher; where it is ANNUNCIATED the
weight of its priority is added unless the notice is a resync notice, and its silence ends; its deadline, or its place on
the Deferred List, stays. That a new entry's stage-1 deadline counts from the whole second of the notice is the model's
inference (log entry 13). -/
def Obligations.RaiseCreatesOrRenewsEntry : Prop :=
  (∀ (s : State) (m : NoticeFields) (r : TagRec) (p : Priority) (n x : Nat), s.running = true → s.EntriesSound →
    s.plant.link = .up ∨ s.plant.link = .resync → s.plant.expected = some x → m.seq = (x + 1) % 65536 → m.tag ≤ 4095 → m.cond ≤ 7 →
    s.tagRec? m.tag = some r → (∀ q, r.parent = some q → q.1 ≠ m.tag) →
    r.prio m.cond = some p → s.inService r.area = true → s.entryOf? m.tag m.cond = none → s.freeEntry? = some n →
    s.override? .shelve m.tag = none → s.suppressed m.tag = false →
    s.flooded r.area = false ∨ (s.areaRec r.area).cut.value < p.value →
    ∃ t, exec (.alarmNoticeRaise m) s = .next t ∧
      t.entry? n = some ⟨some m.tag, some m.cond, r.area, p, p, true, none, .annunciated, m.time, none, 1, 0, false,
        true, .none⟩ ∧
      t.gen n = s.gen n ∧ (t.annRec n).deadline = some (s.secondsAhead ((s.areaRec r.area).stage1Time p), 1) ∧
      t.load r.area = (if m.resync then s.load r.area else min (s.load r.area + p.weight) 65535) ∧
      (∀ a, a ≠ r.area → t.load a = s.load a) ∧
      t.flooded r.area =
        (s.flooded r.area || (!m.resync && decide ((s.areaRec r.area).floodOn ≤ t.load r.area))) ∧
      (∀ a, a ≠ r.area → t.flooded a = s.flooded a) ∧
      t.flood.release.look r.area =
        (if s.flooded r.area = false ∧ t.flooded r.area = true then none else s.flood.release.look r.area) ∧
      (∀ a, a ≠ r.area → t.flood.release.look a = s.flood.release.look a) ∧
      (s.flooded r.area = false → t.flooded r.area = true → ∀ st, 1 ≤ st → st ≤ 16 → s.isUp st = true →
        s.outTo st (.notice (.flood r.area true (t.load r.area))) ∈ t.sent) ∧
      (∀ j, j ≠ n → t.entry? j = s.entry? j) ∧ t.plant.expected = some m.seq ∧
      Touches (([.plantHeard, .plantMark, .plantExpected, .entries, .recs, .attnStacks, .load, .flooded, .release,
        .handover, .said .notice] : List Part) ++ endParts) s.fresh t) ∧
  (∀ (s : State) (m : NoticeFields) (r : TagRec) (p : Priority) (n x : Nat) (e : Entry), s.running = true →
    s.plant.link = .up ∨ s.plant.link = .resync → s.plant.expected = some x → m.seq = (x + 1) % 65536 →
    m.tag ≤ 4095 → m.cond ≤ 7 → s.tagRec? m.tag = some r → r.prio m.cond = some p → s.inService r.area = true →
    s.entryOf? m.tag m.cond = some (n, e) → s.entry? n = some e →
    (e.active = true →
      ∃ t, exec (.alarmNoticeRaise m) s = .next t ∧ t.entry? n = some { e with stale := false, confirmed := true } ∧
        (∀ j, j ≠ n → t.entry? j = s.entry? j) ∧ t.plant.expected = some m.seq ∧
        t.alarm.duplicates.getD e.area 0 =
          (if m.resync then s.alarm.duplicates.getD e.area 0 else min (s.alarm.duplicates.getD e.area 0 + 1) 65535) ∧
        (∀ a, a ≠ e.area → t.alarm.duplicates.getD a 0 = s.alarm.duplicates.getD a 0) ∧
        Touches (([.plantHeard, .plantMark, .plantExpected, .entries, .duplicates] : List Part) ++ endParts) s.fresh t) ∧
    (e.active = false → e.disp = .annunciated →
      ∃ t, exec (.alarmNoticeRaise m) s = .next t ∧
        t.entry? n = some { e with
          active := true, returnTime := none, raiseCount := min (e.raiseCount + 1) 255, stale := false,
          confirmed := true } ∧
        (∀ j, j ≠ n → t.entry? j = s.entry? j) ∧ (t.annRec n).silenced = [] ∧
        (t.annRec n).deadline = (s.annRec n).deadline ∧
        t.load e.area = (if m.resync then s.load e.area else min (s.load e.area + e.cur.weight) 65535) ∧
        (∀ a, a ≠ e.area → t.load a = s.load a) ∧
        Touches (([.plantHeard, .plantMark, .plantExpected, .entries, .recs, .attnStacks, .load, .flooded, .release,
          .said .notice] : List Part) ++ endParts) s.fresh t) ∧
    (e.active = false → e.disp = .deferred →
      ∃ t, exec (.alarmNoticeRaise m) s = .next t ∧
        t.entry? n = some { e with
          active := true, returnTime := none, raiseCount := min (e.raiseCount + 1) 255, stale := false,
          confirmed := true } ∧
        (∀ j, j ≠ n → t.entry? j = s.entry? j) ∧
        Touches (([.plantHeard, .plantMark, .plantExpected, .entries] : List Part) ++ endParts) s.fresh t))

/-- R49 steps 1 to 3, R71, R72: the same RAISE is SHELVED and ACKED by the holder where a shelf stands, SUPPRESSED under an
ACTIVE parent entry in the mask, and DEFERRED, at the tail of the Deferred List, in a flooded area at or below its cut
while the list has room. None of the three adds weight. R73, R74: where the list is full it is annunciated by overflow: the
weight is added unless the notice is a resync notice, the area's overflow is counted, and DEFERRAL OVERFLOW is raised with
the areas that have overflowed. R50: where no entry is free the RAISE is dropped and counted, no ordinary entry changes, and
ALARM TABLE FULL is raised with the areas that have lost a raise. That the stage-1 deadline counts from the whole second of the
notice is the model's inference (log entry 13). -/
def Obligations.RaiseMayBeHeldBack : Prop :=
  ∀ (s : State) (m : NoticeFields) (r : TagRec) (p : Priority) (x : Nat), s.running = true → s.EntriesSound →
    s.plant.link = .up ∨ s.plant.link = .resync → s.plant.expected = some x → m.seq = (x + 1) % 65536 → m.tag ≤ 4095 → m.cond ≤ 7 →
    s.tagRec? m.tag = some r → (∀ q, r.parent = some q → q.1 ≠ m.tag) →
    r.prio m.cond = some p → s.inService r.area = true → s.entryOf? m.tag m.cond = none →
    (∀ n k o, s.freeEntry? = some n → s.override? .shelve m.tag = some (k, o) →
      ∃ t, exec (.alarmNoticeRaise m) s = .next t ∧
        t.entry? n = some ⟨some m.tag, some m.cond, r.area, p, p, true, some ⟨s.time.mill, o.holder⟩, .shelved, m.time,
          none, 1, 0, false, true, .none⟩ ∧ (∀ j, j ≠ n → t.entry? j = s.entry? j) ∧
        Touches (([.plantHeard, .plantMark, .plantExpected, .entries] : List Part) ++ endParts) s.fresh t) ∧
    (∀ n, s.freeEntry? = some n → s.override? .shelve m.tag = none → s.suppressed m.tag = true →
      ∃ t, exec (.alarmNoticeRaise m) s = .next t ∧
        t.entry? n = some ⟨some m.tag, some m.cond, r.area, p, p, true, none, .suppressed, m.time, none, 1, 0, false,
          true, .none⟩ ∧ (∀ j, j ≠ n → t.entry? j = s.entry? j) ∧
        Touches (([.plantHeard, .plantMark, .plantExpected, .entries] : List Part) ++ endParts) s.fresh t) ∧
    (∀ n, s.freeEntry? = some n → s.override? .shelve m.tag = none → s.suppressed m.tag = false →
      s.flooded r.area = true → p.value ≤ (s.areaRec r.area).cut.value → s.flood.deferred.length < 256 →
      ∃ t, exec (.alarmNoticeRaise m) s = .next t ∧
        t.entry? n = some ⟨some m.tag, some m.cond, r.area, p, p, true, none, .deferred, m.time, none, 1, 0, false,
          true, .none⟩ ∧ (∀ j, j ≠ n → t.entry? j = s.entry? j) ∧
        t.flood.deferred = s.flood.deferred ++ [⟨⟨n, s.gen n⟩, r.area⟩] ∧
        Touches (([.plantHeard, .plantMark, .plantExpected, .entries, .deferred] : List Part) ++ endParts) s.fresh t) ∧
    (∀ n, s.freeEntry? = some n → s.override? .shelve m.tag = none → s.suppressed m.tag = false →
      s.flooded r.area = true → p.value ≤ (s.areaRec r.area).cut.value → 256 ≤ s.flood.deferred.length →
      ∃ t e, exec (.alarmNoticeRaise m) s = .next t ∧
        t.entry? n = some ⟨some m.tag, some m.cond, r.area, p, p, true, none, .annunciated, m.time, none, 1, 0, false,
          true, .none⟩ ∧ (∀ j, j < 512 → j ≠ n → t.entry? j = s.entry? j) ∧
        (t.annRec n).deadline = some (s.secondsAhead ((s.areaRec r.area).stage1Time p), 1) ∧
        t.load r.area = (if m.resync then s.load r.area else min (s.load r.area + p.weight) 65535) ∧
        (∀ a, a ≠ r.area → t.load a = s.load a) ∧
        t.flood.overflows.getD r.area 0 = min (s.flood.overflows.getD r.area 0 + 1) 65535 ∧
        (∀ a, a ≠ r.area → t.flood.overflows.getD a 0 = s.flood.overflows.getD a 0) ∧ t.flood.overflow = true ∧
        t.flood.subject = (if s.flood.overflow then s.flood.subject.ins r.area else [r.area]) ∧
        t.entry? 515 = some e ∧ e.active = true ∧ e.subject = .areas t.flood.subject ∧
        Touches (([.plantHeard, .plantMark, .plantExpected, .load, .overflow, .overflowSubject, .overflows,
          .handover] : List Part) ++ sysParts ++ endParts) s.fresh t) ∧
    (s.freeEntry? = none →
      ∃ t e, exec (.alarmNoticeRaise m) s = .next t ∧ (∀ j, j < 512 → t.entry? j = s.entry? j) ∧
        t.alarm.dropped.getD r.area 0 = min (s.alarm.dropped.getD r.area 0 + 1) 65535 ∧
        (∀ a, a ≠ r.area → t.alarm.dropped.getD a 0 = s.alarm.dropped.getD a 0) ∧ t.alarm.tableFull = true ∧
        t.entry? 514 = some e ∧ e.active = true ∧ t.alarm.unitAlarm = true ∧
        (s.alarm.tableFull = false → e.subject = .areas [r.area]) ∧
        (∀ f l, s.alarm.tableFull = true → s.entry? 514 = some f → f.subject = .areas l →
          e.subject = .areas (l.ins r.area) ∧ e.raiseCount = min (f.raiseCount + 1) 255) ∧
        Touches (([.plantHeard, .plantMark, .plantExpected, .dropped, .tableFull] : List Part) ++ sysParts ++ endParts)
          s.fresh t)

/-- R51, R59: a RETURN in sequence over an UP link or in RESYNC makes an ACTIVE UNACKED entry that is ANNUNCIATED or DEFERRED
RETURNED, and removes one that is ACKED or SUPPRESSED, its generation going up by one. R52, R53: where the entry leaves ACTIVE,
every ACTIVE SUPPRESSED entry, in service, of a tag that names its tag as parent and has no other ACTIVE parent entry in its
mask is decided again: SHELVED and ACKED by the holder under a shelf, and otherwise UNACKED at its configured priority and
stage 0, DEFERRED or ANNUNCIATED with a stage-1 deadline; ANNUNCIATED above the flood cut and in an area that is not flooded,
the weight being added. No other ordinary entry changes. R51, R46: a RETURN of a RETURNED entry is counted as a duplicate and
clears its stale flag. That the deadline counts from the whole second of the notice is the model's inference (log entry 13). -/
def Obligations.ReturnEndsActiveEntry : Prop :=
  ∀ (s : State) (m : NoticeFields) (r : TagRec) (p : Priority) (n x : Nat) (e : Entry), s.running = true →
    s.EntriesSound → s.plant.link = .up ∨ s.plant.link = .resync → s.plant.expected = some x →
    m.seq = (x + 1) % 65536 → m.tag ≤ 4095 → m.cond ≤ 7 → s.tagRec? m.tag = some r → r.prio m.cond = some p →
    s.inService r.area = true → n < 512 → s.entryOf? m.tag m.cond = some (n, e) → s.entry? n = some e →
    let freed (c : Nat) (f : Entry) : Prop :=
      c < 512 ∧ c ≠ n ∧ f.active = true ∧ f.disp = .suppressed ∧ s.inService f.area = true ∧
        ∃ g q mask, f.tag = some g ∧ s.tagRec? g = some q ∧ q.parent = some (m.tag, mask) ∧
          ∀ b ∈ s.alarm.entries, b.1 ≠ n → b.2.active = true → b.2.tag = some m.tag →
            ∀ k, b.2.cond = some k → mask.getLsbD k = false
    let departed (t : State) : Prop :=
      (∀ c f, s.entry? c = some f → freed c f →
        let again : Entry := { f with ack := none, cur := f.cfg, stage := 0 }
        (∀ k o, f.tag.bind (s.override? .shelve) = some (k, o) →
          t.entry? c = some { again with disp := .shelved, ack := some ⟨s.time.mill, o.holder⟩ }) ∧
        (f.tag.bind (s.override? .shelve) = none →
          (t.entry? c = some { again with disp := .deferred } ∧ t.flooded f.area = true ∧
              f.cfg.value ≤ (s.areaRec f.area).cut.value ∧ ⟨⟨c, s.gen c⟩, f.area⟩ ∈ t.flood.deferred) ∨
            (t.entry? c = some { again with disp := .annunciated } ∧
              (t.annRec c).deadline = some (s.secondsAhead ((s.areaRec f.area).stage1Time f.cfg), 1) ∧
              ((∀ c' f', s.entry? c' = some f' → freed c' f' → f'.area = f.area → c' = c) →
                t.load f.area = min (s.load f.area + f.cfg.weight) 65535)))) ∧
      (∀ c f, c < 512 → c ≠ n → s.entry? c = some f → ¬ freed c f → t.entry? c = some f)
    (e.active = true → e.ack = none → e.disp = .annunciated ∨ e.disp = .deferred →
      ∃ t, exec (.alarmNoticeReturn m) s = .next t ∧
        t.entry? n = some { e with active := false, returnTime := some m.time, stale := false } ∧ t.gen n = s.gen n ∧
        departed t ∧
        Touches (([.plantHeard, .plantMark, .plantExpected] : List Part) ++ alarmParts ++ endParts) s.fresh t) ∧
    (e.active = true → e.ack.isSome = true ∨ e.disp = .suppressed →
      ∃ t, exec (.alarmNoticeReturn m) s = .next t ∧ t.entry? n = none ∧ t.gen n = (s.gen n + 1) % 65536 ∧
        departed t ∧
        Touches (([.plantHeard, .plantMark, .plantExpected] : List Part) ++ alarmParts ++ endParts) s.fresh t) ∧
    (e.active = false →
      ∃ t, exec (.alarmNoticeReturn m) s = .next t ∧ t.entry? n = some { e with stale := false } ∧
        (∀ j, j ≠ n → t.entry? j = s.entry? j) ∧ t.plant.expected = some m.seq ∧
        t.alarm.duplicates.getD e.area 0 = min (s.alarm.duplicates.getD e.area 0 + 1) 65535 ∧
        (∀ a, a ≠ e.area → t.alarm.duplicates.getD a 0 = s.alarm.duplicates.getD a 0) ∧
        Touches (([.plantHeard, .plantMark, .plantExpected, .entries, .duplicates] : List Part) ++ endParts)
          s.fresh t)

/-- R57 with R59, R62, R94: an ACK of an ACTIVE ordinary entry by a responsible operator makes it ACKED; it leaves every stack,
has no route, silence or deadline, and, if it was DEFERRED, leaves the Deferred List and becomes ANNUNCIATED without
weight. R94, R102: of an entry at stage 2 the overdue count falls by one, and OVERDUE ALARM is updated with it or, at 0,
returned; of any other neither changes. An ACK of a RETURNED one removes it; its generation goes up by one, and every UP station is sent ANNOUNCE (removed)
unless the entry was DEFERRED. R55, R56: an operator of SUPERVISOR role is responsible for every system alarm, and no other
operator is for any: the ACK makes an ACTIVE one ACKED and frees a RETURNED one, without a relay. -/
def Obligations.AckAcknowledgesOrRemoves : Prop :=
  (∀ (s : State) (h : Hdr) (r : Ref) (e : Entry) (op tag cond : Nat), Taken s h → s.logonAt h.station = some op →
      r.num < 512 → s.entry? r.num = some e → s.gen r.num = r.gen → e.tag = some tag → e.cond = some cond →
      e.ack = none → e.active = true → (arrived s h).responsible op h.station e = true →
      ∃ t, exec (.ack h r 0) s = .next t ∧
        t.entry? r.num = some { e with
          ack := some ⟨s.time.mill, op⟩, disp := if e.disp = .deferred then .annunciated else e.disp } ∧
        t.annRec r.num = ⟨[], [], none⟩ ∧ (∀ st, 1 ≤ st → st ≤ 16 → r.num ∉ t.stack st) ∧
        (e.disp = .deferred → ∀ d ∈ t.flood.deferred, d.ref.num ≠ r.num) ∧ (e.stage = 2 → OverdueFell s t) ∧
        (e.stage ≠ 2 → t.ann.overdue = s.ann.overdue ∧ t.entry? 518 = s.entry? 518) ∧
        (∀ j, j < 512 → j ≠ r.num → t.entry? j = s.entry? j) ∧
        (∀ q, s.tagRec? tag = some q → q.ackRelay = true → s.plant.link ≠ .start → s.plant.link ≠ .lost →
          .plant (.ackRelay tag cond (s.badgeOf op) s.time.mill) ∈ t.sent) ∧
        Answered t h (ans .done) ∧
        Touches (([.entries, .recs, .attnStacks, .overdue, .deferred, .release, .overflow, .overflowSubject, .handover,
          .countersB, .said .relay, .said .answer] : List Part) ++ endParts) (arrived s h) t) ∧
  (∀ (s : State) (h : Hdr) (r : Ref) (e : Entry) (op tag cond : Nat), Taken s h → s.logonAt h.station = some op →
      r.num < 512 → s.entry? r.num = some e → s.gen r.num = r.gen → e.tag = some tag → e.cond = some cond →
      e.ack = none → e.active = false → (arrived s h).responsible op h.station e = true →
      ∃ t, exec (.ack h r 0) s = .next t ∧ t.entry? r.num = none ∧ t.gen r.num = (r.gen + 1) % 65536 ∧
        (e.stage = 2 → OverdueFell s t) ∧
        (e.stage ≠ 2 → t.ann.overdue = s.ann.overdue ∧ t.entry? 518 = s.entry? 518) ∧
        (∀ st, 1 ≤ st → st ≤ 16 → r.num ∉ t.stack st) ∧ (∀ j, j < 512 → j ≠ r.num → t.entry? j = s.entry? j) ∧
        (e.hidden = false → ∀ st, 1 ≤ st → st ≤ 16 → (arrived s h).isUp st = true →
          s.outTo st (.announce ⟨r, true, { e with ack := some ⟨s.time.mill, op⟩, confirmed := false }⟩) ∈ t.sent) ∧
        Answered t h (ans .done) ∧
        Touches (([.entries, .gens, .tableFull, .recs, .attnStacks, .overdue, .deferred, .release, .overflow,
          .overflowSubject, .handover, .countersB, .said .relay, .said .answer] : List Part) ++ endParts)
            (arrived s h) t) ∧
  (∀ (s : State) (h : Hdr) (n : Nat) (e : Entry) (op : Nat), Taken s h → s.logonAt h.station = some op →
      512 ≤ n → n ≤ 520 → (arrived s h).entry? n = some e → e.tag = none → e.disp = .annunciated → e.ack = none →
      (s.isSupervisorRole op = true → e.active = true →
        ∃ t, exec (.ack h ⟨n, 0⟩ 0) s = .next t ∧ t.entry? n = some { e with ack := some ⟨s.time.mill, op⟩ } ∧
          t.annRec n = ⟨[], [], none⟩ ∧ (∀ st, 1 ≤ st → st ≤ 16 → n ∉ t.stack st) ∧
          (∀ j, j ≠ n → t.entry? j = (arrived s h).entry? j) ∧ Answered t h (ans .done) ∧
          Touches (([.entries, .recs, .attnStacks, .said .answer] : List Part) ++ endParts) (arrived s h) t) ∧
      (s.isSupervisorRole op = true → e.active = false →
        ∃ t, exec (.ack h ⟨n, 0⟩ 0) s = .next t ∧ t.entry? n = none ∧
          (∀ st, 1 ≤ st → st ≤ 16 → n ∉ t.stack st) ∧ (∀ j, j ≠ n → t.entry? j = (arrived s h).entry? j) ∧
          (∀ st, 1 ≤ st → st ≤ 16 → (arrived s h).isUp st = true →
            s.outTo st (.announce ⟨⟨n, 0⟩, true, { e with ack := some ⟨s.time.mill, op⟩, confirmed := false }⟩)
              ∈ t.sent) ∧
          Answered t h (ans .done) ∧
          Touches (([.entries, .recs, .attnStacks, .said .answer] : List Part) ++ endParts) (arrived s h) t) ∧
      (s.isSupervisorRole op = false →
        ∃ t, exec (.ack h ⟨n, 0⟩ 0) s = .next t ∧ Answered t h (ans .notResponsible) ∧
          Touches [.said .answer] (arrived s h) t))

/-- R60, R61, R177: SERVICE OUT removes every ordinary entry of the area, sets its load to 0, clears its flood flag and stops
its release timer. SERVICE IN asks for the area's resync unless the plant link is in START or LOST, with a new resync
number in UP (and in DEGRADED from UP) and the number under way in RESYNC (and in DEGRADED from RESYNC), and waits for a new
sequence base. Every UP station is told of either. -/
def Obligations.ServiceTakesAreaOutAndIn : Prop :=
  (∀ (s : State) (h : Hdr) (area : Nat), Taken s h → 1 ≤ area → area ≤ 12 → s.maySetService h.station = true →
      s.inService area = true →
      ∃ t, exec (.serviceOut h area 0) s = .next t ∧ t.inService area = false ∧
        (∀ a, a ≠ area → t.inService a = s.inService a) ∧
        (∀ n e, n < 512 → t.entry? n = some e → e.area ≠ area) ∧ t.load area = 0 ∧ t.flooded area = false ∧
        t.flood.release.look area = none ∧ t.isOrphan area = false ∧
        (∀ st, 1 ≤ st → st ≤ 16 → (arrived s h).isUp st = true →
          s.outTo st (.notice (.service area false)) ∈ t.sent) ∧
        Answered t h (ans .done (s.entriesOfArea area).length) ∧
        Touches (([.outAreas, .said .answer] : List Part) ++ alarmParts ++ coverParts ++ endParts) (arrived s h) t) ∧
  (∀ (s : State) (h : Hdr) (area : Nat), Taken s h → 1 ≤ area → area ≤ 12 → s.maySetService h.station = true →
      s.inService area = false →
      ∃ t, exec (.serviceIn h area 0) s = .next t ∧ t.inService area = true ∧
        (∀ a, a ≠ area → t.inService a = s.inService a) ∧
        (s.plant.link = .start ∨ s.plant.link = .lost → t.plant = s.plant) ∧
        (s.plant.link ≠ .start → s.plant.link ≠ .lost →
          t.plant.expected = none ∧ .plant (.resyncRequest area t.plant.resync) ∈ t.sent ∧
          t.plant.resync = (if s.plant.link = .resync ∨ (s.plant.link = .degraded ∧ s.plant.ret = true)
            then s.plant.resync else (s.plant.resync + 1) % 65536)) ∧
        (∀ st, 1 ≤ st → st ≤ 16 → (arrived s h).isUp st = true →
          s.outTo st (.notice (.service area true)) ∈ t.sent) ∧
        Answered t h (ans .done) ∧
        Touches (([.outAreas, .plantResync, .plantExpected, .said .resync,
          .said .answer] : List Part) ++ coverParts ++ endParts)
          (arrived s h) t)

/-! ### Flood and annunciation -/

/-- R68 with the exit test of R67 and R69: a load above 0 falls by floor(L × D / 4096) + 1, not below 0; a load of 0 stays; a
flooded area whose load has come down to its flood-off threshold stops being flooded, its release timer starting where it has
entries on the Deferred List; no other release timer changes. That the event acts at any unit time at which it is commanded,
whole second or not, is the model's choice (log entry 15), and that the timer counts from the whole second its inference (13). -/
def Obligations.DecayLowersLoad : Prop :=
  ∀ (s : State) (a : Nat), s.running = true →
    (s.load a = 0 → exec (.decayEvent a) s = .next s.fresh) ∧
    (0 < s.load a →
      ∃ t, exec (.decayEvent a) s = .next t ∧
        t.load a = s.load a - (s.load a * (s.areaRec a).decay / 4096 + 1) ∧ t.load a < s.load a ∧
        (∀ b, b ≠ a → t.load b = s.load b) ∧
        t.flooded a = (s.flooded a && decide ((s.areaRec a).floodOff < t.load a)) ∧
        (∀ b, b ≠ a → t.flooded b = s.flooded b) ∧
        t.flood.release.look a = (if s.flooded a = true ∧ t.flooded a = false ∧ s.deferredOf a ≠ [] then
          some (s.secondsAhead (s.areaRec a).release) else s.flood.release.look a) ∧
        (∀ b, b ≠ a → t.flood.release.look b = s.flood.release.look b) ∧
        Touches (([.load, .flooded, .release] : List Part) ++ endParts) s.fresh t)

/-- R78: an expiry of an area's release timer takes the area's oldest deferred entry off the list, the clearing test of R74
being applied: it becomes ANNUNCIATED, its weight is added and its stage-1 deadline is set. An area so brought to its
flood-on threshold is flooded, every UP station is told, and the timer stops; otherwise the timer runs for another release
interval while the area has deferred entries, and stops when it has none. No other area's flag or timer changes. That the
timer counts from the whole second is the model's inference (log entry 13). -/
def Obligations.ReleaseTimerReleasesOldest : Prop :=
  ∀ (s : State) (a : Nat) (d : DeferredItem) (rest : List DeferredItem) (e : Entry), s.running = true →
    s.releaseDue a = true → s.deferredOf a = d :: rest → s.entry? d.ref.num = some e → d.ref.num < 512 →
    e.tag.isSome = true → e.ack = none → e.area = a →
    (∀ y ∈ s.flood.deferred, y.ref.num = d.ref.num → y = d) →
    ∃ t, exec (.releaseTimerExpiry a) s = .next t ∧ t.entry? d.ref.num = some { e with disp := .annunciated } ∧
      (t.annRec d.ref.num).deadline = some (s.secondsAhead ((s.areaRec a).stage1Time e.cur), 1) ∧
      t.load a = min (s.load a + e.cur.weight) 65535 ∧
      t.flood.deferred = s.flood.deferred.filter (fun x => decide (x.ref.num ≠ d.ref.num)) ∧
      t.flood.overflow = (s.flood.overflow && decide (192 < t.flood.deferred.length)) ∧
      t.flooded a = (s.flooded a || decide ((s.areaRec a).floodOn ≤ t.load a)) ∧
      (s.flooded a = false → t.flooded a = true → ∀ st, 1 ≤ st → st ≤ 16 → s.isUp st = true →
        s.outTo st (.notice (.flood a true (t.load a))) ∈ t.sent) ∧
      (s.flooded a = false → t.flood.release.look a =
        if t.flooded a = true ∨ t.deferredOf a = [] then none else some (s.secondsAhead (s.areaRec a).release)) ∧
      (∀ b, b ≠ a → t.load b = s.load b ∧ t.flooded b = s.flooded b ∧
        t.flood.release.look b = s.flood.release.look b) ∧
      (∀ j, j < 512 → j ≠ d.ref.num → t.entry? j = s.entry? j) ∧
      Touches (([.entries, .recs, .attnStacks, .load, .flooded, .release, .deferred, .overflow, .overflowSubject,
        .handover, .said .notice] : List Part) ++ endParts) s.fresh t

/-- R96, R97: SILENCE TOP takes the top alarm out of the station's stack and puts the station in the alarm's silenced-station
set; its route and deadline and every other station's stack stay, and refill may push one alarm. SILENCE ALL empties the
station's stack and its waiting set, every alarm of both being silenced there. -/
def Obligations.SilenceQuietsStation : Prop :=
  (∀ (s : State) (h : Hdr) (r : Ref), Taken s h → s.RoutesStand → s.WithinCapacity →
      (s.logonAt h.station).isSome = true → r.num ≤ 520 → (arrived s h).current r = true →
      (arrived s h).top? h.station = some r.num →
      ∃ t, exec (.silenceTop h r 0) s = .next t ∧
        t.annRec r.num = { (arrived s h).annRec r.num with
          silenced := ((arrived s h).annRec r.num).silenced.ins h.station } ∧
        (∀ m, m ≠ r.num → t.annRec m = (arrived s h).annRec m) ∧
        (∃ l, l.length ≤ 1 ∧ r.num ∉ l ∧
          t.stack h.station = ((arrived s h).stack h.station).filter (fun m => decide (m ≠ r.num)) ++ l) ∧
        (∀ st, st ≠ h.station → t.stack st = (arrived s h).stack st) ∧ Answered t h (ans .done 1) ∧
        Touches [.recs, .attnStacks, .shown, .unitAlarm, .said .attention, .said .answer] (arrived s h) t) ∧
  (∀ (s : State) (h : Hdr), Taken s h → s.RoutesStand → (s.logonAt h.station).isSome = true →
      (arrived s h).audible h.station ≠ [] →
      ∃ t, exec (.silenceAll h 0) s = .next t ∧ t.stack h.station = [] ∧ t.waiting h.station = [] ∧
        (∀ n ∈ (arrived s h).audible h.station, h.station ∈ (t.annRec n).silenced) ∧
        (∀ st, st ≠ h.station → t.stack st = (arrived s h).stack st) ∧
        Answered t h
          (ans .done ((arrived s h).stack h.station ++ ((arrived s h).waiting h.station).map Prod.fst).length) ∧
        Touches [.recs, .attnStacks, .shown, .unitAlarm, .said .attention, .said .answer] (arrived s h) t)

/-- R100, R101, R102: at its stage-1 deadline an entry goes to stage 1, one priority step up (URGENT stays), its silence is
cleared and its stage-2 deadline set. At its stage-2 deadline an ordinary entry is overdue: stage 2, no deadline, the
overdue count one higher, and OVERDUE ALARM raised with the count. That the stage-2 deadline counts from the whole second of
the expiry is the model's inference (log entry 13). -/
def Obligations.DeadlinesEscalate : Prop :=
  (∀ (s : State) (n : Nat) (e : Entry), s.running = true → s.deadlineDue n 1 = true → s.entry? n = some e →
      ∃ t, exec (.stage1Expiry n) s = .next t ∧ t.entry? n = some { e with stage := 1, cur := e.cfg.raise } ∧
        (t.annRec n).silenced = [] ∧
        (t.annRec n).deadline = some (s.secondsAhead (s.areaRec e.area).stage2, 2) ∧
        (∀ j, j ≠ n → t.entry? j = s.entry? j) ∧
        Touches (([.entries, .recs, .attnStacks, .handover] : List Part) ++ endParts) s.fresh t) ∧
  (∀ (s : State) (n : Nat) (e : Entry), s.running = true → n < 512 → s.deadlineDue n 2 = true → s.entry? n = some e →
      ∃ t x, exec (.stage2Expiry n) s = .next t ∧ t.entry? n = some { e with stage := 2 } ∧
        (t.annRec n).deadline = none ∧ t.ann.overdue = s.ann.overdue + 1 ∧ t.entry? 518 = some x ∧ x.active = true ∧
        x.subject = .count (s.ann.overdue + 1) ∧ (∀ j, j ≠ n → j ≠ 518 → t.entry? j = s.entry? j) ∧
        Touches (([.overdue] : List Part) ++ sysParts ++ endParts) s.fresh t)

/-! ### Overrides -/

/-- R108, R109, R113: a SHELVE that places a shelf: the entry's fields, the granted duration, and what the shelf does to the
tag's alarm entries: an ANNUNCIATED ACKED one keeps its acknowledgement, every other ACTIVE one is ACKED by the holder. A
BYPASS that places a bypass changes no alarm entry. R118: every UP station is sent NOTICE OVERRIDE of either placing. That the
expiry counts from the whole second of the request (log entry 13), and so that the seconds remaining in NOTICE OVERRIDE are
exactly the granted duration (log entry 19), are the model's inferences. -/
def Obligations.OverrideIsPlaced : Prop :=
  (∀ (s : State) (h : Hdr) (tag duration reason op n : Nat) (r : TagRec), Taken s h → s.EntriesSound → tag ≤ 4095 →
      s.tagRec? tag = some r → s.logonAt h.station = some op → 2 ≤ s.levelOf op r.area →
      s.overrideRight op h.station r.area = true → r.shelvable = true → s.override? .shelve tag = none →
      s.freeOverride? = some n →
      let granted := max 60 (min duration (s.areaRec r.area).shelveMax)
      ∃ t, exec (.shelve h tag duration reason 0) s = .next t ∧
        t.overrides.look n = some ⟨.shelve, tag, op, h.station, s.now, s.time.mill, s.secondsAhead granted, reason⟩ ∧
        (∀ j, j ≠ n → t.overrides.look j = s.overrides.look j) ∧
        (∀ j e, j < 512 → s.entry? j = some e → e.tag = some tag →
          t.entry? j = if e.active then
            some { e with
              disp := .shelved
              ack := some (if e.disp = .annunciated then e.ack.getD ⟨s.time.mill, op⟩ else ⟨s.time.mill, op⟩) }
            else none) ∧
        (∀ j e, j < 512 → s.entry? j = some e → e.tag ≠ some tag → t.entry? j = some e) ∧
        (∀ st, 1 ≤ st → st ≤ 16 → (arrived s h).isUp st = true →
          s.outTo st (.notice (.override .placed .shelve tag (s.badgeOf op) h.station granted reason)) ∈ t.sent) ∧
        Answered t h (if granted = duration then ans .done granted else ans .clamped granted) ∧
        Touches (([.overrides, .entries, .gens, .tableFull, .recs, .attnStacks, .overdue, .deferred, .release, .overflow,
          .overflowSubject, .handover, .said .answer] : List Part) ++ endParts) (arrived s h) t) ∧
  (∀ (s : State) (h : Hdr) (tag duration reason op n : Nat) (r : TagRec), Taken s h → tag ≤ 4095 →
      s.tagRec? tag = some r → s.logonAt h.station = some op → 3 ≤ s.levelOf op r.area →
      s.overrideRight op h.station r.area = true → s.override? .bypass tag = none → s.freeOverride? = some n →
      let granted := max 60 (min duration (s.areaRec r.area).bypassMax)
      ∃ t, exec (.bypass h tag duration reason 0) s = .next t ∧
        t.overrides.look n = some ⟨.bypass, tag, op, h.station, s.now, s.time.mill, s.secondsAhead granted, reason⟩ ∧
        (∀ j, j ≠ n → t.overrides.look j = s.overrides.look j) ∧
        (∀ st, 1 ≤ st → st ≤ 16 → (arrived s h).isUp st = true →
          s.outTo st (.notice (.override .placed .bypass tag (s.badgeOf op) h.station granted reason)) ∈ t.sent) ∧
        Answered t h (if granted = duration then ans .done granted else ans .clamped granted) ∧
        Touches [.overrides, .handover, .recs, .attnStacks, .shown, .unitAlarm, .said .attention, .said .notice,
          .said .answer] (arrived s h) t)

/-- R108, R113: a SHELVE or BYPASS of a tag that carries one already renews it: holder, station, expiry and reason are the
request's, the placed time is kept, and no alarm entry changes. R118: every UP station is sent NOTICE OVERRIDE. That the expiry
counts from the whole second of the request (log entry 13), and so that the seconds remaining in NOTICE OVERRIDE are exactly
the granted duration (log entry 19), are the model's inferences. -/
def Obligations.OverrideIsRenewed : Prop :=
  ∀ (s : State) (h : Hdr) (k : OverrideKind) (tag duration reason op n : Nat) (o : Override) (r : TagRec), Taken s h →
    tag ≤ 4095 → s.tagRec? tag = some r → s.logonAt h.station = some op →
    State.overrideLevel k ≤ s.levelOf op r.area → s.overrideRight op h.station r.area = true →
    (k = .shelve → r.shelvable = true) → s.override? k tag = some (n, o) →
    let granted := max 60 (min duration (s.overrideMax k r.area))
    ∃ t, exec (match k with
        | .shelve => .shelve h tag duration reason 0
        | .bypass => .bypass h tag duration reason 0) s = .next t ∧
      t.overrides.look n = some { o with
        holder := op, station := h.station, expiry := s.secondsAhead granted, reason := reason } ∧
      (∀ j, j ≠ n → t.overrides.look j = s.overrides.look j) ∧
      (∀ st, 1 ≤ st → st ≤ 16 → (arrived s h).isUp st = true →
        s.outTo st (.notice (.override .renewed k tag (s.badgeOf op) h.station granted reason)) ∈ t.sent) ∧
      Answered t h (ans .renewed granted) ∧
      Touches [.overrides, .recs, .attnStacks, .shown, .unitAlarm, .said .attention, .said .notice, .said .answer]
        (arrived s h) t

/-- R111, R112, R115: an UNSHELVE by the holder, the owner's station or a key supervisor ends the shelf; every ACTIVE entry of
the tag is decided again, UNACKED at its configured priority and stage 0. An UNBYPASS by one of them frees the bypass and
changes no alarm entry. R118: every UP station is sent NOTICE OVERRIDE, ended and removed, with 0 seconds remaining. -/
def Obligations.OverrideIsLifted : Prop :=
  (∀ (s : State) (h : Hdr) (tag op n : Nat) (o : Override) (r : TagRec), Taken s h → tag ≤ 4095 →
      s.tagRec? tag = some r → s.logonAt h.station = some op → s.override? .shelve tag = some (n, o) →
      s.mayEnd o op h.station r.area = true →
      ∃ t, exec (.unshelve h tag 0) s = .next t ∧ t.overrides.look n = none ∧
        (∀ j, j ≠ n → t.overrides.look j = s.overrides.look j) ∧
        (∀ j e, j < 512 → s.entry? j = some e → e.tag = some tag → e.active = true →
          ∃ e', t.entry? j = some e' ∧ e'.ack = none ∧ e'.cur = e.cfg ∧ e'.stage = 0 ∧ e'.disp ≠ .shelved ∧
            e'.active = true) ∧
        (∀ j e, j < 512 → s.entry? j = some e → e.tag ≠ some tag → t.entry? j = some e) ∧
        (∀ st, 1 ≤ st → st ≤ 16 → (arrived s h).isUp st = true → s.outTo st
          (.notice (.override .endedRemoved .shelve tag (s.badgeOf o.holder) o.station 0 o.reason)) ∈ t.sent) ∧
        Answered t h (ans .done (s.shelvedActive tag).length) ∧
        Touches (([.overrides, .said .answer] : List Part) ++ alarmParts ++ endParts) (arrived s h) t) ∧
  (∀ (s : State) (h : Hdr) (tag op n : Nat) (o : Override) (r : TagRec), Taken s h → tag ≤ 4095 →
      s.tagRec? tag = some r → s.logonAt h.station = some op → s.override? .bypass tag = some (n, o) →
      s.mayEnd o op h.station r.area = true →
      ∃ t, exec (.unbypass h tag 0) s = .next t ∧ t.overrides.look n = none ∧
        (∀ j, j ≠ n → t.overrides.look j = s.overrides.look j) ∧
        (∀ st, 1 ≤ st → st ≤ 16 → (arrived s h).isUp st = true → s.outTo st
          (.notice (.override .endedRemoved .bypass tag (s.badgeOf o.holder) o.station 0 o.reason)) ∈ t.sent) ∧
        Answered t h (ans .done) ∧
        Touches [.overrides, .handover, .recs, .attnStacks, .shown, .unitAlarm, .said .attention, .said .notice,
          .said .answer] (arrived s h) t)

/-- R116, R112: an override entry that has come to its expiry is freed and every UP station is told. The expiry of a shelf
decides every ACTIVE entry of the tag again, UNACKED at its configured priority and stage 0 and no more SHELVED, and no
ordinary entry of another tag; the expiry of a bypass changes no alarm entry. -/
def Obligations.OverrideExpires : Prop :=
  ∀ (s : State) (n : Nat) (o : Override), s.running = true → s.overrides.look n = some o → o.expiry ≤ s.now →
    ∃ t, exec (.overrideExpiry n) s = .next t ∧ t.overrides.look n = none ∧
      (∀ j, j ≠ n → t.overrides.look j = s.overrides.look j) ∧
      (∀ st, 1 ≤ st → st ≤ 16 → s.isUp st = true →
        s.outTo st (.notice (.override .endedExpired o.kind o.tag (s.badgeOf o.holder) o.station 0 o.reason))
          ∈ t.sent) ∧
      (o.kind = .shelve →
        (∀ j e, j < 512 → s.entry? j = some e → e.tag = some o.tag → e.active = true →
          ∃ e', t.entry? j = some e' ∧ e'.ack = none ∧ e'.cur = e.cfg ∧ e'.stage = 0 ∧ e'.disp ≠ .shelved ∧
            e'.active = true) ∧
        (∀ j e, j < 512 → s.entry? j = some e → e.tag ≠ some o.tag → t.entry? j = some e)) ∧
      (o.kind = .bypass → Touches [.overrides, .handover, .recs, .attnStacks, .shown, .unitAlarm, .said .attention,
        .said .notice] s.fresh t) ∧
      Touches (([.overrides] : List Part) ++ alarmParts ++ endParts) s.fresh t

/-! ### The Command Gate -/

/-- R122, R127, R128, R141: a COMMAND that passes every check and does not wait for a countersignature takes the ticket the
counter names, is FORWARDED with its reply deadline, and FORWARD is sent. A class-4 COMMAND without the key waits for a
countersignature until the end of its window; every UP station whose operator, another than the originator, holds level 3
in the area is asked; nothing is forwarded. -/
def Obligations.CommandIsForwardedOrWaits : Prop :=
  (∀ (s : State) (h : Hdr) (tag code op : Nat) (act : Action) (value : BitVec 32) (r : TagRec), Taken s h →
      tag ≤ 4095 → s.tagRec? tag = some r → Action.ofCode code = some act → s.logonAt h.station = some op → r.cls ≠ 0 →
      classLevel r.cls ≤ s.levelOf op r.area →
      s.isOwnerStation h.station r.area = true ∨ s.keySupervisor op h.station = true →
      s.plant.link ≠ .lost → s.plant.link ≠ .start → s.isQuiescing r.area = false →
      (∀ p ∈ s.gate.transit, p.2.tag ≠ tag) → s.blocker? r = none → s.gate.transit.length < 32 →
      s.gate.transit.look s.gate.ticket = none → r.cls ≠ 4 ∨ s.keySupervisor op h.station = true →
      ∃ t, exec (.command h tag code value 0) s = .next t ∧
        t.gate.transit.look s.gate.ticket = some ⟨tag, r.area, act, value, op, h.station, none,
          s.keySupervisor op h.station, .forwarded, s.now, s.time.mill, s.now + 10 * r.base, 0, none, none⟩ ∧
        (∀ k, k ≠ s.gate.ticket → t.gate.transit.look k = s.gate.transit.look k) ∧
        .plant (.forward s.gate.ticket tag act value (s.badgeOf op) 0 (s.keySupervisor op h.station) false) ∈ t.sent ∧
        Answered t h (ans .pending s.gate.ticket) ∧
        Touches (([.transit, .ticket, .handover, .said .forward, .said .answer] : List Part) ++ endParts)
          (arrived s h) t) ∧
  (∀ (s : State) (h : Hdr) (tag code op : Nat) (act : Action) (value : BitVec 32) (r : TagRec), Taken s h →
      tag ≤ 4095 → s.tagRec? tag = some r → Action.ofCode code = some act → s.logonAt h.station = some op → r.cls = 4 →
      3 ≤ s.levelOf op r.area → s.isOwnerStation h.station r.area = true → s.keySupervisor op h.station = false →
      s.plant.link ≠ .lost → s.plant.link ≠ .start → s.isQuiescing r.area = false →
      (∀ p ∈ s.gate.transit, p.2.tag ≠ tag) → s.blocker? r = none → s.gate.transit.length < 32 →
      s.gate.transit.look s.gate.ticket = none →
      ∃ t, exec (.command h tag code value 0) s = .next t ∧
        t.gate.transit.look s.gate.ticket = some ⟨tag, r.area, act, value, op, h.station, none, false, .awaiting, s.now,
          s.time.mill, s.now + 100 * (s.areaRec r.area).window, 0, none, none⟩ ∧
        (∀ k, k ≠ s.gate.ticket → t.gate.transit.look k = s.gate.transit.look k) ∧
        (∀ st o, 1 ≤ st → st ≤ 16 → (arrived s h).isUp st = true → s.logonAt st = some o → o ≠ op →
          3 ≤ s.levelOf o r.area →
          s.outTo st (.countersignRequest s.gate.ticket tag r.area act value (s.badgeOf op) h.station
            (1000 * (s.areaRec r.area).window)) ∈ t.sent) ∧
        Answered t h (ans .pending s.gate.ticket) ∧
        Touches (([.transit, .ticket, .handover, .said .countersign, .said .answer] : List Part) ++ endParts)
          (arrived s h) t)

/-- R121: an entry takes a ticket that names no other entry: the counter's value, or where that is in use the next value
that is not; the counter then comes to rest on a value that names no entry. -/
def Obligations.TicketsAreNeverShared : Prop :=
  ∀ (s t : State) (h : Hdr) (tag code rsv k : Nat) (value : BitVec 32), Taken s h → s.WithinCapacity →
    exec (.command h tag code value rsv) s = .next t → Answered t h (ans .pending k) →
    s.gate.transit.look k = none ∧ (t.gate.transit.look k).isSome = true ∧
      (s.gate.transit.look s.gate.ticket = none → k = s.gate.ticket) ∧
      (∃ j, k = nextTicket^[j] s.gate.ticket ∧
        ∀ i, i < j → (s.gate.transit.look (nextTicket^[i] s.gate.ticket)).isSome = true) ∧
      (∃ j, t.gate.ticket = nextTicket^[j + 1] k ∧ t.gate.transit.look t.gate.ticket = none ∧
        ∀ i, i < j → (t.gate.transit.look (nextTicket^[i + 1] k)).isSome = true)

/-- R144: an AGREE by an eligible signer, every originator condition holding, records the countersigner and forwards the
entry with both badges. R149: every UP or LOST station of an operator with level 3 in the area, but for the originating and
the signing one, is sent NOTICE COUNTERSIGN CLOSED, and no other station is. -/
def Obligations.AgreementForwards : Prop :=
  ∀ (s : State) (h : Hdr) (k tag op : Nat) (x : Transit), Taken s h → 1 ≤ k → k ≤ 65535 → tag ≤ 4095 →
    s.logonAt h.station = some op → s.gate.transit.look k = some x → x.tag = tag → x.state = .awaiting →
    op ≠ x.origOp → h.station ≠ x.origStation → 3 ≤ s.levelOf op x.area →
    s.logonAt x.origStation = some x.origOp → 3 ≤ s.levelOf x.origOp x.area →
    s.ownerOf x.area = some (x.origOp, x.origStation) → s.plant.link ≠ .lost → s.plant.link ≠ .start →
    s.isQuiescing x.area = false → (∀ r, s.tagRec? tag = some r → s.blocker? r = none) →
    ∃ t, exec (.countersignAgree h k tag 0) s = .next t ∧
      t.gate.transit.look k = some { x with
        signer := some (op, h.station), state := .forwarded, deadline := s.now + s.baseTime tag } ∧
      (∀ j, j ≠ k → t.gate.transit.look j = s.gate.transit.look j) ∧
      .plant (.forward k tag x.action x.value (s.badgeOf x.origOp) (s.badgeOf op) x.key false) ∈ t.sent ∧
      (∀ st, 1 ≤ st → st ≤ 16 → (s.outTo st (.notice (.countersignClosed k tag .forwarded)) ∈ t.sent ↔
        st ≠ x.origStation ∧ st ≠ h.station ∧ (arrived s h).link st ≠ .absent ∧
          ∃ o, s.logonAt st = some o ∧ 3 ≤ s.levelOf o x.area)) ∧
      Answered t h (ans .done k) ∧
      Touches [.transit, .recs, .attnStacks, .shown, .unitAlarm, .said .attention, .said .notice, .said .forward,
        .said .answer] (arrived s h) t

/-- R134, R137, R143, R144, R146, R147: a waiting entry ends by DECLINE, by WITHDRAW, by the expiry of its window, or by an
AGREE whose re-check of the originator fails: it is freed, nothing is forwarded, and the originating station (for the
failed re-check the signing station too) is sent RESULT with the outcome and its detail. R149: every UP or LOST station of an
operator with level 3 in the area, but for the originating station and the one whose COUNTERSIGN it was, is sent NOTICE
COUNTERSIGN CLOSED with the outcome, and no other station is. -/
def Obligations.WaitingCommandEnds : Prop :=
  ∀ (s : State) (k : Nat) (x : Transit), s.gate.transit.look k = some x → x.state = .awaiting → x.signer = none →
    let ended (u t : State) (outcome : ResultOutcome) (detail st : Nat) : Prop :=
      t.gate.transit.look k = none ∧ (∀ j, j ≠ k → t.gate.transit.look j = s.gate.transit.look j) ∧
        (u.link st ≠ .absent → s.outTo st (.result k x.tag x.action outcome detail s.time.mill) ∈ t.sent)
    let told (u t : State) (outcome : ClosedOutcome) (signer : Option Nat) : Prop :=
      ∀ st, 1 ≤ st → st ≤ 16 → (s.outTo st (.notice (.countersignClosed k x.tag outcome)) ∈ t.sent ↔
        st ≠ x.origStation ∧ signer ≠ some st ∧ u.link st ≠ .absent ∧
          ∃ o, s.logonAt st = some o ∧ 3 ≤ s.levelOf o x.area)
    (∀ h op, Taken s h → 1 ≤ k → k ≤ 65535 → x.tag ≤ 4095 → s.logonAt h.station = some op → op ≠ x.origOp →
      h.station ≠ x.origStation → 3 ≤ s.levelOf op x.area →
      ∃ t, exec (.countersignDecline h k x.tag 0) s = .next t ∧
        ended (arrived s h) t .declined op x.origStation ∧ told (arrived s h) t .declined (some h.station) ∧
        Answered t h (ans .done k) ∧
        Touches (([.transit, .handover, .said .result, .said .answer] : List Part) ++ endParts) (arrived s h) t) ∧
    (∀ h op c, Taken s h → 1 ≤ k → k ≤ 65535 → x.tag ≤ 4095 → s.logonAt h.station = some op → op ≠ x.origOp →
      h.station ≠ x.origStation → 3 ≤ s.levelOf op x.area → s.recheck x = some c →
      ∃ t, exec (.countersignAgree h k x.tag 0) s = .next t ∧
        ended (arrived s h) t .refused c.number x.origStation ∧ told (arrived s h) t .refused (some h.station) ∧
        s.outTo h.station (.result k x.tag x.action .refused c.number s.time.mill) ∈ t.sent ∧
        Answered t h (ans .done k) ∧
        Touches (([.transit, .handover, .said .result, .said .answer] : List Part) ++ endParts) (arrived s h) t) ∧
    (∀ h, Taken s h → 1 ≤ k → k ≤ 65535 → h.station = x.origStation → s.logonAt h.station = some x.origOp →
      ∃ t, exec (.withdraw h k 0) s = .next t ∧
        ended (arrived s h) t .withdrawn WithdrawReason.withdraw.number x.origStation ∧
        told (arrived s h) t .withdrawn none ∧ Answered t h (ans .done k) ∧
        Touches (([.transit, .handover, .said .result, .said .answer] : List Part) ++ endParts) (arrived s h) t) ∧
    (s.running = true → x.deadline ≤ s.now →
      ∃ t, exec (.countersignWindowExpiry k) s = .next t ∧ ended s t .lapsed 0 x.origStation ∧ told s t .lapsed none ∧
        Touches (([.transit, .handover, .said .result] : List Part) ++ endParts) s.fresh t)

/-- R130, R131, R134, R135, R137: a FORWARDED or REPEAT WAIT entry ends by DONE, by REFUSED with the plant code, by a BUSY
after its repeat window, or at its reply deadline: it is freed and its originating station and its countersigner's are
sent RESULT. R134 step 3, R160, R161, R167, R117: where it is the last command in flight of its area, a QUIESCING area
passes to the incoming operator and a TAKING OVER one to the supervisor, who meets the owner conditions; both parties are
sent NOTICE HANDOVER DONE. Where the Authority Unit declines, the owner stays, the area is IDLE and both are sent NOTICE
HANDOVER CLOSED. While others are in flight, or where nothing waits, no area changes hands. How the seconds remaining in
NOTICE OVERRIDE are counted is the model's inference (log entry 19). -/
def Obligations.CommandInFlightEnds : Prop :=
  ∀ (s : State) (k : Nat) (x : Transit), s.running = true → s.gate.transit.look k = some x → x.state ≠ .awaiting →
    let ended (t : State) (outcome : ResultOutcome) (detail : Nat) : Prop :=
      t.gate.transit.look k = none ∧ (∀ j, j ≠ k → t.gate.transit.look j = s.gate.transit.look j) ∧
        ∀ st, st = x.origStation ∨ (∃ op, x.signer = some (op, st)) → s.link st ≠ .absent →
          s.outTo st (.result k x.tag x.action outcome detail s.time.mill) ∈ t.sent
    let heard (t : State) (st : Nat) (n : Notice) : Prop := s.link st ≠ .absent → s.outTo st (.notice n) ∈ t.sent
    let passed (t : State) (kind : TransferKind) (op out outSt inSt : Nat) : Prop :=
      (∀ st, s.ownerConditions op x.area = some st → Transferred s t x.area op st ∧
        ∀ st', st' = outSt ∨ st' = st → heard t st'
          (.handoverDone x.area kind (s.badgeOf out) outSt (s.badgeOf op) st)) ∧
      (s.ownerConditions op x.area = none → (∀ a, t.ownerOf a = s.ownerOf a) ∧ t.hand.look x.area = none ∧
        (∀ a, a ≠ x.area → t.hand.look a = s.hand.look a) ∧
        ∀ st', st' = outSt ∨ st' = inSt → heard t st' (.handoverClosed x.area .transferRefused))
    let settled (t : State) : Prop := s.WithinCapacity →
      (∀ y, s.hand.look x.area = some (.quiescing y) → s.inFlight x.area = [k] →
        passed t .handover y.inOp y.outOp y.outStation y.inStation) ∧
      (∀ y out outSt, s.hand.look x.area = some (.takingOver y) → s.ownerOf x.area = some (out, outSt) →
        s.inFlight x.area = [k] → passed t .takeover y.op out outSt y.station) ∧
      (s.isQuiescing x.area = false ∨ s.inFlight x.area ≠ [k] →
        (∀ a, t.ownerOf a = s.ownerOf a) ∧ t.isQuiescing x.area = s.isQuiescing x.area)
    (∃ t, exec (.replyDone k x.tag) s = .next t ∧ ended t .done 0 ∧ settled t ∧
      Touches (endingParts ++ plantArrivalParts) s.fresh t) ∧
    (∀ c, ∃ t, exec (.replyRefused k x.tag c) s = .next t ∧ ended t .refusedByPlant c ∧ settled t ∧
      Touches (endingParts ++ plantArrivalParts) s.fresh t) ∧
    (∀ w, x.windowEnd = some w → w < s.now →
      ∃ t, exec (.replyBusy k x.tag) s = .next t ∧ ended t .failedPlantBusy 0 ∧ settled t ∧
        t.gate.counters = { s.gate.counters with busy := bump s.gate.counters.busy } ∧
        Touches (Part.countersG :: endingParts ++ plantArrivalParts) s.fresh t) ∧
    (x.deadline ≤ s.now →
      ∃ t, exec (.replyDeadlineExpiry k) s = .next t ∧ ended t .failedNoReply x.extensions ∧ settled t ∧
        t.gate.counters = { s.gate.counters with noReply := bump s.gate.counters.noReply } ∧
        Touches (Part.countersG :: endingParts ++ endParts) s.fresh t)

/-- R131, R132: a BUSY within its window makes a FORWARDED entry REPEAT WAIT for 250 ms, the window ending 2 s after the
first BUSY; in REPEAT WAIT it changes nothing; at the re-send time the entry is FORWARDED again with the repeat flag and
its deadline unchanged. -/
def Obligations.BusyCommandIsRepeated : Prop :=
  ∀ (s : State) (k : Nat) (x : Transit), s.running = true → s.gate.transit.look k = some x →
    (x.state = .forwarded → (∀ w, x.windowEnd = some w → s.now ≤ w) →
      ∃ t, exec (.replyBusy k x.tag) s = .next t ∧
        t.gate.transit.look k = some { x with
          state := .repeatWait, windowEnd := some (x.windowEnd.getD (s.now + 200)), resend := some (s.now + 25),
          deadline := max x.deadline (s.now + 25 + s.baseTime x.tag) } ∧
        (∀ j, j ≠ k → t.gate.transit.look j = s.gate.transit.look j) ∧
        Touches (Part.transit :: plantArrivalParts) s.fresh t) ∧
    (x.state = .repeatWait → (∀ w, x.windowEnd = some w → s.now ≤ w) →
      ∃ t, exec (.replyBusy k x.tag) s = .next t ∧ Touches plantArrivalParts s.fresh t) ∧
    (∀ w, x.state = .repeatWait → x.resend = some w → w ≤ s.now →
      ∃ t, exec (.reSend k) s = .next t ∧
        t.gate.transit.look k = some { x with state := .forwarded, resend := none } ∧
        (∀ j, j ≠ k → t.gate.transit.look j = s.gate.transit.look j) ∧
        .plant (.forward k x.tag x.action x.value (s.badgeOf x.origOp)
          ((x.signer.map (fun y => s.badgeOf y.1)).getD 0) x.key true) ∈ t.sent ∧
        Touches [.transit, .recs, .attnStacks, .shown, .unitAlarm, .said .attention, .said .forward] s.fresh t)

/-- R133: EXTEND n, and HOLD ON as EXTEND 1, grant the smaller of n and what is left of eight extensions, each one base time
of the tag, and none at a count of 8. Nothing else of the entry changes, and no message is sent for it: over an UP link and
in RESYNC only an ATTENTION that was due can be. -/
def Obligations.ExtensionMovesDeadline : Prop :=
  ∀ (s : State) (k n : Nat) (x : Transit), s.running = true → s.gate.transit.look k = some x → x.state ≠ .awaiting →
    1 ≤ n → n ≤ 3 →
    let granted (n : Nat) : Nat := min n (8 - x.extensions)
    let extended (n : Nat) (t : State) : Prop :=
      t.gate.transit.look k = some { x with
        deadline := x.deadline + granted n * s.baseTime x.tag, extensions := x.extensions + granted n } ∧
      (8 ≤ x.extensions → t.gate.transit.look k = some x) ∧
      (∀ j, j ≠ k → t.gate.transit.look j = s.gate.transit.look j) ∧
      (s.plant.link = .up ∨ s.plant.link = .resync →
        Touches [.transit, .plantHeard, .plantMark, .recs, .attnStacks, .shown, .unitAlarm, .said .attention] s.fresh t) ∧
      Touches (Part.transit :: plantArrivalParts) s.fresh t
    (∃ t, exec (.replyExtend k x.tag n) s = .next t ∧ extended n t) ∧
    (∃ t, exec (.replyHoldOn k x.tag) s = .next t ∧ extended 1 t)

/-- R129: a REPLY whose ticket names no entry, or an entry of another tag, or one AWAITING COUNTERSIGN, is late: it is counted
and changes no entry. R176: a notice whose sequence is the last one's again is counted and not handed on; any other out
of sequence is a gap, which is counted and begins a whole-mill resync. R45: a notice in sequence is discarded and counted, and
changes no entry, where the tag's record is absent (as an unknown tag), and where the tag's priority for the condition is
NONE, the tag's area is out of service, or it is a RETURN for a pair with no entry (as discarded in the area). -/
def Obligations.UnmatchedPlantFramesAreCounted : Prop :=
  (∀ (s : State) (k tag : Nat), s.running = true →
      (∀ x, s.gate.transit.look k = some x → x.tag ≠ tag ∨ x.state = .awaiting) →
      ∀ i, (i = .replyDone k tag ∨ (∃ c, i = .replyRefused k tag c) ∨ i = .replyBusy k tag ∨
          (∃ n, 1 ≤ n ∧ n ≤ 3 ∧ i = .replyExtend k tag n) ∨ i = .replyHoldOn k tag) →
        ∃ t, exec i s = .next t ∧
          t.gate.counters = { s.gate.counters with late := bump s.gate.counters.late } ∧
          Touches (Part.countersG :: plantArrivalParts) s.fresh t) ∧
  (∀ (s : State) (m : NoticeFields) (x : Nat), s.running = true → s.plant.link = .up ∨ s.plant.link = .resync →
      s.plant.expected = some x →
      (m.seq = x → m.seq ≠ (x + 1) % 65536 →
        ∀ i, i = .alarmNoticeRaise m ∨ i = .alarmNoticeReturn m →
          ∃ t, exec i s = .next t ∧
            t.plant.counters = { s.plant.counters with duplicateSeq := bump s.plant.counters.duplicateSeq } ∧
            Touches (([.plantHeard, .plantMark, .countersB] : List Part) ++ endParts) s.fresh t) ∧
      (m.seq ≠ x → m.seq ≠ (x + 1) % 65536 →
        ∀ i, i = .alarmNoticeRaise m ∨ i = .alarmNoticeReturn m →
          ∃ t, exec i s = .next t ∧ t.plant.link = .resync ∧ t.plant.expected = none ∧
            t.plant.counters.gaps = bump s.plant.counters.gaps ∧ t.plant.resync = (s.plant.resync + 1) % 65536 ∧
            t.plant.timer = some (s.now + 3000) ∧ .plant (.resyncRequest 0 t.plant.resync) ∈ t.sent) ∧
      (m.seq = (x + 1) % 65536 → m.tag ≤ 4095 → m.cond ≤ 7 →
        let discarded (i : Instr) (a : Nat) : Prop :=
          ∃ t, exec i s = .next t ∧ t.plant.expected = some m.seq ∧
            t.alarm.discarded.getD a 0 = min (s.alarm.discarded.getD a 0 + 1) 65535 ∧
            (∀ b, b ≠ a → t.alarm.discarded.getD b 0 = s.alarm.discarded.getD b 0) ∧
            Touches (([.plantHeard, .plantMark, .plantExpected, .discarded] : List Part) ++ endParts) s.fresh t
        (∀ i, i = .alarmNoticeRaise m ∨ i = .alarmNoticeReturn m →
          (s.tagRec? m.tag = none →
            ∃ t, exec i s = .next t ∧ t.plant.expected = some m.seq ∧
              t.plant.counters = { s.plant.counters with unknownTag := bump s.plant.counters.unknownTag } ∧
              Touches (([.plantHeard, .plantMark, .plantExpected, .countersB] : List Part) ++ endParts) s.fresh t) ∧
          (∀ r, s.tagRec? m.tag = some r → r.prio m.cond = none ∨ s.inService r.area = false →
            discarded i r.area)) ∧
        (∀ r, s.tagRec? m.tag = some r → s.entryOf? m.tag m.cond = none → discarded (.alarmNoticeReturn m) r.area)))

/-! ### The Handover Controller -/

/-- R154, R155: an OFFER that passes its checks opens a session with a lapse deadline and a list of at most 64 items, none
reviewed or resolved, and the incoming station is told. That the lapse deadline counts from the whole second of the request
(log entry 13), and so that the seconds to it in NOTICE HANDOVER OFFER are exactly the area's handover time (log entry 19), are
the model's inferences. -/
def Obligations.OfferOpensSession : Prop :=
  ∀ (s : State) (h : Hdr) (area badge op inOp inSt : Nat), Taken s h → 1 ≤ area → area ≤ 12 → 1 ≤ badge →
    badge ≤ 65535 → s.logonAt h.station = some op → s.ownerOf area = some (op, h.station) →
    s.hand.look area = none → s.incoming? h.station area badge = some (inOp, inSt) →
    ∃ t x, exec (.offer h area badge 0) s = .next t ∧ t.hand.look area = some (.offered x) ∧ x.outOp = op ∧
      x.outStation = h.station ∧ x.inOp = inOp ∧ x.inStation = inSt ∧ x.openedUnit = s.now ∧
      x.openedMill = s.time.mill ∧ x.lapse = some (s.secondsAhead (s.areaRec area).handover) ∧
      x.items = ((arrived s h).snapshot area).take 64 ∧
      x.remainder = min (((arrived s h).snapshot area).length - 64) 65535 ∧
      (∀ i ∈ x.items, i.reviewed = false ∧ i.resolved = false) ∧
      (∀ a, a ≠ area → t.hand.look a = s.hand.look a) ∧
      ((arrived s h).link inSt ≠ .absent →
        s.outTo inSt (.notice (.handoverOffer area (s.badgeOf op) h.station x.items.length x.remainder
          (s.areaRec area).handover)) ∈ t.sent) ∧
      Answered t h (ans .done x.items.length) ∧
      Touches [.handover, .recs, .attnStacks, .shown, .unitAlarm, .said .attention, .said .notice, .said .answer]
        (arrived s h) t

/-- R158, REVIEW: its five checks in order, and what an accepted one marks and answers. That RESERVED goes before RANGE where
both apply is the model's inference (log entry 24). -/
def Obligations.ReviewMarksItems : Prop :=
  ∀ (s : State) (h : Hdr) (area first count rsv : Nat), Taken s h →
    let refused (a : Ans) : Prop := ∃ t, exec (.review h area first count rsv) s = .next t ∧ Answered t h a ∧
      Touches [.said .answer] (arrived s h) t
    (rsv ≠ 0 → refused (ans .reserved)) ∧
    (rsv = 0 → (area < 1 ∨ 12 < area ∨ first < 1 ∨ 64 < first ∨ count < 1 ∨ 16 < count) → refused (ans .range)) ∧
    (rsv = 0 → 1 ≤ area → area ≤ 12 → 1 ≤ first → first ≤ 64 → 1 ≤ count → count ≤ 16 →
      (s.logonAt h.station = none → refused (ans .notLoggedOn)) ∧
      (∀ op, s.logonAt h.station = some op →
        (s.session? area = none → refused (ans .noSession)) ∧
        (∀ x, s.session? area = some x →
          (x.inOp ≠ op ∨ x.inStation ≠ h.station → refused (ans .notIncoming)) ∧
          (x.inOp = op → x.inStation = h.station → x.items.length < first →
            refused (ans .range x.items.length)) ∧
          (x.inOp = op → x.inStation = h.station → first ≤ x.items.length →
            ∃ t y, exec (.review h area first count rsv) s = .next t ∧ t.session? area = some y ∧
              t.isQuiescing area = s.isQuiescing area ∧
              y = { x with items := y.items } ∧ y.items.length = x.items.length ∧
              (∀ (i : Nat) (item : Item), x.items[i]? = some item → y.items[i]? = some { item with
                reviewed := item.reviewed || (decide (first ≤ i + 1) && decide (i + 1 < first + count)) }) ∧
              (∀ a, a ≠ area → t.hand.look a = s.hand.look a) ∧
              Answered t h (ans .done (y.items.filter (fun i => !i.resolved && !i.reviewed)).length) ∧
              Touches [.handover, .recs, .attnStacks, .shown, .unitAlarm, .said .attention, .said .answer]
                (arrived s h) t))))

/-- R159, R161, R117, R32: an ACCEPT of a fully reviewed session of an area with no command in flight transfers the area at
once: the incoming operator owns it and holds its overrides, the session is gone and the outgoing operator's waiting
commands in the area are withdrawn. While commands of the area are in flight it makes the session QUIESCING, drops its lapse
deadline and tells both stations; the owner stays. R118: every UP station is sent NOTICE OVERRIDE of each holder change; how
its seconds remaining are counted is the model's inference (log entry 19). -/
def Obligations.AcceptTransfersOrWaits : Prop :=
  (∀ (s : State) (h : Hdr) (area : Nat) (x : Session), Taken s h → 1 ≤ area → area ≤ 12 →
      s.logonAt h.station = some x.inOp → x.inStation = h.station → s.hand.look area = some (.offered x) →
      (∀ i ∈ x.items, i.resolved = true ∨ i.reviewed = true) → s.inFlight area = [] →
      s.ownerConditions x.inOp area = some h.station → s.WithinCapacity →
      ∃ t, exec (.accept h area 0) s = .next t ∧ Transferred (arrived s h) t area x.inOp h.station ∧
        (∀ k y, s.gate.transit.look k = some y → t.gate.transit.look k =
          if y.state = .awaiting ∧ y.area = area ∧ y.origOp = x.outOp then none else some y) ∧
        .console h.station h.src (.notice (.handoverDone area .handover (s.badgeOf x.outOp) x.outStation
          (s.badgeOf x.inOp) h.station)) ∈ t.sent ∧
        Answered t h (ans .done) ∧ Touches (endingParts ++ endParts ++ ([.said .answer] : List Part)) (arrived s h) t) ∧
  (∀ (s : State) (h : Hdr) (area : Nat) (x : Session), Taken s h → 1 ≤ area → area ≤ 12 →
      s.logonAt h.station = some x.inOp → x.inStation = h.station → s.hand.look area = some (.offered x) →
      (∀ i ∈ x.items, i.resolved = true ∨ i.reviewed = true) → s.inFlight area ≠ [] → s.WithinCapacity →
      ∃ t y, exec (.accept h area 0) s = .next t ∧ t.hand.look area = some (.quiescing y) ∧ y.lapse = none ∧
        y.inOp = x.inOp ∧ y.inStation = x.inStation ∧ y.outOp = x.outOp ∧ y.outStation = x.outStation ∧
        y.items.length = x.items.length ∧ t.inFlight area = s.inFlight area ∧
        .console h.station h.src (.notice (.handoverQuiescing area .handover (s.inFlight area).length)) ∈ t.sent ∧
        ((arrived s h).link x.outStation ≠ .absent →
          s.outTo x.outStation (.notice (.handoverQuiescing area .handover (s.inFlight area).length)) ∈ t.sent) ∧
        Answered t h (ans .pending (s.inFlight area).length) ∧
        Touches (([.transit, .handover, .said .result, .said .answer] : List Part) ++ endParts) (arrived s h) t)

/-- R162, R163, R164: a RECALL by the outgoing operator, and the lapse deadline, close an OFFERED session; both stations are
told, and nothing else changes hands. -/
def Obligations.OfferIsRecalledOrLapses : Prop :=
  ∀ (s : State) (area : Nat) (x : Session), s.hand.look area = some (.offered x) →
    (∀ h, Taken s h → 1 ≤ area → area ≤ 12 → s.logonAt h.station = some x.outOp → x.outStation = h.station →
      ∃ t, exec (.recallOffer h area 0) s = .next t ∧ t.hand.look area = none ∧
        (∀ a, a ≠ area → t.hand.look a = s.hand.look a) ∧
        (∀ st, st = x.outStation ∨ st = x.inStation → (arrived s h).link st ≠ .absent →
          s.outTo st (.notice (.handoverClosed area .recalled)) ∈ t.sent) ∧
        Answered t h (ans .done) ∧
        Touches [.handover, .recs, .attnStacks, .shown, .unitAlarm, .said .attention, .said .notice, .said .answer]
          (arrived s h) t) ∧
    (∀ w, s.running = true → x.lapse = some w → w ≤ s.now →
      ∃ t, exec (.handoverLapse area) s = .next t ∧ t.hand.look area = none ∧
        (∀ a, a ≠ area → t.hand.look a = s.hand.look a) ∧
        (∀ st, st = x.outStation ∨ st = x.inStation → s.link st ≠ .absent →
          s.outTo st (.notice (.handoverClosed area .lapsed)) ∈ t.sent) ∧
        Touches [.handover, .recs, .attnStacks, .shown, .unitAlarm, .said .attention, .said .notice] s.fresh t)

/-- R166, R167, R117, R118: a TAKEOVER by a supervisor of an area with no command in flight transfers it at once, from no
owner or from another operator; with commands in flight the area of another operator is TAKING OVER and its owner stays. An
open session of an owned area closes before it (R163): both its stations are sent NOTICE HANDOVER CLOSED. The owner's waiting
commands in the area are withdrawn (R148), with RESULT WITHDRAWN, reason TAKEOVER. Both parties are sent NOTICE HANDOVER DONE
at the transfer, which makes the supervisor the holder of the area's overrides, and NOTICE HANDOVER QUIESCING at the wait. How
the seconds remaining in NOTICE OVERRIDE are counted is the model's inference (log entry 19). -/
def Obligations.TakeoverTakesArea : Prop :=
  ∀ (s : State) (h : Hdr) (area op : Nat), Taken s h → 1 ≤ area → area ≤ 12 → s.logonAt h.station = some op →
    s.stationOf op = some h.station → s.isSupervisorStation h.station = true → s.permits h.station area = true →
    1 ≤ s.levelOf op area → (s.ownerOf area).map Prod.fst ≠ some op →
    (∀ x, s.hand.look area ≠ some (.takingOver x)) → s.WithinCapacity →
    let heard (t : State) (st : Nat) (m : ConsoleMsg) : Prop :=
      (arrived s h).link st ≠ .absent → s.outTo st m ∈ t.sent
    let waits (y : Transit) : Prop :=
      y.state = .awaiting ∧ y.area = area ∧ (s.ownerOf area).map Prod.fst = some y.origOp
    let cleared (t : State) : Prop :=
      (∀ k y, s.gate.transit.look k = some y → (waits y → t.gate.transit.look k = none ∧
          heard t y.origStation (.result k y.tag y.action .withdrawn WithdrawReason.takeover.number s.time.mill)) ∧
        (¬ waits y → t.gate.transit.look k = some y)) ∧
      (∀ x, (s.ownerOf area).isSome = true → s.session? area = some x →
        ∀ st, st = x.outStation ∨ st = x.inStation → heard t st (.notice (.handoverClosed area .takeover)))
    (s.ownerOf area = none ∨ s.inFlight area = [] →
      ∃ t, exec (.takeover h area 0) s = .next t ∧ Transferred (arrived s h) t area op h.station ∧ cleared t ∧
        (s.ownerOf area = none → .console h.station h.src
          (.notice (.handoverDone area .takeover 0 0 (s.badgeOf op) h.station)) ∈ t.sent) ∧
        (∀ o ost, s.ownerOf area = some (o, ost) → ∀ st, st = ost ∨ st = h.station → heard t st
          (.notice (.handoverDone area .takeover (s.badgeOf o) ost (s.badgeOf op) h.station))) ∧
        Answered t h (ans .done) ∧ Touches (endingParts ++ endParts ++ ([.said .answer] : List Part)) (arrived s h) t) ∧
    (∀ o ost, s.ownerOf area = some (o, ost) → s.inFlight area ≠ [] →
      ∃ t, exec (.takeover h area 0) s = .next t ∧
        t.hand.look area = some (.takingOver ⟨op, h.station, s.now, s.time.mill⟩) ∧
        (∀ a, a ≠ area → t.hand.look a = s.hand.look a) ∧ t.inFlight area = s.inFlight area ∧ cleared t ∧
        (∀ st, st = ost ∨ st = h.station → heard t st
          (.notice (.handoverQuiescing area .takeover (s.inFlight area).length))) ∧
        Answered t h (ans .pending (s.inFlight area).length) ∧
        Touches (([.transit, .handover, .said .result, .said .answer] : List Part) ++ endParts) (arrived s h) t)

/-! ### Management -/

/-- R2, R6, R7: a WRITE RECORD of a Station record is refused RANGE for an index outside the table, CODE with field 1 for
a kind that is none, and RANGE with field 3 for an area that is none; a record without fault, and a clear, are refused STATION
OCCUPIED while an operator is logged on at the station; a clear of a record that is absent is answered ALREADY. R8, R9: any
other is applied, the grace time being brought into 30 to 600. A record written where none stood, and a clear, make the
station ABSENT with its RESTARTED-pending flag set; a record that replaces another leaves the link state alone. That an index
outside the table draws RANGE with detail 0 for every record, also for one with a field at fault, is the model's inference: R7
does not order the two (log entry 24). -/
def Obligations.StationWriteTakesEffect : Prop :=
  ∀ (s : State) (h : Hdr) (index : Nat), Taken s h → s.entitled h.station = true → s.store.job = none →
    let refused (record : Option RawStation) (a : Ans) : Prop :=
      ∃ t, exec (.stationWrite h index record 0) s = .next t ∧ Answered t h a ∧ Touches [.said .answer] (arrived s h) t
    (index < 1 ∨ 16 < index → ∀ record, refused record (ans .range)) ∧
    (1 ≤ index → index ≤ 16 →
      (∀ raw : RawStation,
        (StationKind.ofCode raw.kind = none → refused (some raw) (ans .code 1)) ∧
        ((StationKind.ofCode raw.kind).isSome = true → (∃ a ∈ raw.areas, a < 1 ∨ 12 < a) →
          refused (some raw) (ans .range 3)) ∧
        ((StationKind.ofCode raw.kind).isSome = true → (∀ a ∈ raw.areas, 1 ≤ a ∧ a ≤ 12) → s.staffed index = true →
          refused (some raw) (ans .stationOccupied)) ∧
        (∀ k, StationKind.ofCode raw.kind = some k → (∀ a ∈ raw.areas, 1 ≤ a ∧ a ≤ 12) → s.staffed index = false →
          let r : StationRec := ⟨k, raw.addr, NSet.ofList raw.areas, max 30 (min 600 raw.grace)⟩
          let answer := if 30 ≤ raw.grace ∧ raw.grace ≤ 600 then ans .done else ans .clamped 4
          (s.stationRec? index = none →
            ∃ t, exec (.stationWrite h index (some raw) 0) s = .next t ∧ t.stationRec? index = some r ∧
              (∀ j, j ≠ index → t.stationRec? j = s.stationRec? j) ∧ t.link index = .absent ∧
              index ∈ t.console.restartPending ∧ (∀ j, j ≠ index → t.link j = (arrived s h).link j) ∧
              Answered t h answer ∧
              Touches (([.stations, .link, .heard, .restartPending, .said .answer] : List Part) ++ coverParts ++
                endParts) (arrived s h) t) ∧
          (∀ old, s.stationRec? index = some old →
            ∃ t, exec (.stationWrite h index (some raw) 0) s = .next t ∧ t.stationRec? index = some r ∧
              (∀ j, j ≠ index → t.stationRec? j = s.stationRec? j) ∧ Answered t h answer ∧
              Touches (([.stations, .said .answer] : List Part) ++ endParts) (arrived s h) t))) ∧
      (s.staffed index = true → refused none (ans .stationOccupied)) ∧
      (s.staffed index = false → s.stationRec? index = none → refused none (ans .already)) ∧
      (∀ old, s.staffed index = false → s.stationRec? index = some old →
        ∃ t, exec (.stationWrite h index none 0) s = .next t ∧ t.stationRec? index = none ∧
          (∀ j, j ≠ index → t.stationRec? j = s.stationRec? j) ∧ t.link index = .absent ∧
          index ∈ t.console.restartPending ∧ (∀ j, j ≠ index → t.link j = (arrived s h).link j) ∧
          Answered t h (ans .done) ∧
          Touches (([.stations, .link, .heard, .restartPending, .said .answer] : List Part) ++ coverParts ++ endParts)
            (arrived s h) t))

/-- R3, R7, R8: a Roster record with a fault is refused with the code and the number of its lowest field at fault, and a level
above 3 is brought to 3, which is answered CLAMPED with field 5. R10, R11, R12: a record without fault is written. For an
operator who is not logged on nothing else changes but by the cover scan. An operator who may no longer stay is forced off
and owns nothing; the operator's sessions and takeovers close, waiting commands are withdrawn and the station is told. An
operator who stays loses the areas where the level is now 0, with their sessions and waiting commands there, and the sessions
and takeovers that wait for the operator in such areas close; areas at level 1 or higher are not touched. R6: a clear makes
the record absent; it forces an operator who is logged on off as a write does; a clear of a record that is absent already is
answered ALREADY. An index outside the table is refused RANGE with detail 0. The model's inferences: that this is so for every
record, also for one with a field at fault, and that a badge of 0 draws RANGE also where another record has that badge, since
R7 orders neither (log entry 24); that a level of 0 acts where it was 0 before the write too (log entry 32). -/
def Obligations.RosterWriteTakesEffect : Prop :=
  ∀ (s : State) (h : Hdr) (index : Nat), Taken s h → s.entitled h.station = true → s.store.job = none →
    let forced (t : State) (st : Nat) : Prop :=
      t.logonAt st = none ∧ (∀ st', st' ≠ st → t.logonAt st' = s.logonAt st') ∧ (∀ a b, t.ownerOf a ≠ some (index, b)) ∧
        (∀ a, (s.ownerOf a).map Prod.fst ≠ some index → t.ownerOf a = s.ownerOf a) ∧
        (∀ a x, s.session? a = some x → x.outOp = index ∨ x.inOp = index → t.hand.look a = none) ∧
        (∀ a x, s.hand.look a = some (.takingOver x) → x.op = index → t.hand.look a = none) ∧
        (∀ k x, s.gate.transit.look k = some x →
          t.gate.transit.look k = if x.state = .awaiting ∧ x.origOp = index then none else some x) ∧
        ((arrived s h).link st ≠ .absent → s.outTo st (.notice (.loggedOff .roster)) ∈ t.sent) ∧
        Touches (([.roster, .logon, .grace, .said .answer] : List Part) ++ endingParts ++ endParts) (arrived s h) t
    (127 < index → ∀ record, ∃ t, exec (.rosterWrite h index record 0) s = .next t ∧ Answered t h (ans .range) ∧
      Touches [.said .answer] (arrived s h) t) ∧
    (index ≤ 127 → ∀ raw : RawRoster,
      let faults : List (Bool × Ans) :=
        [(decide (raw.badge = 0), ans .range 1),
         (s.tables.roster.any (fun p => decide (p.1 ≠ index ∧ p.2.badge = raw.badge)), ans .duplicateBadge 1),
         (decide (raw.role < 1 ∨ 3 < raw.role), ans .code 3),
         (raw.stations.any (fun n => decide (n < 1 ∨ 16 < n)), ans .range 6)]
      (∀ f, faults.find? Prod.fst = some f → ∃ t, exec (.rosterWrite h index (some raw) 0) s = .next t ∧
        Answered t h f.2 ∧ Touches [.said .answer] (arrived s h) t) ∧
      (∀ role, faults.find? Prod.fst = none → Role.ofCode raw.role = some role → s.OwnersEntitled →
        let r : RosterRec := ⟨raw.badge, raw.name, role, raw.enabled, raw.levels.map (fun l => min l 3),
          NSet.ofList raw.stations⟩
        let answer : Ans := if ∀ l ∈ raw.levels.toList, l ≤ 3 then ans .done else ans .clamped 5
        (s.stationOf index = none →
          ∃ t, exec (.rosterWrite h index (some raw) 0) s = .next t ∧ t.rosterRec? index = some r ∧
            (∀ j, j ≠ index → t.rosterRec? j = s.rosterRec? j) ∧ Answered t h answer ∧
            Touches (([.roster, .said .answer] : List Part) ++ coverParts ++ endParts) (arrived s h) t) ∧
        (∀ st q, s.logonAt st = some index → s.stationRec? st = some q →
          (r.enabled = false ∨ st ∉ r.stations ∨ roleFits q.kind r.role = false →
            ∃ t, exec (.rosterWrite h index (some raw) 0) s = .next t ∧ t.rosterRec? index = some r ∧
              (∀ j, j ≠ index → t.rosterRec? j = s.rosterRec? j) ∧ forced t st ∧ Answered t h answer) ∧
          (r.enabled = true → st ∈ r.stations → roleFits q.kind r.role = true →
            ∃ t, exec (.rosterWrite h index (some raw) 0) s = .next t ∧ t.rosterRec? index = some r ∧
              (∀ j, j ≠ index → t.rosterRec? j = s.rosterRec? j) ∧
              (∀ a b, r.level a = 0 → t.ownerOf a ≠ some (index, b)) ∧
              (∀ a, 1 ≤ r.level a → t.ownerOf a = s.ownerOf a ∧ t.hand.look a = s.hand.look a) ∧
              (∀ a x, r.level a = 0 → s.session? a = some x →
                ((s.ownerOf a).map Prod.fst = some index ∧ x.outOp = index) ∨ x.inOp = index → t.hand.look a = none) ∧
              (∀ a x, r.level a = 0 → s.hand.look a = some (.takingOver x) →
                (s.ownerOf a).map Prod.fst = some index ∨ x.op = index → t.hand.look a = none) ∧
              (∀ k x, s.gate.transit.look k = some x → t.gate.transit.look k =
                if x.state = .awaiting ∧ x.origOp = index ∧ r.level x.area = 0 ∧
                  (s.ownerOf x.area).map Prod.fst = some index then none else some x) ∧
              Answered t h answer ∧
              Touches (([.roster, .said .answer] : List Part) ++ endingParts ++ endParts) (arrived s h) t)))) ∧
    (index ≤ 127 → s.OwnersEntitled →
      (s.rosterRec? index = none →
        ∃ t, exec (.rosterWrite h index none 0) s = .next t ∧ Answered t h (ans .already) ∧
          Touches [.said .answer] (arrived s h) t) ∧
      (∀ old, s.rosterRec? index = some old → s.stationOf index = none →
        ∃ t, exec (.rosterWrite h index none 0) s = .next t ∧ t.rosterRec? index = none ∧
          (∀ j, j ≠ index → t.rosterRec? j = s.rosterRec? j) ∧ Answered t h (ans .done) ∧
          Touches (([.roster, .said .answer] : List Part) ++ coverParts ++ endParts) (arrived s h) t) ∧
      (∀ old st, s.rosterRec? index = some old → s.logonAt st = some index →
        ∃ t, exec (.rosterWrite h index none 0) s = .next t ∧ t.rosterRec? index = none ∧
          (∀ j, j ≠ index → t.rosterRec? j = s.rosterRec? j) ∧ forced t st ∧ Answered t h (ans .done)))

/-- R6: a WRITE RECORD to any table is refused NOT ENGINEER from a station not entitled to management, STORING while a STORE is
in flight, and RESERVED where its reserved byte is not zero. R4, R5, R7, R8: an Area or a Tag record with a fault is refused
with the code and the number of its lowest field at fault; a record without one is written, its numbers brought into their
ranges, which is answered CLAMPED with the lowest such field. R13, R14, R36: an Area write tests the area's flood flag
against the new thresholds; no running deadline, override, session or owner changes, nor another area's release timer.
R15: a Tag write and a clear are refused TAG IN USE while an alarm entry, an override or a transit entry is of the tag. The
model's inferences: the order of the checks within R7 (log entry 24), that zeros in a fallback list are dropped (25), and that
the release timer counts from the whole second of the write (13). -/
def Obligations.AreaAndTagWritesTakeEffect : Prop :=
  ∀ (s : State) (h : Hdr) (index : Nat), Taken s h →
    let refused (i : Instr) (a : Ans) : Prop :=
      ∃ t, exec i s = .next t ∧ Answered t h a ∧ Touches [.said .answer] (arrived s h) t
    (∀ i rsv, (∃ r, i = .stationWrite h index r rsv) ∨ (∃ r, i = .rosterWrite h index r rsv) ∨
        (∃ r, i = .areaWrite h index r rsv) ∨ (∃ r, i = .tagWrite h index r rsv) →
      (s.entitled h.station = false → refused i (ans .notEngineer)) ∧
      (s.entitled h.station = true → s.store.job.isSome = true → refused i (ans .storing)) ∧
      (s.entitled h.station = true → s.store.job = none → rsv ≠ 0 → refused i (ans .reserved))) ∧
    (s.entitled h.station = true → s.store.job = none →
      (index < 1 ∨ 12 < index → ∀ record, refused (.areaWrite h index record 0) (ans .range)) ∧
      (4095 < index → ∀ record, refused (.tagWrite h index record 0) (ans .range)) ∧
      (1 ≤ index → index ≤ 12 →
        refused (.areaWrite h index none 0) (ans .missingRecord) ∧
        ∀ raw : RawArea,
          (Priority.ofCode raw.cut = none → refused (.areaWrite h index (some raw) 0) (ans .code 7)) ∧
          ((Priority.ofCode raw.cut).isSome = true → (∃ n ∈ raw.fallback, 16 < n) →
            refused (.areaWrite h index (some raw) 0) (ans .range 13)) ∧
          (∀ p, Priority.ofCode raw.cut = some p → (∀ n ∈ raw.fallback, n ≤ 16) →
            let onAt : Nat := max 16 (min 65535 raw.floodOn)
            let r : AreaRec :=
              { name := raw.name, stage1 := raw.stage1.map (fun n => max 10 (min 3600 n)),
                stage2 := max 60 (min 3600 raw.stage2), decay := max 1 (min 4095 raw.decay), floodOn := onAt,
                floodOff := min raw.floodOff (onAt - 1), cut := if p = .urgent then .high else p,
                release := max 1 (min 60 raw.release), shelveMax := max 60 (min 43200 raw.shelveMax),
                bypassMax := max 60 (min 28800 raw.bypassMax), window := max 30 (min 600 raw.window),
                handover := max 120 (min 3600 raw.handover), fallback := raw.fallback.filter (fun n => decide (n ≠ 0)) }
            let clamps : List (Bool × Nat) :=
              [(decide (r.stage1 ≠ raw.stage1), 2), (decide (r.stage2 ≠ raw.stage2), 3),
               (decide (r.decay ≠ raw.decay), 4), (decide (r.floodOn ≠ raw.floodOn), 5),
               (decide (r.floodOff ≠ raw.floodOff), 6), (decide (p = .urgent), 7), (decide (r.release ≠ raw.release), 8),
               (decide (r.shelveMax ≠ raw.shelveMax), 9), (decide (r.bypassMax ≠ raw.bypassMax), 10),
               (decide (r.window ≠ raw.window), 11), (decide (r.handover ≠ raw.handover), 12)]
            ∃ t, exec (.areaWrite h index (some raw) 0) s = .next t ∧ t.areaRec index = r ∧
              (∀ a, a ≠ index → t.areaRec a = s.areaRec a) ∧
              t.flooded index = (if s.flooded index then decide (r.floodOff < s.load index)
                else decide (r.floodOn ≤ s.load index)) ∧
              (∀ a, a ≠ index → t.flooded a = s.flooded a) ∧
              t.flood.release.look index =
                (if s.flooded index = true ∧ s.load index ≤ r.floodOff ∧ s.deferredOf index ≠ [] then
                  some (s.secondsAhead r.release)
                else if s.flooded index = false ∧ r.floodOn ≤ s.load index then none
                else s.flood.release.look index) ∧
              (∀ a, a ≠ index → t.flood.release.look a = s.flood.release.look a) ∧
              (∀ n, n < 512 → (t.annRec n).deadline = (s.annRec n).deadline) ∧
              Answered t h (match clamps.find? Prod.fst with | none => ans .done | some c => ans .clamped c.2) ∧
              Touches (([.areas, .flooded, .release, .said .answer] : List Part) ++ coverParts ++ endParts)
                (arrived s h) t)) ∧
      (index ≤ 4095 →
        (s.tagInUse index = true → refused (.tagWrite h index none 0) (ans .tagInUse index)) ∧
        (s.tagInUse index = false → s.tagRec? index = none → refused (.tagWrite h index none 0) (ans .already)) ∧
        (∀ old, s.tagRec? index = some old → s.tagInUse index = false →
          ∃ t, exec (.tagWrite h index none 0) s = .next t ∧ t.tagRec? index = none ∧
            (∀ j, j ≠ index → t.tagRec? j = s.tagRec? j) ∧ Answered t h (ans .done) ∧
            Touches (([.tags, .said .answer] : List Part) ++ endParts) (arrived s h) t) ∧
        ∀ raw : RawTag,
          let faults : List (Bool × Ans) :=
            [(decide (raw.area < 1 ∨ 12 < raw.area), ans .range 2),
             (raw.prios.toList.any (fun c => decide (4 < c)), ans .code 3),
             (raw.parent.any (fun p => decide (4095 < p.1)), ans .range 4),
             (raw.parent.any (fun p => decide (p.1 = index)), ans .selfParent 4),
             (raw.blocker.any (fun b => decide (4095 < b.1)), ans .range 5),
             (raw.blocker.any (fun b => decide (b.2 < 1 ∨ 4 < b.2)), ans .code 5)]
          (∀ f, faults.find? Prod.fst = some f → refused (.tagWrite h index (some raw) 0) f.2) ∧
          (faults.find? Prod.fst = none → s.tagInUse index = true →
            refused (.tagWrite h index (some raw) 0) (ans .tagInUse index)) ∧
          (faults.find? Prod.fst = none → s.tagInUse index = false →
            ∃ t, exec (.tagWrite h index (some raw) 0) s = .next t ∧
              t.tagRec? index = some
                { name := raw.name, area := raw.area, prios := raw.prios.map Priority.ofCode, parent := raw.parent,
                  blocker := raw.blocker.bind (fun b => (Priority.ofCode b.2).map (fun p => (b.1, p))),
                  cls := min raw.cls 4, base := max 1 (min 255 raw.base), shelvable := raw.shelvable,
                  ackRelay := raw.ackRelay } ∧
              (∀ j, j ≠ index → t.tagRec? j = s.tagRec? j) ∧
              Answered t h (if 4 < raw.cls then ans .clamped 6
                else if raw.base < 1 ∨ 255 < raw.base then ans .clamped 7 else ans .done) ∧
              Touches (([.tags, .said .answer] : List Part) ++ endParts) (arrived s h) t)))

/-- R17, R18: STORE enters STORING without an answer; at its end the station that asked is answered, and the store fault
condition is cleared, the image holding the tables and their CRC, or set, STORE FAULT being raised. That the end of a STORE
comes at any moment, as a command, and that its answer goes out whatever the link state of the station has become, are the
model's choices (log entry 23). -/
def Obligations.StoreWritesImage : Prop :=
  ∀ s : State,
    (∀ h, Taken s h → s.entitled h.station = true → s.store.job = none →
      ∃ t, exec (.store h) s = .next t ∧ t.store.job = some ⟨h.station, h.src, h.rtag⟩ ∧
        Touches [.storeJob] (arrived s h) t) ∧
    (∀ j, s.running = true → s.store.job = some j →
      (∃ t, exec (.storeComplete true) s = .next t ∧ t.store.job = none ∧ t.store.fault = false ∧
        t.store.image = ⟨s.tables, imageCrc s.tables⟩ ∧
        t.sent.getLast? = some (.console j.station j.addr (.answer j.rtag (ans .done))) ∧
        Touches (([.storeJob, .storeFault, .image, .said .answer] : List Part) ++ sysParts ++ endParts) s.fresh t) ∧
      (∃ t e, exec (.storeComplete false) s = .next t ∧ t.store.job = none ∧ t.store.fault = true ∧
        t.entry? 520 = some e ∧ e.active = true ∧
        t.sent.getLast? = some (.console j.station j.addr (.answer j.rtag (ans .store))) ∧
        Touches (([.storeJob, .storeFault, .image, .misreads, .said .answer] : List Part) ++ sysParts ++ endParts)
          s.fresh t))

/-- R188, R40, R65, R84, R105, R119, R139, R169, R179: RESTART clears the live state of every block and keeps what R188
step 2 keeps; it is answered ACCEPTED/DONE. -/
def Obligations.RestartClearsLiveState : Prop :=
  ∀ (s : State) (h : Hdr), Taken s h → s.entitled h.station = true → s.store.job = none →
    ∃ t, exec (.restart h) s = .next t ∧ t.console = ConsolePort.initial ∧ t.auth.logon = [] ∧ t.auth.grace = [] ∧
      t.auth.owner = [] ∧ t.auth.cover = [] ∧
      (∀ a, 1 ≤ a → a ≤ 12 → (t.isOrphan a = true ↔ s.inService a = true)) ∧
      (∀ n e, t.entry? n = some e → n = 516 ∨ n = 519 ∨ n = 520) ∧
      ((t.entry? 520).isSome = s.store.fault) ∧ ((t.entry? 519).isSome = s.auth.key) ∧ t.alarm.gens = [] ∧
      t.alarm.tableFull = false ∧ t.alarm.discarded = [] ∧ t.alarm.duplicates = [] ∧ t.alarm.dropped = [] ∧
      t.alarm.unitAlarm = false ∧
      t.flood = FloodMon.initial ∧ t.overrides = [] ∧ t.gate = { Gate.initial with ticket := s.gate.ticket } ∧
      t.hand = [] ∧ t.plant = { PlantPort.initial with resync := s.plant.resync, mark := s.now } ∧
      t.ann = Annun.initial ∧ Answered t h (ans .done) ∧
      Touches (restartParts ++ requestParts) s.fresh t

/-! ### Power and RESET -/

/-- R19, R189: power coming up while RESET is not held, and the release of RESET under power, start the unit: the STRAP
inputs are latched, an image whose CRC agrees is loaded and clears the store fault condition, any other gives the defaults
of R4 with STORE FAULT raised, and every block takes its power-up value; ORPHAN AREA and STORE FAULT are the only alarms, and
nothing is sent. That nothing is sent, no UNIT BEAT at unit time 0 among it, is the model's choice (log entry 53). What R189
does not spell out is its inference (log entry 16): power under RESET starts nothing, RESET released without power starts
nothing, and POWER_UP or RESET_DEASSERT of a unit that runs starts it afresh. -/
def Obligations.StartUpLoadsImage : Prop :=
  ∀ (s : State) (p : Straps) (i : Instr),
    ((i = .powerUp p ∧ s.pins.reset = false) ∨ (i = .resetDeassert p ∧ s.pins.power = true) →
      ∃ t, exec i s = .next t ∧ t.pins = ⟨true, false, strapValue p⟩ ∧ t.time = Timebase.initial ∧
        (imageCrc s.store.image.tables = s.store.image.crc →
          t.tables = s.store.image.tables ∧ t.store.fault = false ∧ t.entry? 520 = none) ∧
        (imageCrc s.store.image.tables ≠ s.store.image.crc →
          t.tables = Tables.empty ∧ t.store.fault = true ∧ (t.entry? 520).isSome = true) ∧
        t.store.image = s.store.image ∧ t.store.job = none ∧ t.console = ConsolePort.initial ∧
        t.auth = { Authority.initial s.auth.keyLine with orphans := areaNumbers } ∧
        (∀ n e, t.entry? n = some e → n = 516 ∨ n = 520) ∧ (∃ e, t.entry? 516 = some e ∧ e.active = true) ∧
        t.alarm = { AlarmProc.initial with entries := t.alarm.entries } ∧ t.flood = FloodMon.initial ∧
        t.ann = Annun.initial ∧ t.overrides = [] ∧ t.gate = Gate.initial ∧ t.hand = [] ∧
        t.plant = PlantPort.initial ∧ t.sent = [] ∧ t.pending = s.pending) ∧
    (s.pins.reset = true →
      ∃ t, exec (.powerUp p) s = .next t ∧ t.running = false ∧ t.sent = [] ∧ t.pending = s.pending) ∧
    (s.pins.power = false →
      ∃ t, exec (.resetDeassert p) s = .next t ∧ t.running = false ∧ t.sent = [] ∧ t.pins.reset = false)

/-- R20, R189: a loss of power and an assertion of RESET stop the unit and discard the state of every block; nothing is sent
and UNIT ALARM is deasserted. The image stays, but for a STORE in flight: in the write it no longer agrees with its CRC, in
the read-back it is the new image. Model's choices: the values that stand for a discarded block (log entry 10), the level
of the MASTER KEY line being kept (10, 18), the moment of a STORE as an operand and the certain disagreement of a half-written
image (17), and that an assertion of RESET counts however short it is (47). -/
def Obligations.LossStopsUnit : Prop :=
  ∀ (s : State) (m : StoreMoment) (i : Instr), i = .powerLoss m ∨ i = .resetAssert m →
    ∃ t, exec i s = .next t ∧ t.running = false ∧ t.sent = [] ∧ t.alarm.unitAlarm = false ∧
      t.tables = Tables.empty ∧ t.time = Timebase.initial ∧ t.console = ConsolePort.initial ∧
      t.auth = Authority.initial s.auth.keyLine ∧ t.alarm = AlarmProc.initial ∧ t.flood = FloodMon.initial ∧
      t.ann = Annun.initial ∧ t.overrides = [] ∧ t.gate = Gate.initial ∧ t.hand = [] ∧ t.plant = PlantPort.initial ∧
      t.store.job = none ∧ t.pending = s.pending ∧
      (i = .powerLoss m → t.pins.power = false ∧ t.pins.reset = s.pins.reset) ∧
      (i = .resetAssert m → t.pins.reset = true ∧ t.pins.power = s.pins.power) ∧
      (s.store.job = none → t.store.image = s.store.image) ∧
      (s.store.job.isSome = true → m = .readBack → t.store.image = ⟨s.tables, imageCrc s.tables⟩) ∧
      (s.store.job.isSome = true → ∀ n, m = .writing n → imageCrc t.store.image.tables ≠ t.store.image.crc)

/-! ### The Plant Port -/

/-- R171, R172, R174: an accepted plant frame (here PLANT BEAT) renews the last-heard time; in START and LOST it begins a
whole-mill resync, in DEGRADED it returns the link to its return state, in UP and RESYNC it renews the silence mark. 3 s of
silence in UP or RESYNC make the link DEGRADED, with the state it left as return state, and PLANT LINK DEGRADED is
raised. -/
def Obligations.PlantWatchMovesLink : Prop :=
  (∀ s : State, s.running = true →
      ∃ t, exec .plantBeat s = .next t ∧ t.plant.heard = some s.now ∧ t.plant.mark = s.now ∧
        Touches plantArrivalParts s.fresh t ∧
        (s.plant.link = .up ∨ s.plant.link = .resync →
          t.plant.link = s.plant.link ∧ Touches [.plantHeard, .plantMark, .recs, .attnStacks, .shown, .unitAlarm,
            .said .attention] s.fresh t) ∧
        (s.plant.link = .degraded →
          t.plant.link = (if s.plant.ret then .resync else .up) ∧ (∀ e, t.entry? 512 = some e → e.active = false)) ∧
        (s.plant.link = .start ∨ s.plant.link = .lost →
          t.plant.link = .resync ∧ t.plant.resync = (s.plant.resync + 1) % 65536 ∧ t.plant.expected = none ∧
          t.plant.timer = some (s.now + 3000) ∧ .plant (.resyncRequest 0 t.plant.resync) ∈ t.sent ∧
          (∀ st, 1 ≤ st → st ≤ 16 → s.isUp st = true → s.outTo st (.notice (.plantLink .resync)) ∈ t.sent) ∧
          ∀ n e, n < 512 → t.entry? n = some e → e.confirmed = false)) ∧
  (∀ s : State, s.running = true → s.plantSilenceDue = true →
      ∃ t e, exec .plantSilenceTimeout s = .next t ∧ t.plant.link = .degraded ∧
        t.plant.ret = decide (s.plant.link = .resync) ∧ t.plant.mark = s.now ∧ t.entry? 512 = some e ∧
        e.active = true ∧
        (∀ st, 1 ≤ st → st ≤ 16 → s.isUp st = true → s.outTo st (.notice (.plantLink .degraded)) ∈ t.sent) ∧
        Touches (([.plantLink, .plantReturn, .plantMark] : List Part) ++ sysParts ++ endParts) s.fresh t)

/-- R173, R136, R46: 5 s in DEGRADED, and 8 s in START without a frame, lose the link: PLANT LINK LOST is raised, every
ordinary entry is stale, the resync timer stops, every command in flight fails and waiting ones stay, and the loss is
counted. -/
def Obligations.PlantLossFailsCommands : Prop :=
  ∀ (s : State) (i : Instr), s.running = true → s.WithinCapacity →
    (i = .plantDegradedTimeout ∧ s.plantDegradedDue = true) ∨ (i = .plantStartTimeout ∧ s.plantStartDue = true) →
    ∃ t e, exec i s = .next t ∧ t.plant.link = .lost ∧ t.plant.timer = none ∧ t.plant.expected = none ∧
      t.plant.counters = { s.plant.counters with losses := bump s.plant.counters.losses } ∧
      t.entry? 513 = some e ∧ e.active = true ∧ t.alarm.unitAlarm = true ∧
      (∀ x, s.plant.link = .degraded → t.entry? 512 = some x → x.active = false) ∧
      (∀ n x, n < 512 → s.entry? n = some x → t.entry? n = some { x with stale := true }) ∧
      (∀ k x, s.gate.transit.look k = some x →
        t.gate.transit.look k = if x.state = .awaiting then some x else none) ∧
      (∀ k x, s.gate.transit.look k = some x → x.state ≠ .awaiting → s.link x.origStation ≠ .absent →
        s.outTo x.origStation (.result k x.tag x.action .failedPlantLost 0 s.time.mill) ∈ t.sent) ∧
      Touches (([.plantLink, .plantExpected, .plantTimer, .countersB,
        .countersG] : List Part) ++ endingParts ++ endParts) s.fresh t

/-- R175, R46: a whole-mill RESYNC END that matches ends the resync: the link is UP, its timer stopped, PLANT LINK LOST
returns, and no ordinary entry is left ACTIVE that the resync did not confirm, nor stale that it did. One that does not match
is counted; one of an area's scope only serves the watch, and so does, by the model's inference (log entry 29), one of any
other scope but 0. The resync timer's expiry ends the resync without the sweep. -/
def Obligations.ResyncEnds : Prop :=
  ∀ s : State, s.running = true →
    (s.plant.link = .resync →
      ∃ t, exec (.resyncEnd 0 s.plant.resync) s = .next t ∧ t.plant.link = .up ∧ t.plant.timer = none ∧
        t.plant.mark = s.now ∧ (∀ e, t.entry? 513 = some e → e.active = false) ∧
        (∀ n e, n < 512 → t.entry? n = some e → (e.active = true → e.confirmed = true) ∧
          (e.confirmed = true → e.stale = false)) ∧
        Touches (([.plantHeard, .plantMark, .plantLink, .plantTimer] : List Part) ++ alarmParts ++ endParts) s.fresh t) ∧
    (∀ number, s.plant.link = .up ∨ (s.plant.link = .resync ∧ number ≠ s.plant.resync) →
      ∃ t, exec (.resyncEnd 0 number) s = .next t ∧ t.plant.link = s.plant.link ∧
        t.plant.counters = { s.plant.counters with strayEnds := bump s.plant.counters.strayEnds } ∧
        Touches (([.plantHeard, .plantMark, .countersB] : List Part) ++ endParts) s.fresh t) ∧
    (∀ scope number, scope ≠ 0 → s.plant.link = .up ∨ s.plant.link = .resync →
      ∃ t, exec (.resyncEnd scope number) s = .next t ∧ Touches (([.plantHeard, .plantMark] : List Part) ++ endParts)
        s.fresh t) ∧
    (s.resyncTimerDue = true →
      ∃ t, exec .resyncTimerExpiry s = .next t ∧ t.plant.timer = none ∧
        t.plant.counters = { s.plant.counters with timeouts := bump s.plant.counters.timeouts } ∧
        (∀ e, t.entry? 513 = some e → e.active = false) ∧
        (s.plant.link = .degraded → t.plant.link = .degraded ∧ t.plant.ret = false) ∧
        (s.plant.link ≠ .degraded → t.plant.link = .up) ∧
        Touches (([.plantLink, .plantReturn, .plantTimer, .countersB] : List Part) ++ sysParts ++ endParts) s.fresh t)

/-- R178, R187: the whole-second events: UNIT BEAT is sent, in every link state, and the second of day advances by one,
from 86399 to 0 with the day, and the day from 65535 to 0. SET CLOCK replaces the mill time and clears the clock-unset indication.
That the two events act at any unit time at which they are commanded is the model's choice (log entry 15). -/
def Obligations.WholeSecondsBeatAndAdvance : Prop :=
  (∀ s : State, s.running = true →
      ∃ t, exec .unitBeat s = .next t ∧
        t.sent = [.plant (.unitBeat s.plant.link s.time.mill s.time.clockUnset)] ∧ Touches [.said .beat] s.fresh t) ∧
  (∀ s : State,
      (∀ h time, Taken s h → s.entitled h.station = true → time.sec ≤ 86399 →
        ∃ t, exec (.setClock h time 0) s = .next t ∧ t.time.mill = time ∧ t.time.clockUnset = false ∧
          Answered t h (ans .done) ∧ Touches (([.millTime, .clockUnset, .said .answer] : List Part) ++ endParts)
            (arrived s h) t) ∧
      (s.running = true →
        ∃ t, exec .millTimeAdvance s = .next t ∧ Touches [.millTime] s.fresh t ∧
          (s.time.mill.sec < 86399 → t.time.mill = ⟨s.time.mill.day, s.time.mill.sec + 1⟩) ∧
          (s.time.mill.sec = 86399 → s.time.mill.day < 65535 → t.time.mill = ⟨s.time.mill.day + 1, 0⟩) ∧
          (s.time.mill.sec = 86399 → s.time.mill.day = 65535 → t.time.mill = ⟨0, 0⟩)))
end

