-- ==== Sys2Proof/Laws/Frame.lean ====
section
/-! SUPPORT. What each shared operation touches: one frame lemma an operation, from the record updates up to the end of an
event. A claim that an operation leaves a part alone cites its lemma here and does not unfold it. -/

namespace Sys2Proof.Machine

namespace Touches

theorem refl (l : List Part) (s : State) : Touches l s s := fun p _ => by cases p <;> simp [Part.same]

theorem same_trans {s t u : State} {p : Part} (h1 : p.same s t) (h2 : p.same t u) : p.same s u := by
  cases p <;> simp only [Part.same] at h1 h2 ⊢ <;> first | exact h2.trans h1 | exact ⟨h2.1.trans h1.1, h2.2.trans h1.2⟩

theorem trans {l : List Part} {s t u : State} (h1 : Touches l s t) (h2 : Touches l t u) : Touches l s u :=
  fun p hp => same_trans (h1 p hp) (h2 p hp)

theorem mono {l l' : List Part} {s t : State} (h : Touches l s t) (hl : l ⊆ l') : Touches l' s t :=
  fun p hp => h p (fun hm => hp (hl hm))

/-- What the last operation of a sequence touches is added to what those before it touch. -/
theorem after {l l' : List Part} {s t u : State} (h : Touches l' t u) (hl : l' ⊆ l) (h0 : Touches l s t) :
    Touches l s u := h0.trans (h.mono hl)

/-- A fold keeps what each of its steps keeps. -/
theorem foldl {α : Type} {l : List Part} {f : State → α → State} (h : ∀ s x, Touches l s (f s x)) (xs : List α)
    (s : State) : Touches l s (xs.foldl f s) := by
  induction xs generalizing s with
  | nil => exact refl l s
  | cons x xs ih => exact (h s x).trans (ih (f s x))

theorem ite {l : List Part} {s t u : State} {c : Prop} [Decidable c] (h1 : Touches l s t) (h2 : Touches l s u) :
    Touches l s (if c then t else u) := by
  split
  · exact h1
  · exact h2

end Touches

/-! ### Messages -/

theorem kind_heardBy {s : State} {st : Nat} {m : ConsoleMsg} {o : Out} (h : o ∈ s.heardBy st m) :
    o = s.outTo st m := by
  unfold State.heardBy at h
  split at h <;> simp_all

theorem kind_toUp {s : State} {n : Notice} : ∀ o ∈ s.toUp n, o.kind = .notice := by
  intro o h
  simp only [State.toUp, List.mem_map] at h
  obtain ⟨st, -, rfl⟩ := h
  rfl

theorem kind_heardBy_notice {s : State} {st : Nat} {n : Notice} : ∀ o ∈ s.heardBy st (.notice n), o.kind = .notice :=
  fun o h => by rw [kind_heardBy h]; rfl

theorem kind_toBoth {s : State} {a b : Nat} {n : Notice} : ∀ o ∈ s.toBoth a b n, o.kind = .notice := by
  intro o h
  simp only [State.toBoth, List.mem_append] at h
  rcases h with h | h
  · exact kind_heardBy_notice o h
  · split at h
    · simp at h
    · exact kind_heardBy_notice o h

theorem filter_kind_nil {os : List Out} {k : MsgKind} (h : ∀ o ∈ os, o.kind ≠ k) :
    os.filter (fun o => decide (o.kind = k)) = [] := by
  simp only [List.filter_eq_nil_iff, decide_eq_true_eq]
  exact h

namespace State

variable (s : State)

/-- Saying messages of a sort touches that sort alone. -/
theorem say_touches (os : List Out) {l : List Part} (h : ∀ o ∈ os, Part.said o.kind ∈ l) : Touches l s (s.say os) := by
  intro p hp
  cases p <;> first | rfl | skip
  · exact ⟨rfl, rfl⟩
  · rename_i k
    have hk : os.filter (fun o => decide (o.kind = k)) = [] :=
      filter_kind_nil (fun o ho e => hp (e ▸ h o ho))
    simp [Part.same, saidOf, say, List.filter_append, hk]

theorem sayAfter_touches (os : List Out) {l : List Part} (h : ∀ o ∈ os, Part.said o.kind ∈ l) :
    Touches l s (s.sayAfter os) := by
  intro p hp
  cases p <;> first | rfl | skip
  · exact ⟨rfl, rfl⟩
  · rename_i k
    have hk : os.filter (fun o => decide (o.kind = k)) = [] :=
      filter_kind_nil (fun o ho e => hp (e ▸ h o ho))
    simp [Part.same, saidOf, sayAfter, List.filter_append, hk]

theorem say_notices (os : List Out) (h : ∀ o ∈ os, o.kind = .notice) : Touches [.said .notice] s (s.say os) :=
  s.say_touches os (fun o ho => by simp [h o ho])

theorem sayAfter_notices (os : List Out) (h : ∀ o ∈ os, o.kind = .notice) :
    Touches [.said .notice] s (s.sayAfter os) :=
  s.sayAfter_touches os (fun o ho => by simp [h o ho])

theorem answer_touches (h : Hdr) (a : Ans) : Touches [.said .answer] s (s.answer h a) := by
  intro p hp
  cases p <;> first | rfl | skip
  · exact ⟨rfl, rfl⟩
  · rename_i k
    have hk : k ≠ .answer := fun e => hp (by simp [e])
    simp only [Part.same, saidOf, answer, List.filter_append]
    congr 2
    simp [Out.kind, Ne.symm hk]

/-! ### Entries and stacks -/

theorem touch_touches (n : Nat) : Touches [] s (s.touch n) := by
  unfold touch
  split
  · exact Touches.refl _ s
  · intro p _; cases p <;> first | rfl | exact ⟨rfl, rfl⟩

theorem touchIfChanged_touches (n : Nat) (e : Entry) : Touches [] s (s.touchIfChanged n e) := by
  unfold touchIfChanged
  exact Touches.ite (Touches.refl _ s) (s.touch_touches n)

theorem setEntry_touches (n : Nat) (e : Entry) : Touches [.entries] s (s.setEntry n e) := by
  have h := s.touchIfChanged_touches n e
  intro p hp
  have hq := h p (by simp)
  cases p <;> first | exact hq | rfl | exact absurd (by decide) hp

theorem updEntry_touches (n : Nat) (f : Entry → Entry) : Touches [.entries] s (s.updEntry n f) := by
  unfold updEntry
  split
  · exact Touches.refl _ s
  · exact s.setEntry_touches n _

theorem dropEntry_touches (n : Nat) : Touches [.entries] s (s.dropEntry n) := by
  unfold dropEntry
  split
  · exact Touches.refl _ s
  · have h := s.touch_touches n
    intro p hp
    have hq := h p (by simp)
    cases p <;> first | exact hq | rfl | exact absurd (by decide) hp

theorem setStack_touches (st : Nat) (l : List Nat) : Touches [.attnStacks] s (s.setStack st l) := by
  intro p hp; cases p <;> first | rfl | exact ⟨rfl, rfl⟩ | exact absurd (by decide) hp

theorem setAnnRec_touches (n : Nat) (r : AnnRec) : Touches [.recs] s (s.setAnnRec n r) := by
  intro p hp; cases p <;> first | rfl | exact ⟨rfl, rfl⟩ | exact absurd (by decide) hp

theorem updAnnRec_touches (n : Nat) (f : AnnRec → AnnRec) : Touches [.recs] s (s.updAnnRec n f) :=
  s.setAnnRec_touches n _

theorem push_touches (st n : Nat) : Touches [.attnStacks] s (s.push st n) := s.setStack_touches st _

theorem present_touches (st n : Nat) : Touches [.attnStacks] s (s.present st n) := by
  unfold present
  split
  · exact Touches.refl _ s
  · split
    · exact s.push_touches st n
    · exact Touches.refl _ s

theorem presentAt_touches (sts : List Nat) (n : Nat) : Touches [.attnStacks] s (s.presentAt sts n) :=
  Touches.foldl (fun s st => s.present_touches st n) sts s

/-- The scratch fields that hold no message are no part. -/
theorem refill_touches (r : NSet) : Touches [] s { s with ev := { s.ev with refill := r } } := by
  intro p _; cases p <;> first | rfl | exact ⟨rfl, rfl⟩

theorem unstack_touches (st n : Nat) : Touches [.attnStacks] s (s.unstack st n) := by
  unfold unstack
  split
  · exact (s.setStack_touches st _).trans ((refill_touches _ _).mono (by simp))
  · exact Touches.refl _ s

theorem unstackAll_touches (n : Nat) : Touches [.attnStacks] s (s.unstackAll n) :=
  Touches.foldl (fun s st => s.unstack_touches st n) _ s

theorem announceAt_touches (n : Nat) : Touches [.recs, .attnStacks] s (s.announceAt n) :=
  ((s.updAnnRec_touches n _).mono (by decide)).trans ((presentAt_touches _ _ n).mono (by decide))

theorem represent_touches (n : Nat) : Touches [.recs, .attnStacks] s (s.represent n) := by
  have h : Touches [.recs, .attnStacks] s ((s.updAnnRec n (fun a => { a with silenced := [] })).presentAt
      ((s.updAnnRec n (fun a => { a with silenced := [] })).annRec n).route n) :=
    ((s.updAnnRec_touches n _).mono (by decide)).trans ((presentAt_touches _ _ n).mono (by decide))
  intro p hp
  have hq := h p hp
  cases p <;> exact hq

theorem withdrawStacks_touches (n : Nat) : Touches [.recs, .attnStacks] s (s.withdrawStacks n) :=
  ((s.unstackAll_touches n).mono (by decide)).trans ((setAnnRec_touches _ n _).mono (by decide))

theorem leaveRoute_touches (st n : Nat) : Touches [.recs, .attnStacks] s (s.leaveRoute st n) :=
  ((s.unstack_touches st n).mono (by decide)).trans ((updAnnRec_touches _ n _).mono (by decide))

theorem rerouteAt_touches (news : List (Nat × NSet)) (st : Nat) : Touches [.recs, .attnStacks] s (s.rerouteAt news st) :=
  Touches.trans (Touches.foldl (fun s (p : Nat × NSet) => s.leaveRoute_touches st p.1) _ s)
    ((Touches.foldl (fun s (p : Nat × Entry) => s.present_touches st p.1) _ _).mono (by decide))

theorem reroute_touches : Touches [.recs, .attnStacks] s s.reroute :=
  Touches.trans (Touches.foldl (fun s st => s.rerouteAt_touches _ st) stationNumbers s)
    ((Touches.foldl (fun s (p : Nat × NSet) => s.updAnnRec_touches p.1 _) _ _).mono (by decide))

theorem refillAt_touches (st : Nat) : Touches [.attnStacks] s (s.refillAt st) := by
  unfold refillAt
  split
  · exact Touches.refl _ s
  · split
    · exact s.push_touches st _
    · exact Touches.refl _ s

theorem refillAll_touches : Touches [.attnStacks] s s.refillAll := Touches.foldl (fun s st => s.refillAt_touches st) _ s

/-! ### The end of an event -/

theorem kind_announces : ∀ o ∈ s.announces, o.kind = .announce := by
  intro o h
  simp only [announces, List.mem_flatMap, List.mem_map] at h
  obtain ⟨a, -, st, -, rfl⟩ := h
  rfl

theorem kind_attentions : ∀ o ∈ s.attentions, o.kind = .attention := by
  intro o h
  simp only [attentions, List.mem_map] at h
  obtain ⟨st, -, rfl⟩ := h
  rfl

theorem kind_areaNotices : ∀ o ∈ s.areaNotices, o.kind = .notice := by
  intro o h
  simp only [areaNotices, List.mem_flatMap] at h
  obtain ⟨p, -, h⟩ := h
  exact kind_toUp o h

theorem sayAreas_touches : Touches [.said .notice] s s.sayAreas := by
  have h := s.say_notices _ s.kind_areaNotices
  intro p hp
  have hq := h p hp
  cases p <;> exact hq

theorem kind_updateNotices : ∀ o ∈ s.updateNotices, o.kind = .notice := by
  intro o h
  simp only [updateNotices, List.mem_flatMap] at h
  obtain ⟨a, -, h⟩ := h
  split at h
  · simp at h
  · exact kind_heardBy_notice o h

theorem withLoad_of_kind {o : Out} (h : o.kind ≠ .notice) : s.withLoad o = o := by
  unfold withLoad
  split
  · simp [Out.kind] at h
  · rfl

theorem kind_withLoad (o : Out) : (s.withLoad o).kind = o.kind := by
  unfold withLoad
  split <;> rfl

theorem filter_withLoad {k : MsgKind} (hk : k ≠ .notice) (os : List Out) :
    (os.map s.withLoad).filter (fun o => decide (o.kind = k)) = os.filter (fun o => decide (o.kind = k)) := by
  induction os with
  | nil => rfl
  | cons o os ih =>
    simp only [List.map_cons, List.filter_cons, kind_withLoad, ih]
    split
    · rename_i h
      simp only [decide_eq_true_eq] at h
      rw [s.withLoad_of_kind (by rw [h]; exact hk)]
    · rfl

/-- The end of an event recomputes routes, stacks and shown tops, drives UNIT ALARM and sends ANNOUNCE, ATTENTION and
NOTICE; it leaves every other part as it is, and sends every other message that was ready unchanged. -/
theorem finish_touches : Touches endParts s s.finish := by
  have ht : Touches [.recs, .attnStacks] s s.reroute.refillAll :=
    s.reroute_touches.trans ((refillAll_touches _).mono (by decide))
  have ho : s.reroute.refillAll.ann.overdue = s.ann.overdue := ht .overdue (by decide)
  intro p hp
  cases p <;> first | rfl | exact ⟨rfl, rfl⟩ | exact ho | exact absurd (by decide) hp | skip
  rename_i k
  have h1 : k ≠ .announce := fun e => hp (by simp [endParts, e])
  have h2 : k ≠ .attention := fun e => hp (by simp [endParts, e])
  have h3 : k ≠ .notice := fun e => hp (by simp [endParts, e])
  simp only [Part.same, saidOf, finish, EvBuf.empty, List.append_nil, List.filter_append]
  have announced : s.announces.filter (fun o => decide (o.kind = k)) = [] :=
    filter_kind_nil (fun o ho => by rw [s.kind_announces o ho]; exact h1.symm)
  have attended : s.reroute.refillAll.attentions.filter (fun o => decide (o.kind = k)) = [] :=
    filter_kind_nil (fun o ho => by rw [kind_attentions _ o ho]; exact h2.symm)
  have updated : s.updateNotices.filter (fun o => decide (o.kind = k)) = [] :=
    filter_kind_nil (fun o ho => by rw [s.kind_updateNotices o ho]; exact h3.symm)
  rw [filter_withLoad s h3, filter_withLoad s h3, announced, attended, updated]
  simp

/-! ### System alarms and the overdue count -/

theorem sysRaise_touches (n : Nat) (x : Subject) : Touches sysParts s (s.sysRaise n x) := by
  unfold sysRaise
  split
  · exact ((s.setEntry_touches n _).mono (by decide)).trans ((announceAt_touches _ n).mono (by decide))
  · simp only
    split
    · exact (s.setEntry_touches n _).mono (by decide)
    · exact ((s.setEntry_touches n _).mono (by decide)).trans ((represent_touches _ n).mono (by decide))

theorem sysUpdate_touches (n : Nat) (x : Subject) : Touches sysParts s (s.sysUpdate n x) := by
  unfold sysUpdate
  split
  · exact Touches.refl _ s
  · split
    · exact (s.setEntry_touches n _).mono (by decide)
    · exact Touches.refl _ s

theorem sysRemove_touches (n : Nat) : Touches sysParts s (s.sysRemove n) :=
  ((s.withdrawStacks_touches n).mono (by decide)).trans ((dropEntry_touches _ n).mono (by decide))

theorem sysReturn_touches (n : Nat) : Touches sysParts s (s.sysReturn n) := by
  unfold sysReturn
  split
  · exact Touches.refl _ s
  · split
    · exact Touches.refl _ s
    · split
      · exact s.sysRemove_touches n
      · exact (s.setEntry_touches n _).mono (by decide)

theorem sysFollow_touches (n : Nat) (before after : NSet) (x : Subject) :
    Touches sysParts s (s.sysFollow n before after x) := by
  unfold sysFollow
  split
  · exact Touches.refl _ s
  · split
    · exact s.sysRaise_touches n x
    · split
      · exact s.sysReturn_touches n
      · exact s.sysUpdate_touches n x

theorem setOverdue_touches (k : Nat) : Touches [.overdue] s { s with ann := { s.ann with overdue := k } } := by
  intro p hp; cases p <;> first | rfl | exact ⟨rfl, rfl⟩ | exact absurd (by decide) hp

theorem overdueUp_touches : Touches (.overdue :: sysParts) s s.overdueUp :=
  ((s.setOverdue_touches _).mono (by decide)).trans ((sysRaise_touches _ _ _).mono (by decide))

theorem overdueDown_touches : Touches (.overdue :: sysParts) s s.overdueDown := by
  unfold overdueDown
  refine ((s.setOverdue_touches (s.ann.overdue - 1)).mono (by decide)).trans ?_
  exact Touches.ite ((sysReturn_touches _ _).mono (by decide)) ((sysUpdate_touches _ _ _).mono (by decide))

theorem withdraw_touches (n : Nat) : Touches (.overdue :: sysParts) s (s.withdraw n) := by
  unfold withdraw
  split
  · exact Touches.refl _ s
  · have h : Touches (.overdue :: sysParts) s (s.withdrawStacks n) := (s.withdrawStacks_touches n).mono (by decide)
    exact Touches.ite (h.trans (overdueDown_touches _)) h

/-! ### A session's list -/

theorem setHand_touches (t : Tbl Handover) : Touches [.handover] s { s with hand := t } := by
  intro p hp; cases p <;> first | rfl | exact ⟨rfl, rfl⟩ | exact absurd (by decide) hp

theorem updSession_touches (a : Nat) (f : Session → Session) : Touches [.handover] s (s.updSession a f) := by
  unfold updSession
  split
  · exact s.setHand_touches _
  · exact s.setHand_touches _
  · exact Touches.refl _ s

theorem noteItems_touches (a : Nat) : Touches [] s (s.noteItems a) := by
  intro p _; cases p <;> first | rfl | exact ⟨rfl, rfl⟩

theorem appendItem_touches (a : Nat) (r : ItemRef) (p : Option Priority) : Touches [.handover] s (s.appendItem a r p) :=
  Touches.ite ((s.updSession_touches a _).trans ((noteItems_touches _ a).mono (by simp))) (Touches.refl _ s)

theorem resolveItems_touches (a : Nat) (p : ItemRef → Bool) : Touches [.handover] s (s.resolveItems a p) := by
  unfold resolveItems
  split
  · exact Touches.refl _ s
  · exact Touches.ite ((s.updSession_touches a _).trans ((noteItems_touches _ a).mono (by simp))) (Touches.refl _ s)

theorem repriceItems_touches (a : Nat) (r : Ref) (p : Priority) : Touches [.handover] s (s.repriceItems a r p) :=
  s.updSession_touches a _

/-! ### The Flood Monitor -/

theorem setLoad_touches (a x : Nat) : Touches [.load] s (s.setLoad a x) := by
  intro p hp; cases p <;> first | rfl | exact ⟨rfl, rfl⟩ | exact absurd (by decide) hp

theorem setRelease_touches (a : Nat) (x : Option Nat) : Touches [.release] s (s.setRelease a x) := by
  intro p hp; cases p <;> first | rfl | exact ⟨rfl, rfl⟩ | exact absurd (by decide) hp

theorem setFlooded_touches (a : Nat) (f : Bool) : Touches [.flooded, .said .notice] s (s.setFlooded a f) := by
  unfold setFlooded
  refine Touches.trans ?_ ((say_notices _ _ kind_toUp).mono (by decide))
  intro p hp; cases p <;> first | rfl | exact ⟨rfl, rfl⟩ | exact absurd (by decide) hp

def floodParts : List Part := [.load, .flooded, .release, .said .notice]

theorem floodEntryTest_touches (a : Nat) : Touches [.flooded, .release, .said .notice] s (s.floodEntryTest a) :=
  Touches.ite (((s.setFlooded_touches a true).mono (by decide)).trans ((setRelease_touches _ a none).mono (by decide)))
    (Touches.refl _ s)

theorem floodExitTest_touches (a : Nat) : Touches [.flooded, .release, .said .notice] s (s.floodExitTest a) := by
  unfold floodExitTest
  split
  · refine ((s.setFlooded_touches a false).mono (by decide)).trans ?_
    exact Touches.ite (Touches.refl _ _) ((setRelease_touches _ a _).mono (by decide))
  · exact Touches.refl _ s

theorem addCounted_touches (a : Nat) (p : Priority) : Touches floodParts s (s.addCounted a p) :=
  ((s.setLoad_touches a _).mono (by decide)).trans ((floodEntryTest_touches _ a).mono (by decide))

theorem overflowTest_touches : Touches ([.overflow, .overflowSubject] ++ sysParts) s s.overflowTest := by
  unfold overflowTest
  split
  · refine Touches.trans ?_ ((sysReturn_touches _ 515).mono (by decide))
    intro p hp; cases p <;> first | rfl | exact ⟨rfl, rfl⟩ | exact absurd (by decide) hp
  · exact Touches.refl _ s

theorem setDeferred_touches (l : List DeferredItem) :
    Touches [.deferred] s { s with flood := { s.flood with deferred := l } } := by
  intro p hp; cases p <;> first | rfl | exact ⟨rfl, rfl⟩ | exact absurd (by decide) hp

/-- What the departure of an entry from the Deferred List may touch (R74, R75). -/
def departureParts : List Part := [.deferred, .overflow, .overflowSubject, .release, .handover] ++ sysParts

theorem undefer_touches (n : Nat) : Touches departureParts s (s.undefer n) := by
  unfold undefer
  split
  · exact Touches.refl _ s
  · have h : Touches departureParts s ({ s with flood := { s.flood with
        deferred := s.flood.deferred.filter (fun x => decide (x.ref.num ≠ n)) } } : State).overflowTest :=
      ((s.setDeferred_touches _).mono (by decide)).trans ((overflowTest_touches _).mono (by decide))
    exact Touches.ite (h.trans (((setRelease_touches _ _ none).mono (by decide)).trans
      ((resolveItems_touches _ _ _).mono (by decide)))) h

theorem defer_touches (n a : Nat) : Touches [.deferred, .entries] s (s.defer n a) :=
  ((s.setDeferred_touches _).mono (by decide)).trans ((updEntry_touches _ n _).mono (by decide))

theorem annunciate_touches (n : Nat) : Touches (.handover :: sysParts) s (s.annunciate n) := by
  unfold annunciate
  split
  · exact Touches.refl _ s
  · exact .after (appendItem_touches _ _ _ _) (by decide) (.after (announceAt_touches _ n) (by decide)
      (.after (updAnnRec_touches _ n _) (by decide) ((s.setEntry_touches n _).mono (by decide))))

theorem noteOverflow_touches (a : Nat) :
    Touches ([.overflow, .overflowSubject, .overflows] ++ sysParts) s (s.noteOverflow a) := by
  unfold noteOverflow
  refine Touches.trans ?_ ((sysRaise_touches _ 515 _).mono (by decide))
  intro p hp; cases p <;> first | rfl | exact ⟨rfl, rfl⟩ | exact absurd (by decide) hp

/-- What an admission may touch (R71 to R74). -/
def admissionParts : List Part :=
  [.deferred, .overflow, .overflowSubject, .overflows, .handover] ++ floodParts ++ sysParts

theorem admitEntry_touches (n : Nat) (counted : Bool) : Touches admissionParts s (s.admitEntry n counted) := by
  unfold admitEntry
  split
  · exact Touches.refl _ s
  · rename_i e _
    have hw : Touches admissionParts s (if counted = true then s.addCounted e.area e.cur else s) :=
      Touches.ite ((s.addCounted_touches _ _).mono (by decide)) (Touches.refl _ s)
    refine Touches.ite (Touches.ite ((s.defer_touches n _).mono (by decide)) ?_) ?_
    · exact hw.trans (((noteOverflow_touches _ _).mono (by decide)).trans ((annunciate_touches _ n).mono (by decide)))
    · exact hw.trans ((annunciate_touches _ n).mono (by decide))

theorem decay_touches (a : Nat) : Touches floodParts s (s.decay a) :=
  Touches.ite (Touches.refl _ s)
    (((s.setLoad_touches a _).mono (by decide)).trans ((floodExitTest_touches _ a).mono (by decide)))

theorem floodOut_touches (a : Nat) : Touches floodParts s (s.floodOut a) := by
  unfold floodOut
  have h : Touches floodParts s ((s.setLoad a 0).setRelease a none) :=
    ((s.setLoad_touches a 0).mono (by decide)).trans ((setRelease_touches _ a none).mono (by decide))
  exact Touches.ite (h.trans ((setFlooded_touches _ a false).mono (by decide))) h

theorem releaseOldest_touches (a : Nat) : Touches admissionParts s (s.releaseOldest a) := by
  unfold releaseOldest
  split
  · exact (s.setRelease_touches a none).mono (by decide)
  · dsimp only
    split
    · exact (s.undefer_touches _).mono (by decide)
    · rename_i d _ _ _ e _
      have h : Touches admissionParts s ((((s.undefer d.ref.num).updEntry d.ref.num
          (fun e => { e with disp := .annunciated })).addCounted a e.cur).annunciate d.ref.num) :=
        .after (annunciate_touches _ _) (by decide) (.after (addCounted_touches _ a _) (by decide)
          (.after (updEntry_touches _ _ _) (by decide) ((s.undefer_touches _).mono (by decide))))
      exact Touches.ite h (Touches.ite (.after (setRelease_touches _ a none) (by decide) h)
        (.after (setRelease_touches _ a _) (by decide) h))

/-! ### The Alarm Processor -/

theorem decideUnshelved_touches (n : Nat) (counted : Bool) : Touches admissionParts s (s.decideUnshelved n counted) := by
  unfold decideUnshelved
  split
  · exact Touches.refl _ s
  · exact Touches.ite ((s.setEntry_touches n _).mono (by decide)) (s.admitEntry_touches n counted)

theorem decideEntry_touches (n : Nat) (counted : Bool) : Touches admissionParts s (s.decideEntry n counted) := by
  unfold decideEntry
  split
  · exact Touches.refl _ s
  · split
    · exact (s.setEntry_touches n _).mono (by decide)
    · exact s.decideUnshelved_touches n counted

theorem resetForDecision_touches (n : Nat) : Touches [.entries, .recs] s (s.resetForDecision n) :=
  ((s.updEntry_touches n _).mono (by decide)).trans ((updAnnRec_touches _ n _).mono (by decide))

theorem parentDeparted_touches (tag : Nat) : Touches admissionParts s (s.parentDeparted tag) :=
  Touches.foldl (fun s n => Touches.ite (((s.resetForDecision_touches n).mono (by decide)).trans
    (decideEntry_touches _ n true)) (Touches.refl _ s)) _ s

theorem tableFullTest_touches : Touches (.tableFull :: sysParts) s s.tableFullTest := by
  unfold tableFullTest
  split
  · refine Touches.trans ?_ ((sysReturn_touches _ 514).mono (by decide))
    intro p hp; cases p <;> first | rfl | exact ⟨rfl, rfl⟩ | exact absurd (by decide) hp
  · exact Touches.refl _ s

theorem freeOrdinary_touches (n : Nat) : Touches ([.gens, .tableFull] ++ sysParts) s (s.freeOrdinary n) := by
  unfold freeOrdinary
  refine ((s.dropEntry_touches n).mono (by decide)).trans (Touches.trans ?_ ((tableFullTest_touches _).mono (by decide)))
  intro p hp; cases p <;> first | rfl | exact ⟨rfl, rfl⟩ | exact absurd (by decide) hp

/-- The removal of an entry touches what alarms touch (R59). -/
theorem removeEntry_touches (n : Nat) : Touches alarmParts s (s.removeEntry n) := by
  unfold removeEntry
  split
  · exact Touches.refl _ s
  · rename_i e _
    have h : Touches alarmParts s
        ((((s.undefer n).withdraw n).resolveItems e.area (namesAlarm (s.refOf n))).freeOrdinary n) :=
      .after (freeOrdinary_touches _ n) (by decide) (.after (resolveItems_touches _ _ _) (by decide)
        (.after (withdraw_touches _ n) (by decide) ((s.undefer_touches n).mono (by decide))))
    refine Touches.ite (h.trans ?_) h
    split
    · exact Touches.refl _ _
    · exact (parentDeparted_touches _ _).mono (by decide)

theorem countDiscarded_touches (a : Nat) : Touches [.discarded] s (s.countDiscarded a) := by
  intro p hp; cases p <;> first | rfl | exact ⟨rfl, rfl⟩ | exact absurd (by decide) hp

theorem countDuplicate_touches (a : Nat) : Touches [.duplicates] s (s.countDuplicate a) := by
  intro p hp; cases p <;> first | rfl | exact ⟨rfl, rfl⟩ | exact absurd (by decide) hp

theorem countDropped_touches (a : Nat) : Touches [.dropped] s (s.countDropped a) := by
  intro p hp; cases p <;> first | rfl | exact ⟨rfl, rfl⟩ | exact absurd (by decide) hp

/-- What a notice may touch in the Alarm Processor and behind it (R45 to R51). -/
def noticeParts : List Part := [.countersB, .discarded, .duplicates, .dropped] ++ alarmParts

theorem dropRaise_touches (a : Nat) : Touches ([.dropped, .tableFull] ++ sysParts) s (s.dropRaise a) := by
  unfold dropRaise
  refine ((s.countDropped_touches a).mono (by decide)).trans (Touches.trans ?_ ((sysRaise_touches _ 514 _).mono (by decide)))
  intro p hp; cases p <;> first | rfl | exact ⟨rfl, rfl⟩ | exact absurd (by decide) hp

theorem createEntry_touches (tag cond a : Nat) (p : Priority) (r : Bool) (time : MillTime) :
    Touches (.dropped :: alarmParts) s (s.createEntry tag cond a p r time) := by
  unfold createEntry
  split
  · exact (s.dropRaise_touches a).mono (by decide)
  · exact ((s.setEntry_touches _ _).mono (by decide)).trans ((decideEntry_touches _ _ _).mono (by decide))

theorem reRaise_touches (n : Nat) (r : Bool) : Touches alarmParts s (s.reRaise n r) := by
  unfold reRaise
  split
  · exact Touches.refl _ s
  · refine Touches.ite ?_ ((s.setEntry_touches n _).mono (by decide))
    refine Touches.trans ?_ ((represent_touches _ n).mono (by decide))
    exact Touches.ite ((s.setEntry_touches n _).mono (by decide))
      (((s.setEntry_touches n _).mono (by decide)).trans ((addCounted_touches _ _ _).mono (by decide)))

theorem applyRaise_touches (tag cond a : Nat) (p : Priority) (r : Bool) (time : MillTime) :
    Touches ([.duplicates, .dropped] ++ alarmParts) s (s.applyRaise tag cond a p r time) := by
  unfold applyRaise
  split
  · exact (s.createEntry_touches tag cond a p r time).mono (by decide)
  · refine ((s.setEntry_touches _ _).mono (by decide)).trans (Touches.ite ?_ ((reRaise_touches _ _ r).mono (by decide)))
    exact Touches.ite (Touches.refl _ _) ((countDuplicate_touches _ _).mono (by decide))

theorem returnActive_touches (n : Nat) (time : MillTime) : Touches alarmParts s (s.returnActive n time) := by
  unfold returnActive
  split
  · exact Touches.refl _ s
  · refine Touches.ite (s.removeEntry_touches n) ?_
    dsimp only
    split
    · exact (s.setEntry_touches n _).mono (by decide)
    · exact .after (parentDeparted_touches _ _) (by decide) ((s.setEntry_touches n _).mono (by decide))

theorem applyReturn_touches (n : Nat) (e : Entry) (time : MillTime) :
    Touches (.duplicates :: alarmParts) s (s.applyReturn n e time) :=
  ((s.setEntry_touches n _).mono (by decide)).trans (Touches.ite ((returnActive_touches _ n time).mono (by decide))
    ((countDuplicate_touches _ _).mono (by decide)))

theorem unknownTag_touches (c : CountersB) :
    Touches [.countersB] s { s with plant := { s.plant with counters := c } } := by
  intro p hp; cases p <;> first | rfl | exact ⟨rfl, rfl⟩ | exact absurd (by decide) hp

theorem takeNotice_touches (tag cond : Nat) (raised resync : Bool) (time : MillTime) :
    Touches noticeParts s (s.takeNotice tag cond raised resync time) := by
  unfold takeNotice
  split
  · exact (s.unknownTag_touches _).mono (by decide)
  · split
    · exact (s.countDiscarded_touches _).mono (by decide)
    · refine Touches.ite ((s.countDiscarded_touches _).mono (by decide))
        (Touches.ite ((s.applyRaise_touches _ _ _ _ _ _).mono (by decide)) ?_)
      split
      · exact (s.countDiscarded_touches _).mono (by decide)
      · exact (s.applyReturn_touches _ _ _).mono (by decide)

/-- A RETURN drops no raise. -/
theorem takeNotice_return_touches (tag cond : Nat) (resync : Bool) (time : MillTime) :
    Touches ([.countersB, .discarded, .duplicates] ++ alarmParts) s (s.takeNotice tag cond false resync time) := by
  unfold takeNotice
  split
  · exact (s.unknownTag_touches _).mono (by decide)
  · split
    · exact (s.countDiscarded_touches _).mono (by decide)
    · refine Touches.ite ((s.countDiscarded_touches _).mono (by decide)) ?_
      simp only [Bool.false_eq_true, if_false]
      split
      · exact (s.countDiscarded_touches _).mono (by decide)
      · exact (s.applyReturn_touches _ _ _).mono (by decide)

theorem markStale_touches : Touches [.entries] s s.markStale := Touches.foldl (fun s n => s.updEntry_touches n _) _ s

theorem setEntries_touches (t : Tbl Entry) : Touches [.entries] s { s with alarm := { s.alarm with entries := t } } := by
  intro p hp; cases p <;> first | rfl | exact ⟨rfl, rfl⟩ | exact absurd (by decide) hp

theorem clearConfirmed_touches : Touches [.entries] s s.clearConfirmed := s.setEntries_touches _

theorem sweep_touches : Touches alarmParts s s.sweep := by
  unfold sweep
  dsimp only
  refine .after (Touches.foldl (l := [.entries]) (fun s n => s.updEntry_touches n _) _ _) (by decide) ?_
  refine Touches.foldl (fun s n => ?_) _ s
  exact Touches.ite (s.returnActive_touches n s.time.mill) (Touches.refl _ s)

theorem relayAck_touches (tag cond badge : Nat) (time : MillTime) :
    Touches [.countersB, .said .relay] s (s.relayAck tag cond badge time) := by
  unfold relayAck
  refine Touches.ite ((s.unknownTag_touches _).mono (by decide)) ?_
  exact ((s.unknownTag_touches _).mono (by decide)).trans (say_touches _ _ (by simp [Out.kind]))

theorem relayFor_touches (e : Entry) (op : Nat) : Touches [.countersB, .said .relay] s (s.relayFor e op) := by
  unfold relayFor
  split
  · exact Touches.ite (s.relayAck_touches _ _ _ _) (Touches.refl _ s)
  · exact Touches.refl _ s

theorem acknowledge_touches (n op : Nat) : Touches ([.countersB, .said .relay] ++ alarmParts) s (s.acknowledge n op) := by
  unfold acknowledge
  split
  · exact Touches.refl _ s
  · dsimp only
    refine .after (relayFor_touches _ _ op) (by decide) ?_
    rename_i e _
    have h : Touches ([.countersB, .said .relay] ++ alarmParts) s
        (((s.touch n).withdraw n).updEntry n (fun e => { e with ack := some ⟨s.time.mill, op⟩ })) :=
      .after (updEntry_touches _ n _) (by decide) (.after (withdraw_touches _ n) (by decide)
        ((s.touch_touches n).mono (by simp)))
    refine Touches.ite (Touches.ite (.after (sysRemove_touches _ n) (by decide) h)
      (.after (removeEntry_touches _ n) (by decide) h)) (Touches.ite ?_ h)
    exact .after (updEntry_touches _ n _) (by decide) (.after (undefer_touches _ n) (by decide) h)

end State

end Sys2Proof.Machine
end

