-- ==== Sys2Proof/Laws/FrameEvents.lean ====
section
/-! SUPPORT. What each event touches: ownership and cover, the Command Gate, the two ports, and every request. -/

namespace Sys2Proof.Machine

namespace State

variable (s : State)

/-! ### Ownership and cover -/

theorem noteArea_touches (a : Nat) : Touches [] s (s.noteArea a) := by
  unfold noteArea
  refine Touches.ite (Touches.refl _ s) ?_
  intro p _; cases p <;> first | rfl | exact ⟨rfl, rfl⟩

theorem disown_touches (a : Nat) : Touches [.owner] s (s.disown a) := by
  have h := s.noteArea_touches a
  intro p hp
  have hq := h p (by simp)
  cases p <;> first | exact hq | rfl | exact ⟨rfl, rfl⟩ | exact absurd (by decide) hp

theorem giveOwner_touches (a op st : Nat) : Touches [.owner, .cover] s (s.giveOwner a op st) := by
  have h := s.noteArea_touches a
  intro p hp
  have hq := h p (by simp)
  cases p <;> first | exact hq | rfl | exact ⟨rfl, rfl⟩ | exact absurd (by decide) hp

theorem setCover_touches (a : Nat) : Touches [.cover] s (s.setCover a) := by
  unfold setCover
  dsimp only
  refine Touches.ite (Touches.refl _ s) ?_
  have h := s.noteArea_touches a
  intro p hp
  have hq := h p (by simp)
  cases p <;> first | exact hq | rfl | exact ⟨rfl, rfl⟩ | exact absurd (by decide) hp

theorem setOrphans_touches : Touches [.orphans] s s.setOrphans := by
  intro p hp; cases p <;> first | rfl | exact ⟨rfl, rfl⟩ | exact absurd (by decide) hp

theorem coverScan_touches : Touches coverParts s s.coverScan := by
  unfold coverScan
  exact .after (sysFollow_touches _ 516 _ _ _) (by decide) (.after (reroute_touches _) (by decide)
    (.after (sayAreas_touches _) (by decide) (.after (setOrphans_touches _) (by decide)
      ((Touches.foldl (fun s a => s.setCover_touches a) areaNumbers s).mono (by decide)))))

theorem kind_overrideNotice (event : OverrideEvent) (o : Override) :
    ∀ x ∈ s.overrideNotice event o, x.kind = .notice := kind_toUp

theorem setOverrides_touches (t : Tbl Override) : Touches [.overrides] s { s with overrides := t } := by
  intro p hp; cases p <;> first | rfl | exact ⟨rfl, rfl⟩ | exact absurd (by decide) hp

theorem changeHolders_touches (a op : Nat) : Touches [.overrides, .said .notice] s (s.changeHolders a op) := by
  unfold changeHolders
  refine Touches.foldl (fun s p => ?_) _ s
  exact .after (sayAfter_notices _ _ (kind_overrideNotice s _ _)) (by decide)
    ((s.setOverrides_touches _).mono (by decide))

theorem idleHandover_touches (a : Nat) : Touches [.handover] s (s.idleHandover a) := s.setHand_touches _

theorem sayClosed_touches (reason : CloseReason) (os : List Out) (h : ∀ o ∈ os, o.kind = .notice) :
    Touches [.said .notice] s (s.sayClosed reason os) := by
  unfold sayClosed
  split
  · exact s.say_notices os h
  · exact s.say_notices os h
  · exact s.say_notices os h
  · exact s.say_notices os h
  · exact s.sayAfter_notices os h

theorem leaveIncoming_touches (a st : Nat) : Touches [.recs, .attnStacks] s (s.leaveIncoming a st) :=
  Touches.foldl (fun s n => .after (updAnnRec_touches _ n _) (by decide) (s.leaveRoute_touches st n)) _ s

theorem leaveClosed_touches (a st : Nat) (r : CloseReason) : Touches [.recs, .attnStacks] s (s.leaveClosed a st r) := by
  unfold leaveClosed
  split
  · exact Touches.refl _ s
  · exact Touches.refl _ s
  · exact s.leaveIncoming_touches a st

theorem closeSession_touches (a : Nat) (r : CloseReason) :
    Touches [.handover, .recs, .attnStacks, .said .notice] s (s.closeSession a r) := by
  unfold closeSession
  split
  · exact Touches.refl _ s
  · exact .after (sayClosed_touches _ _ _ kind_toBoth) (by decide)
      (.after (leaveClosed_touches _ _ _ _) (by decide) ((s.idleHandover_touches a).mono (by decide)))

theorem cancelTakeover_touches (a : Nat) (r : CloseReason) :
    Touches [.handover, .said .notice] s (s.cancelTakeover a r) := by
  unfold cancelTakeover
  split
  · refine .after (sayClosed_touches _ _ _ ?_) (by decide) ((s.idleHandover_touches a).mono (by decide))
    split
    · exact kind_heardBy_notice
    · exact kind_toBoth
  · exact Touches.refl _ s

theorem transferOwner_touches {a op : Nat} {t : State} (h : s.transferOwner a op = some t) :
    Touches [.owner, .cover] s t := by
  unfold transferOwner at h
  cases hc : s.ownerConditions op a with
  | none => simp [hc] at h
  | some st =>
    simp only [hc, Option.map_some, Option.some.injEq] at h
    exact h ▸ s.giveOwner_touches a op st

theorem concludeTransfer_touches (a op : Nat) (k : TransferKind) (old : Option (Nat × Nat)) :
    Touches [.overrides, .handover, .said .notice] s (s.concludeTransfer a op k old) := by
  unfold concludeTransfer
  dsimp only
  have h : Touches [.overrides, .handover, .said .notice] s ((s.changeHolders a op).idleHandover a) :=
    .after (idleHandover_touches _ a) (by decide) ((s.changeHolders_touches a op).mono (by decide))
  split
  · exact .after (sayAfter_notices _ _ kind_heardBy_notice) (by decide) h
  · exact .after (sayAfter_notices _ _ kind_toBoth) (by decide) h
  · exact .after (sayAfter_notices _ _ kind_toBoth) (by decide) h

/-- The transfer of an area without its cover scan. -/
def takingParts : List Part := [.owner, .cover, .overrides, .handover, .said .notice]

theorem completeHandover_touches (a : Nat) : Touches transferParts s (s.completeHandover a) := by
  unfold completeHandover
  split
  · exact Touches.refl _ s
  · split
    · exact (s.closeSession_touches a _).mono (by decide)
    · rename_i t h
      exact .after (concludeTransfer_touches _ _ _ _ _) (by decide) (.after (coverScan_touches _) (by decide)
        ((s.transferOwner_touches h).mono (by decide)))

theorem takeArea_touches (a op : Nat) : Touches takingParts s (s.takeArea a op) := by
  unfold takeArea
  split
  · exact (s.cancelTakeover_touches a _).mono (by decide)
  · rename_i t h
    exact .after (concludeTransfer_touches _ _ _ _ _) (by decide) ((s.transferOwner_touches h).mono (by decide))

theorem completeTakeover_touches (a op : Nat) : Touches transferParts s (s.completeTakeover a op) := by
  unfold completeTakeover
  split
  · exact (s.cancelTakeover_touches a _).mono (by decide)
  · rename_i t h
    exact .after (concludeTransfer_touches _ _ _ _ _) (by decide) (.after (coverScan_touches _) (by decide)
      ((s.transferOwner_touches h).mono (by decide)))

theorem quiesced_touches (a : Nat) : Touches transferParts s (s.quiesced a) := by
  unfold quiesced
  refine Touches.ite (Touches.refl _ s) ?_
  split
  · exact s.completeHandover_touches a
  · exact s.completeTakeover_touches a _
  · exact Touches.refl _ s

/-! ### The Command Gate -/

theorem setTransit_touches (t : Tbl Transit) :
    Touches [.transit] s { s with gate := { s.gate with transit := t } } := by
  intro p hp; cases p <;> first | rfl | exact ⟨rfl, rfl⟩ | exact absurd (by decide) hp

theorem freeTransit_touches (k : Nat) : Touches [.transit] s (s.freeTransit k) := s.setTransit_touches _

theorem updTransit_touches (k : Nat) (f : Transit → Transit) : Touches [.transit] s (s.updTransit k f) :=
  s.setTransit_touches _

theorem kind_resultMsgs {k : Nat} {t : Transit} {o : ResultOutcome} {d : Nat} {also : Option Nat} :
    ∀ x ∈ s.resultMsgs k t o d also, x.kind = .result := by
  intro x h
  simp only [resultMsgs, List.mem_flatMap] at h
  obtain ⟨st, -, h⟩ := h
  rw [kind_heardBy h]; rfl

theorem kind_closedMsgs {k : Nat} {t : Transit} {o : ClosedOutcome} {cause : Option Nat} :
    ∀ x ∈ s.closedMsgs k t o cause, x.kind = .notice := by
  intro x h
  simp only [closedMsgs, List.mem_flatMap] at h
  obtain ⟨st, -, h⟩ := h
  exact kind_heardBy_notice x h

theorem say_results (os : List Out) (h : ∀ o ∈ os, o.kind = .result) : Touches [.said .result] s (s.say os) :=
  s.say_touches os (fun o ho => by simp [h o ho])

/-- The end of a waiting entry (R134, R149). -/
def waitingParts : List Part := [.transit, .handover, .said .result, .said .notice]

theorem endAwaiting_touches (k : Nat) (o : ResultOutcome) (d : Nat) (c : ClosedOutcome) (cause also : Option Nat) :
    Touches waitingParts s (s.endAwaiting k o d c cause also) := by
  unfold endAwaiting
  split
  · exact Touches.refl _ s
  · exact .after (resolveItems_touches _ _ _) (by decide) (.after (say_notices _ _ (kind_closedMsgs s)) (by decide)
      (.after (say_results _ _ (kind_resultMsgs s)) (by decide) ((s.freeTransit_touches k).mono (by decide))))

theorem endFlight_touches (k : Nat) (o : ResultOutcome) (d : Nat) : Touches endingParts s (s.endFlight k o d) := by
  unfold endFlight
  split
  · exact Touches.refl _ s
  · exact .after (quiesced_touches _ _) (by decide) (.after (resolveItems_touches _ _ _) (by decide)
      (.after (say_results _ _ (kind_resultMsgs s)) (by decide) ((s.freeTransit_touches k).mono (by decide))))

theorem withdrawWaiting_touches (p : Transit → Bool) (r : WithdrawReason) :
    Touches waitingParts s (s.withdrawWaiting p r) :=
  Touches.foldl (fun s k => s.endAwaiting_touches k _ _ _ _ _) _ s

theorem forwardEntry_touches (k : Nat) : Touches [.transit, .said .forward] s (s.forwardEntry k) := by
  unfold forwardEntry
  split
  · exact Touches.refl _ s
  · exact .after (l' := [.said .forward]) (say_touches _ _ (by simp [forwardMsg, Out.kind])) (by decide)
      ((s.setTransit_touches _).mono (by decide))

theorem kind_countersignRequests {k : Nat} {t : Transit} :
    ∀ x ∈ s.countersignRequests k t, x.kind = .countersign := by
  intro x h
  simp only [countersignRequests, List.mem_map] at h
  obtain ⟨st, -, rfl⟩ := h
  rfl

/-- The creation of a transit entry (R121, R127). -/
def creationParts : List Part := [.transit, .ticket, .handover, .said .countersign, .said .forward]

theorem createTransit_touches (op st tag : Nat) (r : TagRec) (act : Action) (v : BitVec 32) :
    Touches creationParts s (s.createTransit op st tag r act v) := by
  unfold createTransit
  dsimp only
  refine .after (appendItem_touches _ _ _ _) (by decide) ?_
  have h (t : Tbl Transit) (n : Nat) :
      Touches creationParts s { s with gate := { s.gate with transit := t, ticket := n } } := by
    intro p hp; cases p <;> first | rfl | exact ⟨rfl, rfl⟩ | exact absurd (by decide) hp
  refine Touches.ite ?_ (.after (forwardEntry_touches _ _) (by decide) (h _ _))
  exact .after (l' := [.said .countersign]) (say_touches _ _ (fun o ho => by simp [kind_countersignRequests _ o ho]))
    (by decide) (h _ _)

theorem takeCommand_touches (st tag act : Nat) (v : BitVec 32) (rsv : Nat) :
    Touches creationParts s (s.takeCommand st tag act v rsv).1 := by
  unfold takeCommand
  repeat' split
  all_goals try dsimp only
  all_goals first | with_reducible exact Touches.refl _ _ | exact s.createTransit_touches _ _ _ _ _ _

theorem takeDecline_touches (st k tag rsv : Nat) : Touches waitingParts s (s.takeDecline st k tag rsv).1 := by
  unfold takeDecline
  split
  · exact Touches.refl _ s
  · exact s.endAwaiting_touches _ _ _ _ _ _

theorem takeAgree_touches (st k tag rsv : Nat) :
    Touches (.said .forward :: waitingParts) s (s.takeAgree st k tag rsv).1 := by
  unfold takeAgree
  split
  · exact Touches.refl _ s
  · split
    · exact (s.endAwaiting_touches _ _ _ _ _ _).mono (by decide)
    · exact .after (say_notices _ _ (kind_closedMsgs s)) (by decide) (.after (forwardEntry_touches _ _) (by decide)
        ((s.updTransit_touches _ _).mono (by decide)))

theorem takeWithdraw_touches (st k rsv : Nat) : Touches waitingParts s (s.takeWithdraw st k rsv).1 := by
  unfold takeWithdraw
  repeat' split
  all_goals try dsimp only
  all_goals first | with_reducible exact Touches.refl _ _ | exact s.endAwaiting_touches _ _ _ _ _ _

theorem countGate_touches (f : CountersG → CountersG) : Touches [.countersG] s (s.countGate f) := by
  intro p hp; cases p <;> first | rfl | exact ⟨rfl, rfl⟩ | exact absurd (by decide) hp

theorem finalReply_touches (k tag : Nat) (o : ResultOutcome) (d : Nat) :
    Touches (.countersG :: endingParts) s (s.finalReply k tag o d) := by
  unfold finalReply
  split
  · exact (s.countGate_touches _).mono (by decide)
  · exact (s.endFlight_touches _ _ _).mono (by decide)

theorem enterRepeatWait_touches (k : Nat) (t : Transit) : Touches [.transit] s (s.enterRepeatWait k t) :=
  s.updTransit_touches k _

theorem busyReply_touches (k tag : Nat) : Touches (.countersG :: endingParts) s (s.busyReply k tag) := by
  unfold busyReply
  split
  · exact (s.countGate_touches _).mono (by decide)
  · refine Touches.ite (.after (endFlight_touches _ _ _ _) (by decide) ((s.countGate_touches _).mono (by decide))) ?_
    exact Touches.ite (Touches.refl _ s) ((s.enterRepeatWait_touches _ _).mono (by decide))

theorem extendReply_touches (k tag n : Nat) : Touches [.countersG, .transit] s (s.extendReply k tag n) := by
  unfold extendReply
  split
  · exact (s.countGate_touches _).mono (by decide)
  · exact (s.updTransit_touches _ _).mono (by decide)

theorem resend_touches (k : Nat) : Touches [.transit, .said .forward] s (s.resend k) := by
  unfold resend
  split
  · exact Touches.refl _ s
  · exact .after (l' := [.said .forward]) (say_touches _ _ (by simp [forwardMsg, Out.kind])) (by decide)
      ((s.updTransit_touches _ _).mono (by decide))

theorem replyMissing_touches (k : Nat) : Touches (.countersG :: endingParts) s (s.replyMissing k) := by
  unfold replyMissing
  split
  · exact Touches.refl _ s
  · exact .after (endFlight_touches _ _ _ _) (by decide) ((s.countGate_touches _).mono (by decide))

theorem windowEnds_touches (k : Nat) : Touches waitingParts s (s.windowEnds k) := s.endAwaiting_touches _ _ _ _ _ _

theorem failOne_touches (k : Nat) : Touches (.countersG :: endingParts) s (s.failOne k) :=
  .after (endFlight_touches _ _ _ _) (by decide) ((s.countGate_touches _).mono (by decide))

/-- What an ending holds back is NOTICE messages. -/
theorem kind_heldBack {os : List Out} {o : Out} (h : heldBack os o = true) : o.kind = .notice := by
  cases o with
  | plant m => simp [heldBack, Out.isOverride, Out.isTransferDone] at h
  | console st addr m => cases m <;> first | rfl | simp [heldBack, Out.isOverride, Out.isTransferDone] at h

theorem failInTurn_touches (k : Nat) : Touches (.countersG :: endingParts) s (s.failInTurn k) := by
  have h := failOne_touches { s with ev := { s.ev with post := [] } } k
  intro p hp
  have hq := h p hp
  cases p <;> first | exact hq | skip
  rename_i m
  have hm : m ≠ .notice := fun e => hp (by subst e; decide)
  have held (os : List Out) : (os.filter (heldBack os)).filter (fun o => decide (o.kind = m)) = [] :=
    filter_kind_nil (fun o ho e => hm (e ▸ (kind_heldBack (List.mem_filter.1 ho).2)))
  have kept (os : List Out) : (os.filter (fun o => !heldBack os o)).filter (fun o => decide (o.kind = m))
      = os.filter (fun o => decide (o.kind = m)) := by
    rw [List.filter_filter]
    refine List.filter_congr (fun o _ => ?_)
    by_cases ho : heldBack os o = true
    · simp [ho, kind_heldBack ho, Ne.symm hm]
    · simp [ho]
  simp only [Part.same, saidOf, List.append_nil, List.filter_append] at hq
  simp only [Part.same, saidOf, failInTurn, List.filter_append, held, kept, List.append_nil, ← List.append_assoc]
  rw [hq]

theorem failInFlight_touches : Touches (.countersG :: endingParts) s s.failInFlight := by
  unfold failInFlight
  have h (l : List Nat) := Touches.foldl (fun s k => failInTurn_touches s k) l s
  dsimp only
  split
  · exact Touches.refl _ s
  · exact .after (failOne_touches _ _) (by simp) (h _)

/-! ### The Console Port -/

theorem countA_touches (f : CountersA → CountersA) : Touches [.countersA] s (s.countA f) := by
  intro p hp; cases p <;> first | rfl | exact ⟨rfl, rfl⟩ | exact absurd (by decide) hp

theorem setLink_touches (st : Nat) (l : LinkState) : Touches [.link] s (s.setLink st l) := by
  intro p hp; cases p <;> first | rfl | exact ⟨rfl, rfl⟩ | exact absurd (by decide) hp

theorem followLost_touches (before : NSet) : Touches sysParts s (s.followLost before) := s.sysFollow_touches _ _ _ _

theorem setGrace_touches (t : Tbl Nat) : Touches [.grace] s { s with auth := { s.auth with grace := t } } := by
  intro p hp; cases p <;> first | rfl | exact ⟨rfl, rfl⟩ | exact absurd (by decide) hp

theorem stopGrace_touches (st : Nat) : Touches [.grace] s (s.stopGrace st) := s.setGrace_touches _

theorem forceAttention_touches (st : Nat) : Touches [] s (s.forceAttention st) := by
  intro p _; cases p <;> first | rfl | exact ⟨rfl, rfl⟩

theorem stationReturns_touches (st : Nat) :
    Touches ([.link, .grace, .said .notice] ++ coverParts) s (s.stationReturns st) := by
  unfold stationReturns
  dsimp only
  exact .after (forceAttention_touches _ st) (by simp)
    (.after (say_notices _ _ (by simp [outTo, Out.kind])) (by decide) (.after (coverScan_touches _) (by decide)
      (.after (followLost_touches _ _) (by decide) (.after (stopGrace_touches _ st) (by decide)
        ((s.setLink_touches st .up).mono (by decide))))))

theorem setHeard_touches (t : Tbl Nat) : Touches [.heard] s { s with console := { s.console with heard := t } } := by
  intro p hp; cases p <;> first | rfl | exact ⟨rfl, rfl⟩ | exact absurd (by decide) hp

theorem serveWatch_touches (st : Nat) : Touches arrivalParts s (s.serveWatch st) := by
  unfold serveWatch
  dsimp only
  split
  · exact (s.setHeard_touches _).mono (by decide)
  · exact .after (finish_touches _) (by decide) (.after (coverScan_touches _) (by decide)
      (.after (setLink_touches _ _ _) (by decide) ((s.setHeard_touches _).mono (by decide))))
  · exact .after (finish_touches _) (by decide) (.after (stationReturns_touches _ _) (by decide)
      ((s.setHeard_touches _).mono (by decide)))

theorem serveRestarted_touches (st : Nat) : Touches [.restartPending, .said .notice] s (s.serveRestarted st) := by
  unfold serveRestarted
  refine Touches.ite ?_ (Touches.refl _ s)
  intro p hp
  cases p <;> first | rfl | exact ⟨rfl, rfl⟩ | exact absurd (by decide) hp | skip
  rename_i k
  have hk : k ≠ .notice := fun e => hp (by simp [e])
  simp only [Part.same, saidOf, List.filter_append]
  congr 2
  simp [outTo, Out.kind, Ne.symm hk]

theorem admitFrame_touches (st : Nat) : Touches arrivalParts s (s.admitFrame st) :=
  .after (serveRestarted_touches _ st) (by decide) (.after (serveWatch_touches _ st) (by decide)
    ((s.countA_touches _).mono (by decide)))

theorem stationLost_touches (st : Nat) : Touches ([.link, .grace] ++ coverParts) s (s.stationLost st) := by
  unfold stationLost
  dsimp only
  refine .after (coverScan_touches _) (by decide) ?_
  have h : Touches ([.link, .grace] ++ coverParts) s ((s.setLink st .lost).followLost s.lostSet) :=
    .after (followLost_touches _ _) (by decide) ((s.setLink_touches st .lost).mono (by decide))
  exact Touches.ite (.after (setGrace_touches _ _) (by decide) h) h

/-! ### The Authority Unit -/

theorem endIncoming_touches (op : Nat) :
    Touches [.handover, .recs, .attnStacks, .said .notice] s (s.endIncoming op) :=
  Touches.trans (Touches.foldl (fun s a => s.closeSession_touches a _) _ s)
    (Touches.foldl (fun s a => (s.cancelTakeover_touches a _).mono (by decide)) _ _)

theorem endOutgoing_touches (op : Nat) :
    Touches [.handover, .recs, .attnStacks, .said .notice] s (s.endOutgoing op) :=
  Touches.foldl (fun s a => s.closeSession_touches a _) _ s

theorem loseArea_touches (a : Nat) : Touches takingParts s (s.loseArea a) := by
  unfold loseArea
  dsimp only
  split
  · exact .after (takeArea_touches _ a _) (by decide) ((s.disown_touches a).mono (by decide))
  · exact (s.disown_touches a).mono (by decide)

theorem endLogon_touches (st : Nat) : Touches [.logon, .grace] s (s.endLogon st) := by
  intro p hp; cases p <;> first | rfl | exact ⟨rfl, rfl⟩ | exact absurd (by decide) hp

/-- The forced end of a logon (R10, R34). -/
def forcedParts : List Part := [.logon, .grace] ++ endingParts

theorem forceOff_touches (op st : Nat) (r : LogoffReason) (w : WithdrawReason) :
    Touches forcedParts s (s.forceOff op st r w) := by
  unfold forceOff
  dsimp only
  exact .after (coverScan_touches _) (by decide) (.after (say_notices _ _ kind_heardBy_notice) (by decide)
    (.after (endLogon_touches _ st) (by decide) (.after (withdrawWaiting_touches _ _ w) (by decide)
      (.after (endIncoming_touches _ op) (by decide) (.after (endOutgoing_touches _ op) (by decide)
        ((Touches.foldl (fun s a => s.loseArea_touches a) _ s).mono (by decide)))))))

theorem graceEnds_touches (st : Nat) : Touches forcedParts s (s.graceEnds st) := by
  unfold graceEnds
  split
  · exact s.forceOff_touches _ _ _ _
  · exact (s.stopGrace_touches st).mono (by decide)

theorem setLogon_touches (t : Tbl Nat) : Touches [.logon] s { s with auth := { s.auth with logon := t } } := by
  intro p hp; cases p <;> first | rfl | exact ⟨rfl, rfl⟩ | exact absurd (by decide) hp

theorem takeLogon_touches (st badge rsv : Nat) : Touches (.logon :: coverParts) s (s.takeLogon st badge rsv).1 := by
  unfold takeLogon
  repeat' split
  all_goals try dsimp only
  all_goals first
    | with_reducible exact Touches.refl _ _
    | exact .after (coverScan_touches _) (by decide) ((s.setLogon_touches _).mono (by decide))

theorem takeLogoff_touches (st : Nat) :
    Touches ([.logon, .grace] ++ waitingParts ++ coverParts) s (s.takeLogoff st).1 := by
  unfold takeLogoff
  repeat' split
  all_goals try dsimp only
  all_goals first
    | with_reducible exact Touches.refl _ _
    | exact .after (forceAttention_touches _ st) (by simp) (.after (coverScan_touches _) (by decide)
        (.after (endLogon_touches _ st) (by decide) (.after (withdrawWaiting_touches _ _ _) (by decide)
          ((s.endIncoming_touches _).mono (by decide)))))

theorem takeClaim_touches (st a rsv : Nat) : Touches (.owner :: coverParts) s (s.takeClaim st a rsv).1 := by
  unfold takeClaim
  repeat' split
  all_goals try dsimp only
  all_goals first
    | with_reducible exact Touches.refl _ _
    | exact .after (coverScan_touches _) (by decide) ((s.giveOwner_touches _ _ _).mono (by decide))

theorem takeRelease_touches (st a rsv : Nat) : Touches (.owner :: coverParts) s (s.takeRelease st a rsv).1 := by
  unfold takeRelease
  repeat' split
  all_goals try dsimp only
  all_goals first
    | with_reducible exact Touches.refl _ _
    | exact .after (coverScan_touches _) (by decide) ((s.disown_touches _).mono (by decide))

theorem setKeyLine_touches (c : Bool) : Touches [.keyLine] s (s.setKeyLine c) := by
  unfold setKeyLine
  refine Touches.ite (Touches.refl _ s) ?_
  intro p hp; cases p <;> first | rfl | exact absurd (by decide) hp

theorem setKey_touches (k : Bool) : Touches [.key] s { s with auth := { s.auth with key := k } } := by
  intro p hp; cases p <;> first | rfl | exact ⟨rfl, rfl⟩ | exact absurd (by decide) hp

theorem assertKey_touches : Touches (.key :: sysParts) s s.assertKey :=
  .after (sysRaise_touches _ 519 _) (by decide) ((s.setKey_touches true).mono (by decide))

theorem releaseKey_touches : Touches (.key :: sysParts) s s.releaseKey :=
  .after (sysReturn_touches _ 519) (by decide) ((s.setKey_touches false).mono (by decide))

/-! ### The Plant Port -/

/-- The fields of the Plant Port. -/
def plantParts : List Part :=
  [.plantLink, .plantReturn, .plantHeard, .plantMark, .plantExpected, .plantResync, .plantTimer, .countersB]

theorem setPlant_touches (f : PlantPort → PlantPort) : Touches plantParts s (s.setPlant f) := by
  intro p hp; cases p <;> first | rfl | exact ⟨rfl, rfl⟩ | exact absurd (by decide) hp

theorem countB_touches (f : CountersB → CountersB) : Touches [.countersB] s (s.countB f) := by
  intro p hp; cases p <;> first | rfl | exact ⟨rfl, rfl⟩ | exact absurd (by decide) hp

theorem moveLink_touches (l : PlantLink) : Touches [.plantLink, .said .notice] s (s.moveLink l) := by
  unfold moveLink
  refine Touches.ite (Touches.refl _ s) (.after (sayAfter_notices _ _ kind_toUp) (by decide) ?_)
  intro p hp; cases p <;> first | rfl | exact ⟨rfl, rfl⟩ | exact absurd (by decide) hp

theorem markSilence_touches : Touches [.plantMark] s s.markSilence := by
  intro p hp; cases p <;> first | rfl | exact ⟨rfl, rfl⟩ | exact absurd (by decide) hp

theorem setResync_touches (n : Nat) : Touches [.plantResync] s (s.setPlant (fun p => { p with resync := n })) := by
  intro p hp; cases p <;> first | rfl | exact ⟨rfl, rfl⟩ | exact absurd (by decide) hp

theorem say_resync (a n : Nat) : Touches [.said .resync] s (s.say [.plant (.resyncRequest a n)]) :=
  s.say_touches _ (by simp [Out.kind])

/-- Entering RESYNC (R174). -/
def resyncParts : List Part :=
  [.plantLink, .plantMark, .plantExpected, .plantResync, .plantTimer, .entries, .said .resync, .said .notice]

theorem setBase_touches (t m : Nat) :
    Touches [.plantExpected, .plantTimer, .plantMark] s
      (s.setPlant (fun p => { p with expected := none, timer := some t, mark := m })) := by
  intro p hp; cases p <;> first | rfl | exact ⟨rfl, rfl⟩ | exact absurd (by decide) hp

theorem enterResync_touches : Touches resyncParts s s.enterResync := by
  unfold enterResync
  exact .after (moveLink_touches _ .resync) (by decide) (.after (setBase_touches _ _ _) (by decide)
    (.after (clearConfirmed_touches _) (by decide) (.after (say_resync _ 0 _) (by decide)
      ((s.setResync_touches _).mono (by decide)))))

theorem enterDegraded_touches :
    Touches ([.plantLink, .plantReturn, .plantMark, .said .notice] ++ sysParts) s s.enterDegraded := by
  unfold enterDegraded
  dsimp only
  refine .after (moveLink_touches _ .degraded) (by decide) (.after (sysRaise_touches _ 512 _) (by decide) ?_)
  intro p hp; cases p <;> first | rfl | exact ⟨rfl, rfl⟩ | exact absurd (by decide) hp

theorem setTimer_touches (x y : Option Nat) :
    Touches [.plantTimer, .plantExpected] s (s.setPlant (fun p => { p with timer := x, expected := y })) := by
  intro p hp; cases p <;> first | rfl | exact ⟨rfl, rfl⟩ | exact absurd (by decide) hp

/-- Entering LOST (R136, R173). -/
def lossParts : List Part := [.plantLink, .plantExpected, .plantTimer, .countersB, .countersG] ++ endingParts

theorem enterLost_touches : Touches lossParts s s.enterLost := by
  unfold enterLost
  dsimp only
  refine .after (moveLink_touches _ .lost) (by decide) (.after (countB_touches _ _) (by decide)
    (.after (failInFlight_touches _) (by decide) (.after (setTimer_touches _ none none) (by decide)
      (.after (markStale_touches _) (by decide) (.after (sysRaise_touches _ 513 _) (by decide) ?_)))))
  exact Touches.ite ((s.sysReturn_touches 512).mono (by decide)) (Touches.refl _ s)

theorem leaveDegraded_touches :
    Touches ([.plantLink, .plantMark, .said .notice] ++ sysParts) s s.leaveDegraded :=
  .after (moveLink_touches _ _) (by decide) (.after (markSilence_touches _) (by decide)
    ((s.sysReturn_touches 512).mono (by decide)))

/-- The arrival of a frame at Port B (R170 to R172, R174), before the end of its event. -/
def watchParts : List Part := .plantHeard :: resyncParts ++ sysParts

theorem serveLink_touches : Touches watchParts s s.serveLink := by
  have h : Touches watchParts s (s.setPlant (fun p => { p with heard := some s.now })) := by
    intro p hp; cases p <;> first | rfl | exact ⟨rfl, rfl⟩ | exact absurd (by decide) hp
  unfold serveLink
  dsimp only
  split
  · exact .after (enterResync_touches _) (by decide) h
  · exact .after (enterResync_touches _) (by decide) h
  · exact .after (markSilence_touches _) (by decide) h
  · exact .after (markSilence_touches _) (by decide) h
  · exact .after (leaveDegraded_touches _) (by decide) h

theorem takeContent_touches (tag cond transition flag rsv : Nat) (time : MillTime) :
    Touches noticeParts s (s.takeContent tag cond transition flag rsv time) :=
  Touches.ite ((s.countB_touches _).mono (by decide)) (s.takeNotice_touches _ _ _ _ _)

theorem setExpected_touches (x : Option Nat) :
    Touches [.plantExpected] s (s.setPlant (fun p => { p with expected := x })) := by
  intro p hp; cases p <;> first | rfl | exact ⟨rfl, rfl⟩ | exact absurd (by decide) hp

theorem takeSequenced_touches {l : List Part} (seq : Nat) (content : State → State)
    (h : ∀ s, Touches l s (content s)) (hb : Part.countersB ∈ l) :
    Touches (l ++ resyncParts) s (s.takeSequenced seq content) := by
  have hc : ∀ s f, Touches l s (State.countB s f) := fun s f => (s.countB_touches f).mono (by simpa using hb)
  have handed : Touches (l ++ resyncParts) s (content (s.setPlant (fun p => { p with expected := some seq }))) :=
    .after (h _) (List.subset_append_left _ _)
      ((s.setExpected_touches _).mono (fun p hp => List.mem_append_right _ ((by decide : [Part.plantExpected] ⊆ resyncParts) hp)))
  unfold takeSequenced
  dsimp only
  split
  · exact handed
  · exact handed
  · exact (hc s _).mono (List.subset_append_left _ _)
  · exact .after (enterResync_touches _) (List.subset_append_right _ _)
      (.after (hc _ _) (List.subset_append_left _ _) handed)

theorem noticeFrame_touches (seq tag cond transition flag rsv : Nat) (time : MillTime) :
    Touches (noticeParts ++ watchParts) s (s.noticeFrame seq tag cond transition flag rsv time) :=
  .after (takeSequenced_touches _ seq _ (fun s => s.takeContent_touches tag cond transition flag rsv time) (by decide))
    (by decide) (s.serveLink_touches.mono (by decide))

theorem takeReply_touches (k tag outcome arg : Nat) :
    Touches (.countersG :: endingParts) s (s.takeReply k tag outcome arg) := by
  unfold takeReply
  split
  · exact s.finalReply_touches _ _ _ _
  · exact s.finalReply_touches _ _ _ _
  · exact s.busyReply_touches _ _
  · exact (s.extendReply_touches _ _ _).mono (by decide)
  · exact (s.extendReply_touches _ _ _).mono (by decide)

theorem replyFrame_touches (k tag outcome rsv arg : Nat) :
    Touches ([.countersB, .countersG] ++ endingParts ++ watchParts) s (s.replyFrame k tag outcome rsv arg) :=
  Touches.ite (.after (countB_touches _ _) (by decide) (s.serveLink_touches.mono (by decide)))
    (.after (takeReply_touches _ _ _ _ _) (by decide) (s.serveLink_touches.mono (by decide)))

theorem takeResyncEnd_touches (scope n : Nat) :
    Touches ([.plantTimer, .plantMark, .plantLink, .countersB] ++ alarmParts) s (s.takeResyncEnd scope n) := by
  unfold takeResyncEnd
  refine Touches.ite (Touches.refl _ s) (Touches.ite ?_ ((s.countB_touches _).mono (by decide)))
  refine .after (moveLink_touches _ .up) (by decide) (.after (sysReturn_touches _ 513) (by decide)
    (.after (markSilence_touches _) (by decide) (.after (sweep_touches _) (by decide) ?_)))
  intro p hp; cases p <;> first | rfl | exact ⟨rfl, rfl⟩ | exact absurd (by decide) hp

theorem areaResync_touches (a : Nat) :
    Touches [.plantResync, .plantExpected, .said .resync] s (s.areaResync a) := by
  unfold areaResync
  refine Touches.ite (Touches.refl _ s) ?_
  dsimp only
  refine .after (say_resync _ a _) (by decide) ?_
  intro p hp; cases p <;> first | rfl | exact ⟨rfl, rfl⟩ | exact absurd (by decide) hp

theorem resyncTimesOut_touches :
    Touches ([.plantTimer, .countersB, .plantReturn, .plantLink, .said .notice] ++ sysParts) s s.resyncTimesOut := by
  unfold resyncTimesOut
  dsimp only
  have h : Touches ([.plantTimer, .countersB, .plantReturn, .plantLink, .said .notice] ++ sysParts) s
      (((s.setPlant (fun p => { p with timer := none })).countB
        (fun c => { c with timeouts := bump c.timeouts })).sysReturn 513) := by
    refine .after (sysReturn_touches _ 513) (by decide) (.after (countB_touches _ _) (by decide) ?_)
    intro p hp; cases p <;> first | rfl | exact ⟨rfl, rfl⟩ | exact absurd (by decide) hp
  refine Touches.ite (h.trans ?_) (.after (moveLink_touches _ .up) (by decide) h)
  intro p hp; cases p <;> first | rfl | exact ⟨rfl, rfl⟩ | exact absurd (by decide) hp

theorem unitBeat_touches : Touches [.said .beat] s s.unitBeat := by
  intro p hp
  cases p <;> first | rfl | exact ⟨rfl, rfl⟩ | skip
  rename_i k
  have hk : k ≠ .beat := fun e => hp (by simp [e])
  simp only [Part.same, saidOf, unitBeat, List.filter_append]
  congr 2
  simp [Out.kind, Ne.symm hk]

/-! ### Alarm requests -/

theorem takeAck_touches (st : Nat) (r : Ref) (rsv : Nat) :
    Touches ([.countersB, .said .relay] ++ alarmParts) s (s.takeAck st r rsv).1 := by
  unfold takeAck
  repeat' split
  all_goals try dsimp only
  all_goals first | with_reducible exact Touches.refl _ _ | exact s.acknowledge_touches _ _

theorem silence_touches (st n : Nat) : Touches [.recs, .attnStacks] s (s.silence st n) :=
  .after (updAnnRec_touches _ n _) (by decide) ((s.unstack_touches st n).mono (by decide))

theorem takeSilenceTop_touches (st : Nat) (r : Ref) (rsv : Nat) :
    Touches [.recs, .attnStacks] s (s.takeSilenceTop st r rsv).1 := by
  unfold takeSilenceTop
  repeat' split
  all_goals try dsimp only
  all_goals first | with_reducible exact Touches.refl _ _ | exact s.silence_touches _ _

theorem takeSilenceAll_touches (st rsv : Nat) : Touches [.recs, .attnStacks] s (s.takeSilenceAll st rsv).1 := by
  unfold takeSilenceAll
  repeat' split
  all_goals try dsimp only
  all_goals first | with_reducible exact Touches.refl _ _ | exact Touches.foldl (fun s n => s.silence_touches st n) _ s

theorem serviceNotice_touches (a : Nat) (b : Bool) : Touches [.said .notice] s (s.serviceNotice a b) :=
  s.sayAfter_notices _ kind_toUp

theorem setOut_touches (x : NSet) : Touches [.outAreas] s { s with alarm := { s.alarm with out := x } } := by
  intro p hp; cases p <;> first | rfl | exact ⟨rfl, rfl⟩ | exact absurd (by decide) hp

theorem areaOut_touches (a : Nat) : Touches (.outAreas :: alarmParts ++ coverParts) s (s.areaOut a) := by
  unfold areaOut
  dsimp only
  exact .after (serviceNotice_touches _ a false) (by decide) (.after (coverScan_touches _) (by decide)
    (.after (floodOut_touches _ a) (by decide)
      (.after (l' := alarmParts) (Touches.foldl (fun s n => s.removeEntry_touches n) _ _) (by decide)
        ((s.setOut_touches _).mono (by decide)))))

theorem takeServiceOut_touches (st a rsv : Nat) :
    Touches (.outAreas :: alarmParts ++ coverParts) s (s.takeServiceOut st a rsv).1 := by
  unfold takeServiceOut
  repeat' split
  all_goals try dsimp only
  all_goals first | with_reducible exact Touches.refl _ _ | exact s.areaOut_touches _

theorem areaIn_touches (a : Nat) :
    Touches ([.outAreas, .plantResync, .plantExpected, .said .resync, .said .notice] ++ coverParts) s (s.areaIn a) := by
  unfold areaIn
  dsimp only
  exact .after (serviceNotice_touches _ a true) (by decide) (.after (areaResync_touches _ a) (by decide)
    (.after (coverScan_touches _) (by decide) ((s.setOut_touches _).mono (by decide))))

theorem takeServiceIn_touches (st a rsv : Nat) :
    Touches ([.outAreas, .plantResync, .plantExpected, .said .resync, .said .notice] ++ coverParts) s
      (s.takeServiceIn st a rsv).1 := by
  unfold takeServiceIn
  repeat' split
  all_goals try dsimp only
  all_goals first | with_reducible exact Touches.refl _ _ | exact s.areaIn_touches _

theorem escalate_touches (n : Nat) : Touches (.handover :: sysParts) s (s.escalate n) := by
  unfold escalate
  split
  · exact Touches.refl _ s
  · exact .after (repriceItems_touches _ _ _ _) (by decide) (.after (announceAt_touches _ n) (by decide)
      (.after (updAnnRec_touches _ n _) (by decide) (.after (unstackAll_touches _ n) (by decide)
        ((s.setEntry_touches n _).mono (by decide)))))

theorem fallOverdue_touches (n : Nat) : Touches (.overdue :: sysParts) s (s.fallOverdue n) := by
  unfold fallOverdue
  split
  · exact Touches.refl _ s
  · exact .after (overdueUp_touches _) (by decide) (.after (updAnnRec_touches _ n _) (by decide)
      ((s.setEntry_touches n _).mono (by decide)))

/-! ### The Override Register -/

theorem quietForShelf_touches (n : Nat) (e : Entry) : Touches alarmParts s (s.quietForShelf n e) := by
  unfold quietForShelf
  split
  · exact (s.undefer_touches n).mono (by decide)
  · exact Touches.ite (Touches.refl _ s) ((s.withdraw_touches n).mono (by decide))
  · exact Touches.refl _ s
  · exact Touches.refl _ s

theorem shelveEntry_touches (holder n : Nat) : Touches alarmParts s (shelveEntry holder s n) := by
  unfold shelveEntry
  split
  · exact Touches.refl _ s
  · exact Touches.ite (s.removeEntry_touches n)
      (.after (updEntry_touches _ n _) (by decide) (s.quietForShelf_touches n _))

theorem shelveTag_touches (tag holder : Nat) : Touches alarmParts s (s.shelveTag tag holder) :=
  Touches.foldl (fun s n => s.shelveEntry_touches holder n) _ s

theorem placeOverride_touches (k : OverrideKind) (n op st tag a g r : Nat) :
    Touches (.overrides :: alarmParts) s (s.placeOverride k n op st tag a g r) := by
  unfold placeOverride
  dsimp only
  refine .after (sayAfter_notices _ _ (kind_overrideNotice s _ _)) (by decide) (.after (appendItem_touches _ _ _ _) (by decide) ?_)
  split
  · exact .after (shelveTag_touches _ tag op) (by decide) ((s.setOverrides_touches _).mono (by decide))
  · exact (s.setOverrides_touches _).mono (by decide)

/-- A bypass changes no alarm entry (R113). -/
theorem placeBypass_touches (n op st tag a g r : Nat) :
    Touches [.overrides, .handover, .said .notice] s (s.placeOverride .bypass n op st tag a g r) :=
  .after (sayAfter_notices _ _ (kind_overrideNotice s _ _)) (by decide) (.after (appendItem_touches _ _ _ _) (by decide)
    ((s.setOverrides_touches _).mono (by decide)))

theorem renewOverride_touches (n : Nat) (o : Override) (op st g r : Nat) :
    Touches [.overrides, .said .notice] s (s.renewOverride n o op st g r) :=
  .after (sayAfter_notices _ _ (kind_overrideNotice s _ _)) (by decide) ((s.setOverrides_touches _).mono (by decide))

theorem takeOverride_touches (k : OverrideKind) (st tag d r rsv : Nat) :
    Touches (.overrides :: alarmParts) s (s.takeOverride k st tag d r rsv).1 := by
  unfold takeOverride grantOverride
  repeat' split
  all_goals try dsimp only
  all_goals first
    | with_reducible exact Touches.refl _ _
    | exact (s.renewOverride_touches _ _ _ _ _ _).mono (by decide)
    | exact s.placeOverride_touches _ _ _ _ _ _ _ _

theorem takeBypass_touches (st tag d r rsv : Nat) :
    Touches [.overrides, .handover, .said .notice] s (s.takeOverride .bypass st tag d r rsv).1 := by
  unfold takeOverride grantOverride
  repeat' split
  all_goals try dsimp only
  all_goals first
    | with_reducible exact Touches.refl _ _
    | exact (s.renewOverride_touches _ _ _ _ _ _).mono (by decide)
    | exact s.placeBypass_touches _ _ _ _ _ _ _

theorem redecideTag_touches (tag : Nat) : Touches admissionParts s (s.redecideTag tag) := by
  refine Touches.foldl (fun s n => ?_) _ s
  exact .after (decideUnshelved_touches _ n true) (by decide) ((s.resetForDecision_touches n).mono (by decide))

theorem endOverride_touches (n : Nat) (o : Override) (e : OverrideEvent) :
    Touches (.overrides :: alarmParts) s (s.endOverride n o e) := by
  unfold endOverride
  dsimp only
  refine .after (sayAfter_notices _ _ (kind_overrideNotice s _ _)) (by decide)
    (.after (resolveItems_touches _ _ _) (by decide) ?_)
  split
  · exact .after (redecideTag_touches _ _) (by decide) ((s.setOverrides_touches _).mono (by decide))
  · exact (s.setOverrides_touches _).mono (by decide)

/-- The end of a bypass touches no alarm entry (R115). -/
theorem endBypass_touches (n : Nat) (o : Override) (e : OverrideEvent) (h : o.kind = .bypass) :
    Touches [.overrides, .handover, .said .notice] s (s.endOverride n o e) := by
  unfold endOverride
  simp only [h]
  exact .after (sayAfter_notices _ _ (kind_overrideNotice s _ _)) (by decide)
    (.after (resolveItems_touches _ _ _) (by decide) ((s.setOverrides_touches _).mono (by decide)))

theorem override?_kind {k : OverrideKind} {tag : Nat} {p : Nat × Override} (h : s.override? k tag = some p) :
    p.2.kind = k ∧ p.2.tag = tag := by
  have := List.find?_some h
  simpa using this

theorem takeEnding_touches (k : OverrideKind) (st tag rsv : Nat) :
    Touches (.overrides :: alarmParts) s (s.takeEnding k st tag rsv).1 := by
  unfold takeEnding
  repeat' split
  all_goals try dsimp only
  all_goals first | with_reducible exact Touches.refl _ _ | exact s.endOverride_touches _ _ _

theorem takeUnbypass_touches (st tag rsv : Nat) :
    Touches [.overrides, .handover, .said .notice] s (s.takeEnding .bypass st tag rsv).1 := by
  unfold takeEnding
  split
  · exact Touches.refl _ s
  · split
    · exact Touches.refl _ s
    · split
      · exact Touches.refl _ s
      · exact Touches.refl _ s
      · exact Touches.refl _ s
      · rename_i h
        split
        · exact Touches.refl _ s
        · exact s.endBypass_touches _ _ _ (s.override?_kind h).1

theorem overrideExpires_touches (n : Nat) : Touches (.overrides :: alarmParts) s (s.overrideExpires n) := by
  unfold overrideExpires
  split
  · exact Touches.refl _ s
  · exact s.endOverride_touches _ _ _

/-! ### The Handover Controller -/

theorem openSession_touches (a op st i ist : Nat) :
    Touches [.handover, .said .notice] s (s.openSession a op st i ist) :=
  .after (sayAfter_notices _ _ kind_heardBy_notice) (by decide) ((s.setHand_touches _).mono (by decide))

theorem takeOffer_touches (st a b rsv : Nat) : Touches [.handover, .said .notice] s (s.takeOffer st a b rsv).1 := by
  unfold takeOffer
  repeat' split
  all_goals try dsimp only
  all_goals first | with_reducible exact Touches.refl _ _ | exact s.openSession_touches _ _ _ _ _

theorem takeReview_touches (st a f c rsv : Nat) : Touches [.handover] s (s.takeReview st a f c rsv).1 := by
  unfold takeReview
  repeat' split
  all_goals try dsimp only
  all_goals first | with_reducible exact Touches.refl _ _ | exact s.updSession_touches _ _

theorem withdrawForHandover_touches (a out : Nat) : Touches waitingParts s (s.withdrawForHandover a out) := by
  have h := s.withdrawWaiting_touches (fun t => decide (t.area = a ∧ t.origOp = out)) .handover
  unfold withdrawForHandover
  dsimp only
  refine h.trans ?_
  intro p hp
  cases p <;> first | rfl | exact ⟨rfl, rfl⟩ | skip
  rename_i k
  have hk : MsgKind.notice ≠ k := fun e => hp (by simp [waitingParts, ← e])
  simp only [Part.same, saidOf, List.filter_append]
  rw [filter_kind_nil (os := updateNotices _) (fun o ho => by rw [kind_updateNotices _ o ho]; exact hk)]
  simp

theorem startQuiescing_touches (a n : Nat) (x : Session) :
    Touches [.handover, .said .notice] s (s.startQuiescing a n x) :=
  .after (sayAfter_notices _ _ kind_toBoth) (by decide) ((s.setHand_touches _).mono (by decide))

theorem acceptSession_touches (a : Nat) (x : Session) : Touches endingParts s (s.acceptSession a x).1 := by
  unfold acceptSession
  dsimp only
  have h := (s.withdrawForHandover_touches a x.outOp).mono (l' := endingParts) (by decide)
  split
  · exact .after (completeHandover_touches _ a) (by decide) h
  · exact .after (startQuiescing_touches _ a _ _) (by decide) h

theorem takeAccept_touches (st a rsv : Nat) : Touches endingParts s (s.takeAccept st a rsv).1 := by
  unfold takeAccept
  repeat' split
  all_goals try dsimp only
  all_goals first | with_reducible exact Touches.refl _ _ | exact s.acceptSession_touches _ _

theorem takeRecall_touches (st a rsv : Nat) :
    Touches [.handover, .recs, .attnStacks, .said .notice] s (s.takeRecall st a rsv).1 := by
  unfold takeRecall
  repeat' split
  all_goals try dsimp only
  all_goals first | with_reducible exact Touches.refl _ _ | exact s.closeSession_touches _ _

theorem startTakingOver_touches (a op st ost n : Nat) :
    Touches [.handover, .said .notice] s (s.startTakingOver a op st ost n) :=
  .after (sayAfter_notices _ _ kind_toBoth) (by decide) ((s.setHand_touches _).mono (by decide))

theorem takeFromOwner_touches (a op st owner ost : Nat) :
    Touches endingParts s (s.takeFromOwner a op st owner ost).1 := by
  unfold takeFromOwner
  dsimp only
  have h : Touches endingParts s ((s.closeSession a .takeover).withdrawWaiting
      (fun t => decide (t.area = a ∧ t.origOp = owner)) .takeover) :=
    .after (withdrawWaiting_touches _ _ _) (by decide) ((s.closeSession_touches a _).mono (by decide))
  split
  · dsimp only
    exact .after (completeTakeover_touches _ a op) (by decide) h
  · dsimp only
    exact .after (startTakingOver_touches _ a op st ost _) (by decide) h

theorem takeTakeover_touches (st a rsv : Nat) : Touches endingParts s (s.takeTakeover st a rsv).1 := by
  unfold takeTakeover takeoverBy
  repeat' split
  all_goals try dsimp only
  all_goals first
    | with_reducible exact Touches.refl _ _
    | with_reducible exact s.takeFromOwner_touches _ _ _ _ _
    | exact (s.completeTakeover_touches _ _).mono (by decide)

/-! ### Management -/

theorem setStations_touches (t : Tbl StationRec) :
    Touches [.stations] s (s.setTables { s.tables with stations := t }) := by
  intro p hp; cases p <;> first | rfl | exact ⟨rfl, rfl⟩ | exact absurd (by decide) hp

theorem setRoster_touches (t : Tbl RosterRec) : Touches [.roster] s (s.setTables { s.tables with roster := t }) := by
  intro p hp; cases p <;> first | rfl | exact ⟨rfl, rfl⟩ | exact absurd (by decide) hp

theorem setAreas_touches (t : Tbl AreaRec) : Touches [.areas] s (s.setTables { s.tables with areas := t }) := by
  intro p hp; cases p <;> first | rfl | exact ⟨rfl, rfl⟩ | exact absurd (by decide) hp

theorem setTags_touches (t : Tbl TagRec) : Touches [.tags] s (s.setTables { s.tables with tags := t }) := by
  intro p hp; cases p <;> first | rfl | exact ⟨rfl, rfl⟩ | exact absurd (by decide) hp

/-- A station whose record is new or gone is ABSENT (R9). -/
def resetParts : List Part := [.link, .heard, .restartPending] ++ coverParts

theorem resetStation_touches (st : Nat) : Touches resetParts s (s.resetStation st) := by
  unfold resetStation
  dsimp only
  refine .after (coverScan_touches _) (by decide) (.after (followLost_touches _ _) (by decide) ?_)
  intro p hp; cases p <;> first | rfl | exact ⟨rfl, rfl⟩ | exact absurd (by decide) hp

theorem putStation_touches (st : Nat) (r : StationRec) : Touches (.stations :: resetParts) s (s.putStation st r) :=
  Touches.ite ((s.setStations_touches _).mono (by decide))
    (.after (resetStation_touches _ st) (by decide) ((s.setStations_touches _).mono (by decide)))

theorem clearStation_touches (st : Nat) : Touches (.stations :: resetParts) s (s.clearStation st) :=
  .after (resetStation_touches _ st) (by decide) ((s.setStations_touches _).mono (by decide))

theorem takeStationWrite_touches (st i : Nat) (r : Option RawStation) (rsv : Nat) :
    Touches (.stations :: resetParts) s (s.takeStationWrite st i r rsv).1 := by
  unfold takeStationWrite
  repeat' split
  all_goals try dsimp only
  all_goals first
    | with_reducible exact Touches.refl _ _
    | with_reducible exact s.clearStation_touches _
    | with_reducible exact s.putStation_touches _ _

theorem loseAtZero_touches (op a : Nat) : Touches endingParts s (loseAtZero op s a) := by
  have h := (s.loseArea_touches a).mono (l' := endingParts) (by decide)
  exact Touches.ite (.after (closeSession_touches _ a _) (by decide) h) h

theorem leaveAtZero_touches (op a : Nat) : Touches endingParts s (leaveAtZero op s a) := by
  have h : Touches endingParts s (if (s.session? a).map (·.inOp) = some op then s.closeSession a .incomingGone else s) :=
    Touches.ite ((s.closeSession_touches a _).mono (by decide)) (Touches.refl _ s)
  unfold leaveAtZero
  dsimp only
  split
  · exact Touches.ite (.after (cancelTakeover_touches _ a _) (by decide) h) h
  · exact h

theorem releaseAtZero_touches (op : Nat) : Touches endingParts s (s.releaseAtZero op) := by
  unfold releaseAtZero
  exact .after (Touches.foldl (fun s a => s.leaveAtZero_touches op a) _ _) (by simp)
    (.after (withdrawWaiting_touches _ _ _) (by decide) (Touches.foldl (fun s a => s.loseAtZero_touches op a) _ s))

theorem rosterEffects_touches (op : Nat) : Touches forcedParts s (s.rosterEffects op) := by
  unfold rosterEffects
  split
  · exact s.coverScan_touches.mono (by decide)
  · refine Touches.ite (.after (coverScan_touches _) (by decide) ?_)
      (.after (forceAttention_touches _ _) (by simp) (s.forceOff_touches _ _ _ _))
    exact (s.releaseAtZero_touches op).mono (by decide)

theorem takeRosterWrite_touches (st i : Nat) (r : Option RawRoster) (rsv : Nat) :
    Touches (.roster :: forcedParts) s (s.takeRosterWrite st i r rsv).1 := by
  unfold takeRosterWrite
  repeat' split
  all_goals try dsimp only
  all_goals first
    | with_reducible exact Touches.refl _ _
    | exact .after (rosterEffects_touches _ _) (by decide) ((s.setRoster_touches _).mono (by decide))

theorem putArea_touches (a : Nat) (r : AreaRec) :
    Touches ([.areas, .flooded, .release, .said .notice] ++ coverParts) s (s.putArea a r) :=
  .after (coverScan_touches _) (by decide) (.after (floodExitTest_touches _ a) (by decide)
    (.after (floodEntryTest_touches _ a) (by decide) ((s.setAreas_touches _).mono (by decide))))

theorem takeAreaWrite_touches (st i : Nat) (r : Option RawArea) (rsv : Nat) :
    Touches ([.areas, .flooded, .release, .said .notice] ++ coverParts) s (s.takeAreaWrite st i r rsv).1 := by
  unfold takeAreaWrite
  repeat' split
  all_goals try dsimp only
  all_goals first | with_reducible exact Touches.refl _ _ | exact s.putArea_touches _ _

theorem takeTagWrite_touches (st i : Nat) (r : Option RawTag) (rsv : Nat) :
    Touches [.tags] s (s.takeTagWrite st i r rsv).1 := by
  unfold takeTagWrite
  repeat' split
  all_goals try dsimp only
  all_goals first | with_reducible exact Touches.refl _ _ | exact s.setTags_touches _

theorem takeStore_touches (h : Hdr) : Touches [.storeJob, .said .answer] s (s.takeStore h) := by
  unfold takeStore
  refine Touches.ite ((s.answer_touches h _).mono (by decide)) (Touches.ite ((s.answer_touches h _).mono (by decide)) ?_)
  intro p hp; cases p <;> first | rfl | exact ⟨rfl, rfl⟩ | exact absurd (by decide) hp

/-- The end of a STORE (R17, R18). -/
def storedParts : List Part := [.storeJob, .storeFault, .image, .misreads] ++ sysParts

theorem setStore_touches (u : StoreUnit) :
    Touches [.storeJob, .storeFault, .image, .misreads] s { s with store := u } := by
  intro p hp; cases p <;> first | rfl | exact ⟨rfl, rfl⟩ | exact absurd (by decide) hp

theorem storeMatched_touches : Touches storedParts s s.storeMatched := by
  unfold storeMatched
  have h := (s.setStore_touches { s.store with job := none, fault := false, image := ⟨s.tables, imageCrc s.tables⟩ }).mono
    (l' := storedParts) (by decide)
  exact Touches.ite (.after (sysReturn_touches _ 520) (by decide) h) h

theorem storeFailed_touches : Touches storedParts s s.storeFailed :=
  .after (sysRaise_touches _ 520 _) (by decide) ((s.setStore_touches _).mono (by decide))

theorem storeDone_touches (b : Bool) : Touches (.said .answer :: storedParts ++ endParts) s (s.storeDone b) := by
  unfold storeDone
  split
  · exact Touches.refl _ s
  · refine .after (answer_touches _ _ _) (by decide) ?_
    exact Touches.ite (.after (finish_touches _) (by decide) (s.storeMatched_touches.mono (by decide)))
      (.after (finish_touches _) (by decide) (s.storeFailed_touches.mono (by decide)))

theorem takeSetClock_touches (st : Nat) (t : MillTime) (rsv : Nat) :
    Touches [.millTime, .clockUnset] s (s.takeSetClock st t rsv).1 := by
  unfold takeSetClock
  repeat' split
  all_goals try dsimp only
  all_goals first
    | with_reducible exact Touches.refl _ _
    | (intro p hp; cases p <;> first | rfl | exact ⟨rfl, rfl⟩ | exact absurd (by decide) hp)

theorem advanceMill_touches : Touches [.millTime] s s.advanceMill := by
  intro p hp; cases p <;> first | rfl | exact ⟨rfl, rfl⟩ | exact absurd (by decide) hp

theorem startUpAlarms_touches : Touches coverParts s s.startUpAlarms := by
  unfold startUpAlarms
  dsimp only
  have h : Touches coverParts s (if s.coverScan.store.fault then s.coverScan.sysRaise 520 .none else s.coverScan) :=
    Touches.ite (.after (sysRaise_touches _ 520 _) (by decide) s.coverScan_touches) s.coverScan_touches
  exact Touches.ite (.after (sysRaise_touches _ 519 _) (by decide) h) h

end State

end Sys2Proof.Machine
end

