-- ==== Sys2Proof/Laws/Table.lean ====
section
/-! SUPPORT. Laws of the finite tables and sets: what is read after a write, and that every operation keeps the one form
of a table. -/

namespace Sys2Proof

namespace Tbl

variable {α : Type}

@[simp] theorem look_nil (k : Nat) : Tbl.look ([] : Tbl α) k = none := rfl

theorem look_put (t : Tbl α) (k j : Nat) (v : α) : (t.put k v).look j = if j = k then some v else t.look j := by
  induction t with
  | nil => simp [put, look]
  | cons p r ih =>
    obtain ⟨k', v'⟩ := p
    simp only [put]
    split
    · simp only [look]
    · split
      · subst_vars
        simp only [look]
        split <;> rfl
      · simp only [look, ih]
        by_cases hj : j = k'
        · subst hj
          simp; intro h; omega
        · simp [hj]

@[simp] theorem look_put_self (t : Tbl α) (k : Nat) (v : α) : (t.put k v).look k = some v := by simp [look_put]

@[simp] theorem look_put_ne (t : Tbl α) {k j : Nat} (v : α) (h : j ≠ k) : (t.put k v).look j = t.look j := by
  simp [look_put, h]

theorem look_del (t : Tbl α) (k j : Nat) : (t.del k).look j = if j = k then none else t.look j := by
  induction t with
  | nil => simp [del, look]
  | cons p r ih =>
    obtain ⟨k', v'⟩ := p
    simp only [del] at ih
    by_cases hk : k' = k
    · subst hk
      simp only [del, List.filter_cons, ne_eq, not_true_eq_false, decide_false, Bool.false_eq_true, if_false, ih, look]
      split <;> rfl
    · simp only [del, List.filter_cons, ne_eq, hk, not_false_eq_true, decide_true, if_true, look, ih]
      by_cases hj : j = k'
      · subst hj; simp [hk]
      · simp [hj]

@[simp] theorem look_del_self (t : Tbl α) (k : Nat) : (t.del k).look k = none := by simp [look_del]

@[simp] theorem look_del_ne (t : Tbl α) {k j : Nat} (h : j ≠ k) : (t.del k).look j = t.look j := by simp [look_del, h]

theorem look_upd (t : Tbl α) (k j : Nat) (f : α → α) :
    (t.upd k f).look j = if j = k then (t.look k).map f else t.look j := by
  unfold upd
  split
  · rename_i h
    split
    · subst_vars; simp [h]
    · rfl
  · rename_i v h
    rw [look_put]
    split
    · subst_vars; simp [h]
    · rfl

theorem getD_setD [DecidableEq α] (t : Tbl α) (k j : Nat) (d v : α) :
    (t.setD k d v).getD j d = if j = k then v else t.getD j d := by
  unfold setD getD
  by_cases hv : v = d
  · simp only [hv, if_true, look_del]
    split <;> simp
  · simp only [hv, if_false, look_put]
    split <;> simp

@[simp] theorem getD_setD_self [DecidableEq α] (t : Tbl α) (k : Nat) (d v : α) : (t.setD k d v).getD k d = v := by
  simp [getD_setD]

@[simp] theorem getD_setD_ne [DecidableEq α] (t : Tbl α) {k j : Nat} (d v : α) (h : j ≠ k) :
    (t.setD k d v).getD j d = t.getD j d := by simp [getD_setD, h]

/-! ### The one form -/

theorem mem_put {t : Tbl α} {k : Nat} {v : α} {p : Nat × α} (h : p ∈ t.put k v) : p = (k, v) ∨ p ∈ t := by
  induction t with
  | nil => simpa [put] using h
  | cons q r ih =>
    obtain ⟨k', v'⟩ := q
    simp only [put] at h
    split at h
    · simpa using h
    · split at h
      · simp only [List.mem_cons] at h ⊢
        tauto
      · simp only [List.mem_cons] at h ⊢
        rcases h with h | h
        · exact .inr (.inl h)
        · rcases ih h with h | h <;> tauto

theorem wf_put {t : Tbl α} (h : t.wf) (k : Nat) (v : α) : (t.put k v).wf := by
  induction t with
  | nil => simp [put, wf]
  | cons q r ih =>
    obtain ⟨k', v'⟩ := q
    have hr := List.pairwise_cons.mp h
    simp only [put]
    split
    · rename_i hlt
      refine List.pairwise_cons.mpr ⟨fun p hp => ?_, h⟩
      rcases List.mem_cons.mp hp with rfl | hp
      · exact hlt
      · exact Nat.lt_trans hlt (hr.1 p hp)
    · split
      · subst_vars
        exact List.pairwise_cons.mpr ⟨hr.1, hr.2⟩
      · refine List.pairwise_cons.mpr ⟨fun p hp => ?_, ih hr.2⟩
        rcases mem_put hp with rfl | hp
        · show k' < k
          omega
        · exact hr.1 p hp

theorem wf_del {t : Tbl α} (h : t.wf) (k : Nat) : (t.del k).wf := h.filter _

theorem wf_upd {t : Tbl α} (h : t.wf) (k : Nat) (f : α → α) : (t.upd k f).wf := by
  unfold upd
  split
  · exact h
  · exact wf_put h k _

theorem wf_setD [DecidableEq α] {t : Tbl α} (h : t.wf) (k : Nat) (d v : α) : (t.setD k d v).wf := by
  unfold setD
  split
  · exact wf_del h k
  · exact wf_put h k v

theorem look_of_mem {t : Tbl α} (h : t.wf) {k : Nat} {v : α} (hm : (k, v) ∈ t) : t.look k = some v := by
  induction t with
  | nil => simp at hm
  | cons q r ih =>
    obtain ⟨k', v'⟩ := q
    have hr := List.pairwise_cons.mp h
    rcases List.mem_cons.mp hm with hm | hm
    · cases hm; simp [look]
    · have := hr.1 _ hm
      simp only at this
      have : k ≠ k' := by omega
      simp [look, this, ih hr.2 hm]

theorem mem_of_look {t : Tbl α} {k : Nat} {v : α} (h : t.look k = some v) : (k, v) ∈ t := by
  induction t with
  | nil => simp at h
  | cons q r ih =>
    obtain ⟨k', v'⟩ := q
    simp only [look] at h
    split at h
    · cases h; subst_vars; simp
    · exact List.mem_cons_of_mem _ (ih h)

/-! ### Lengths -/

theorem length_put_le (t : Tbl α) (k : Nat) (v : α) : (t.put k v).length ≤ t.length + 1 := by
  induction t with
  | nil => simp [put]
  | cons q r ih =>
    obtain ⟨k', v'⟩ := q
    simp only [put]
    split
    · simp
    · split
      · simp
      · simpa using ih

theorem length_put_of_look {t : Tbl α} (h : t.wf) {k : Nat} {w : α} (hk : t.look k = some w) (v : α) :
    (t.put k v).length = t.length := by
  induction t with
  | nil => simp at hk
  | cons q r ih =>
    obtain ⟨k', v'⟩ := q
    have hr := List.pairwise_cons.mp h
    simp only [put]
    split
    · rename_i hlt
      simp only [look] at hk
      split at hk
      · omega
      · have := hr.1 _ (mem_of_look hk)
        simp only at this
        omega
    · split
      · simp
      · rename_i hne
        simp only [look, hne, if_false] at hk
        simpa using ih hr.2 hk

theorem length_del_le (t : Tbl α) (k : Nat) : (t.del k).length ≤ t.length := List.length_filter_le _ _

theorem length_upd {t : Tbl α} (h : t.wf) (k : Nat) (f : α → α) : (t.upd k f).length = t.length := by
  unfold upd
  split
  · rfl
  · rename_i v hv
    exact length_put_of_look h hv _

end Tbl

namespace NSet

theorem mem_ins (s : NSet) (x y : Nat) : y ∈ s.ins x ↔ y = x ∨ y ∈ s := by
  induction s with
  | nil => simp [ins]
  | cons z r ih =>
    simp only [ins]
    split
    · simp
    · split
      · subst_vars; simp
      · simp only [List.mem_cons, ih]
        tauto

theorem mem_del (s : NSet) (x y : Nat) : y ∈ s.del x ↔ y ∈ s ∧ y ≠ x := by simp [del]

end NSet

end Sys2Proof
end

