-- ==== Sys2Proof/Laws/State.lean ====
section
/-! SUPPORT. For each plain update of the state, what it leaves of every block, one `@[simp]` lemma a block, so that no
later proof unfolds a record update. -/

namespace Sys2Proof.Machine.State

variable (s : State)

/-! ### `setStack` -/

@[simp] theorem setStack_pins (st : Nat) (l : List Nat) : (s.setStack st l).pins = s.pins := rfl
@[simp] theorem setStack_time (st : Nat) (l : List Nat) : (s.setStack st l).time = s.time := rfl
@[simp] theorem setStack_tables (st : Nat) (l : List Nat) : (s.setStack st l).tables = s.tables := rfl
@[simp] theorem setStack_store (st : Nat) (l : List Nat) : (s.setStack st l).store = s.store := rfl
@[simp] theorem setStack_console (st : Nat) (l : List Nat) : (s.setStack st l).console = s.console := rfl
@[simp] theorem setStack_auth (st : Nat) (l : List Nat) : (s.setStack st l).auth = s.auth := rfl
@[simp] theorem setStack_alarm (st : Nat) (l : List Nat) : (s.setStack st l).alarm = s.alarm := rfl
@[simp] theorem setStack_flood (st : Nat) (l : List Nat) : (s.setStack st l).flood = s.flood := rfl
@[simp] theorem setStack_overrides (st : Nat) (l : List Nat) : (s.setStack st l).overrides = s.overrides := rfl
@[simp] theorem setStack_gate (st : Nat) (l : List Nat) : (s.setStack st l).gate = s.gate := rfl
@[simp] theorem setStack_hand (st : Nat) (l : List Nat) : (s.setStack st l).hand = s.hand := rfl
@[simp] theorem setStack_plant (st : Nat) (l : List Nat) : (s.setStack st l).plant = s.plant := rfl
@[simp] theorem setStack_ev (st : Nat) (l : List Nat) : (s.setStack st l).ev = s.ev := rfl
@[simp] theorem setStack_sent (st : Nat) (l : List Nat) : (s.setStack st l).sent = s.sent := rfl
@[simp] theorem setStack_pending (st : Nat) (l : List Nat) : (s.setStack st l).pending = s.pending := rfl

/-! ### `setAnnRec` -/

@[simp] theorem setAnnRec_pins (n : Nat) (r : AnnRec) : (s.setAnnRec n r).pins = s.pins := rfl
@[simp] theorem setAnnRec_time (n : Nat) (r : AnnRec) : (s.setAnnRec n r).time = s.time := rfl
@[simp] theorem setAnnRec_tables (n : Nat) (r : AnnRec) : (s.setAnnRec n r).tables = s.tables := rfl
@[simp] theorem setAnnRec_store (n : Nat) (r : AnnRec) : (s.setAnnRec n r).store = s.store := rfl
@[simp] theorem setAnnRec_console (n : Nat) (r : AnnRec) : (s.setAnnRec n r).console = s.console := rfl
@[simp] theorem setAnnRec_auth (n : Nat) (r : AnnRec) : (s.setAnnRec n r).auth = s.auth := rfl
@[simp] theorem setAnnRec_alarm (n : Nat) (r : AnnRec) : (s.setAnnRec n r).alarm = s.alarm := rfl
@[simp] theorem setAnnRec_flood (n : Nat) (r : AnnRec) : (s.setAnnRec n r).flood = s.flood := rfl
@[simp] theorem setAnnRec_overrides (n : Nat) (r : AnnRec) : (s.setAnnRec n r).overrides = s.overrides := rfl
@[simp] theorem setAnnRec_gate (n : Nat) (r : AnnRec) : (s.setAnnRec n r).gate = s.gate := rfl
@[simp] theorem setAnnRec_hand (n : Nat) (r : AnnRec) : (s.setAnnRec n r).hand = s.hand := rfl
@[simp] theorem setAnnRec_plant (n : Nat) (r : AnnRec) : (s.setAnnRec n r).plant = s.plant := rfl
@[simp] theorem setAnnRec_ev (n : Nat) (r : AnnRec) : (s.setAnnRec n r).ev = s.ev := rfl
@[simp] theorem setAnnRec_sent (n : Nat) (r : AnnRec) : (s.setAnnRec n r).sent = s.sent := rfl
@[simp] theorem setAnnRec_pending (n : Nat) (r : AnnRec) : (s.setAnnRec n r).pending = s.pending := rfl

/-! ### `updAnnRec` -/

@[simp] theorem updAnnRec_pins (n : Nat) (f : AnnRec → AnnRec) : (s.updAnnRec n f).pins = s.pins := rfl
@[simp] theorem updAnnRec_time (n : Nat) (f : AnnRec → AnnRec) : (s.updAnnRec n f).time = s.time := rfl
@[simp] theorem updAnnRec_tables (n : Nat) (f : AnnRec → AnnRec) : (s.updAnnRec n f).tables = s.tables := rfl
@[simp] theorem updAnnRec_store (n : Nat) (f : AnnRec → AnnRec) : (s.updAnnRec n f).store = s.store := rfl
@[simp] theorem updAnnRec_console (n : Nat) (f : AnnRec → AnnRec) : (s.updAnnRec n f).console = s.console := rfl
@[simp] theorem updAnnRec_auth (n : Nat) (f : AnnRec → AnnRec) : (s.updAnnRec n f).auth = s.auth := rfl
@[simp] theorem updAnnRec_alarm (n : Nat) (f : AnnRec → AnnRec) : (s.updAnnRec n f).alarm = s.alarm := rfl
@[simp] theorem updAnnRec_flood (n : Nat) (f : AnnRec → AnnRec) : (s.updAnnRec n f).flood = s.flood := rfl
@[simp] theorem updAnnRec_overrides (n : Nat) (f : AnnRec → AnnRec) : (s.updAnnRec n f).overrides = s.overrides := rfl
@[simp] theorem updAnnRec_gate (n : Nat) (f : AnnRec → AnnRec) : (s.updAnnRec n f).gate = s.gate := rfl
@[simp] theorem updAnnRec_hand (n : Nat) (f : AnnRec → AnnRec) : (s.updAnnRec n f).hand = s.hand := rfl
@[simp] theorem updAnnRec_plant (n : Nat) (f : AnnRec → AnnRec) : (s.updAnnRec n f).plant = s.plant := rfl
@[simp] theorem updAnnRec_ev (n : Nat) (f : AnnRec → AnnRec) : (s.updAnnRec n f).ev = s.ev := rfl
@[simp] theorem updAnnRec_sent (n : Nat) (f : AnnRec → AnnRec) : (s.updAnnRec n f).sent = s.sent := rfl
@[simp] theorem updAnnRec_pending (n : Nat) (f : AnnRec → AnnRec) : (s.updAnnRec n f).pending = s.pending := rfl

/-! ### `push` -/

@[simp] theorem push_pins (st n : Nat) : (s.push st n).pins = s.pins := rfl
@[simp] theorem push_time (st n : Nat) : (s.push st n).time = s.time := rfl
@[simp] theorem push_tables (st n : Nat) : (s.push st n).tables = s.tables := rfl
@[simp] theorem push_store (st n : Nat) : (s.push st n).store = s.store := rfl
@[simp] theorem push_console (st n : Nat) : (s.push st n).console = s.console := rfl
@[simp] theorem push_auth (st n : Nat) : (s.push st n).auth = s.auth := rfl
@[simp] theorem push_alarm (st n : Nat) : (s.push st n).alarm = s.alarm := rfl
@[simp] theorem push_flood (st n : Nat) : (s.push st n).flood = s.flood := rfl
@[simp] theorem push_overrides (st n : Nat) : (s.push st n).overrides = s.overrides := rfl
@[simp] theorem push_gate (st n : Nat) : (s.push st n).gate = s.gate := rfl
@[simp] theorem push_hand (st n : Nat) : (s.push st n).hand = s.hand := rfl
@[simp] theorem push_plant (st n : Nat) : (s.push st n).plant = s.plant := rfl
@[simp] theorem push_ev (st n : Nat) : (s.push st n).ev = s.ev := rfl
@[simp] theorem push_sent (st n : Nat) : (s.push st n).sent = s.sent := rfl
@[simp] theorem push_pending (st n : Nat) : (s.push st n).pending = s.pending := rfl

/-! ### `setLoad` -/

@[simp] theorem setLoad_pins (a x : Nat) : (s.setLoad a x).pins = s.pins := rfl
@[simp] theorem setLoad_time (a x : Nat) : (s.setLoad a x).time = s.time := rfl
@[simp] theorem setLoad_tables (a x : Nat) : (s.setLoad a x).tables = s.tables := rfl
@[simp] theorem setLoad_store (a x : Nat) : (s.setLoad a x).store = s.store := rfl
@[simp] theorem setLoad_console (a x : Nat) : (s.setLoad a x).console = s.console := rfl
@[simp] theorem setLoad_auth (a x : Nat) : (s.setLoad a x).auth = s.auth := rfl
@[simp] theorem setLoad_alarm (a x : Nat) : (s.setLoad a x).alarm = s.alarm := rfl
@[simp] theorem setLoad_ann (a x : Nat) : (s.setLoad a x).ann = s.ann := rfl
@[simp] theorem setLoad_overrides (a x : Nat) : (s.setLoad a x).overrides = s.overrides := rfl
@[simp] theorem setLoad_gate (a x : Nat) : (s.setLoad a x).gate = s.gate := rfl
@[simp] theorem setLoad_hand (a x : Nat) : (s.setLoad a x).hand = s.hand := rfl
@[simp] theorem setLoad_plant (a x : Nat) : (s.setLoad a x).plant = s.plant := rfl
@[simp] theorem setLoad_ev (a x : Nat) : (s.setLoad a x).ev = s.ev := rfl
@[simp] theorem setLoad_sent (a x : Nat) : (s.setLoad a x).sent = s.sent := rfl
@[simp] theorem setLoad_pending (a x : Nat) : (s.setLoad a x).pending = s.pending := rfl

/-! ### `setRelease` -/

@[simp] theorem setRelease_pins (a : Nat) (x : Option Nat) : (s.setRelease a x).pins = s.pins := rfl
@[simp] theorem setRelease_time (a : Nat) (x : Option Nat) : (s.setRelease a x).time = s.time := rfl
@[simp] theorem setRelease_tables (a : Nat) (x : Option Nat) : (s.setRelease a x).tables = s.tables := rfl
@[simp] theorem setRelease_store (a : Nat) (x : Option Nat) : (s.setRelease a x).store = s.store := rfl
@[simp] theorem setRelease_console (a : Nat) (x : Option Nat) : (s.setRelease a x).console = s.console := rfl
@[simp] theorem setRelease_auth (a : Nat) (x : Option Nat) : (s.setRelease a x).auth = s.auth := rfl
@[simp] theorem setRelease_alarm (a : Nat) (x : Option Nat) : (s.setRelease a x).alarm = s.alarm := rfl
@[simp] theorem setRelease_ann (a : Nat) (x : Option Nat) : (s.setRelease a x).ann = s.ann := rfl
@[simp] theorem setRelease_overrides (a : Nat) (x : Option Nat) : (s.setRelease a x).overrides = s.overrides := rfl
@[simp] theorem setRelease_gate (a : Nat) (x : Option Nat) : (s.setRelease a x).gate = s.gate := rfl
@[simp] theorem setRelease_hand (a : Nat) (x : Option Nat) : (s.setRelease a x).hand = s.hand := rfl
@[simp] theorem setRelease_plant (a : Nat) (x : Option Nat) : (s.setRelease a x).plant = s.plant := rfl
@[simp] theorem setRelease_ev (a : Nat) (x : Option Nat) : (s.setRelease a x).ev = s.ev := rfl
@[simp] theorem setRelease_sent (a : Nat) (x : Option Nat) : (s.setRelease a x).sent = s.sent := rfl
@[simp] theorem setRelease_pending (a : Nat) (x : Option Nat) : (s.setRelease a x).pending = s.pending := rfl

/-! ### `say` -/

@[simp] theorem say_pins (os : List Out) : (s.say os).pins = s.pins := rfl
@[simp] theorem say_time (os : List Out) : (s.say os).time = s.time := rfl
@[simp] theorem say_tables (os : List Out) : (s.say os).tables = s.tables := rfl
@[simp] theorem say_store (os : List Out) : (s.say os).store = s.store := rfl
@[simp] theorem say_console (os : List Out) : (s.say os).console = s.console := rfl
@[simp] theorem say_auth (os : List Out) : (s.say os).auth = s.auth := rfl
@[simp] theorem say_alarm (os : List Out) : (s.say os).alarm = s.alarm := rfl
@[simp] theorem say_flood (os : List Out) : (s.say os).flood = s.flood := rfl
@[simp] theorem say_ann (os : List Out) : (s.say os).ann = s.ann := rfl
@[simp] theorem say_overrides (os : List Out) : (s.say os).overrides = s.overrides := rfl
@[simp] theorem say_gate (os : List Out) : (s.say os).gate = s.gate := rfl
@[simp] theorem say_hand (os : List Out) : (s.say os).hand = s.hand := rfl
@[simp] theorem say_plant (os : List Out) : (s.say os).plant = s.plant := rfl
@[simp] theorem say_sent (os : List Out) : (s.say os).sent = s.sent := rfl
@[simp] theorem say_pending (os : List Out) : (s.say os).pending = s.pending := rfl

/-! ### `sayAfter` -/

@[simp] theorem sayAfter_pins (os : List Out) : (s.sayAfter os).pins = s.pins := rfl
@[simp] theorem sayAfter_time (os : List Out) : (s.sayAfter os).time = s.time := rfl
@[simp] theorem sayAfter_tables (os : List Out) : (s.sayAfter os).tables = s.tables := rfl
@[simp] theorem sayAfter_store (os : List Out) : (s.sayAfter os).store = s.store := rfl
@[simp] theorem sayAfter_console (os : List Out) : (s.sayAfter os).console = s.console := rfl
@[simp] theorem sayAfter_auth (os : List Out) : (s.sayAfter os).auth = s.auth := rfl
@[simp] theorem sayAfter_alarm (os : List Out) : (s.sayAfter os).alarm = s.alarm := rfl
@[simp] theorem sayAfter_flood (os : List Out) : (s.sayAfter os).flood = s.flood := rfl
@[simp] theorem sayAfter_ann (os : List Out) : (s.sayAfter os).ann = s.ann := rfl
@[simp] theorem sayAfter_overrides (os : List Out) : (s.sayAfter os).overrides = s.overrides := rfl
@[simp] theorem sayAfter_gate (os : List Out) : (s.sayAfter os).gate = s.gate := rfl
@[simp] theorem sayAfter_hand (os : List Out) : (s.sayAfter os).hand = s.hand := rfl
@[simp] theorem sayAfter_plant (os : List Out) : (s.sayAfter os).plant = s.plant := rfl
@[simp] theorem sayAfter_sent (os : List Out) : (s.sayAfter os).sent = s.sent := rfl
@[simp] theorem sayAfter_pending (os : List Out) : (s.sayAfter os).pending = s.pending := rfl

/-! ### `sayAreas` -/

@[simp] theorem sayAreas_pins : s.sayAreas.pins = s.pins := rfl
@[simp] theorem sayAreas_time : s.sayAreas.time = s.time := rfl
@[simp] theorem sayAreas_tables : s.sayAreas.tables = s.tables := rfl
@[simp] theorem sayAreas_store : s.sayAreas.store = s.store := rfl
@[simp] theorem sayAreas_console : s.sayAreas.console = s.console := rfl
@[simp] theorem sayAreas_auth : s.sayAreas.auth = s.auth := rfl
@[simp] theorem sayAreas_alarm : s.sayAreas.alarm = s.alarm := rfl
@[simp] theorem sayAreas_flood : s.sayAreas.flood = s.flood := rfl
@[simp] theorem sayAreas_ann : s.sayAreas.ann = s.ann := rfl
@[simp] theorem sayAreas_overrides : s.sayAreas.overrides = s.overrides := rfl
@[simp] theorem sayAreas_gate : s.sayAreas.gate = s.gate := rfl
@[simp] theorem sayAreas_hand : s.sayAreas.hand = s.hand := rfl
@[simp] theorem sayAreas_plant : s.sayAreas.plant = s.plant := rfl
@[simp] theorem sayAreas_sent : s.sayAreas.sent = s.sent := rfl
@[simp] theorem sayAreas_pending : s.sayAreas.pending = s.pending := rfl

/-! ### `setOrphans` -/

@[simp] theorem setOrphans_pins : s.setOrphans.pins = s.pins := rfl
@[simp] theorem setOrphans_time : s.setOrphans.time = s.time := rfl
@[simp] theorem setOrphans_tables : s.setOrphans.tables = s.tables := rfl
@[simp] theorem setOrphans_store : s.setOrphans.store = s.store := rfl
@[simp] theorem setOrphans_console : s.setOrphans.console = s.console := rfl
@[simp] theorem setOrphans_alarm : s.setOrphans.alarm = s.alarm := rfl
@[simp] theorem setOrphans_flood : s.setOrphans.flood = s.flood := rfl
@[simp] theorem setOrphans_ann : s.setOrphans.ann = s.ann := rfl
@[simp] theorem setOrphans_overrides : s.setOrphans.overrides = s.overrides := rfl
@[simp] theorem setOrphans_gate : s.setOrphans.gate = s.gate := rfl
@[simp] theorem setOrphans_hand : s.setOrphans.hand = s.hand := rfl
@[simp] theorem setOrphans_plant : s.setOrphans.plant = s.plant := rfl
@[simp] theorem setOrphans_ev : s.setOrphans.ev = s.ev := rfl
@[simp] theorem setOrphans_sent : s.setOrphans.sent = s.sent := rfl
@[simp] theorem setOrphans_pending : s.setOrphans.pending = s.pending := rfl

/-! ### `answer` -/

@[simp] theorem answer_pins (h : Hdr) (a : Ans) : (s.answer h a).pins = s.pins := rfl
@[simp] theorem answer_time (h : Hdr) (a : Ans) : (s.answer h a).time = s.time := rfl
@[simp] theorem answer_tables (h : Hdr) (a : Ans) : (s.answer h a).tables = s.tables := rfl
@[simp] theorem answer_store (h : Hdr) (a : Ans) : (s.answer h a).store = s.store := rfl
@[simp] theorem answer_console (h : Hdr) (a : Ans) : (s.answer h a).console = s.console := rfl
@[simp] theorem answer_auth (h : Hdr) (a : Ans) : (s.answer h a).auth = s.auth := rfl
@[simp] theorem answer_alarm (h : Hdr) (a : Ans) : (s.answer h a).alarm = s.alarm := rfl
@[simp] theorem answer_flood (h : Hdr) (a : Ans) : (s.answer h a).flood = s.flood := rfl
@[simp] theorem answer_ann (h : Hdr) (a : Ans) : (s.answer h a).ann = s.ann := rfl
@[simp] theorem answer_overrides (h : Hdr) (a : Ans) : (s.answer h a).overrides = s.overrides := rfl
@[simp] theorem answer_gate (h : Hdr) (a : Ans) : (s.answer h a).gate = s.gate := rfl
@[simp] theorem answer_hand (h : Hdr) (a : Ans) : (s.answer h a).hand = s.hand := rfl
@[simp] theorem answer_plant (h : Hdr) (a : Ans) : (s.answer h a).plant = s.plant := rfl
@[simp] theorem answer_ev (h : Hdr) (a : Ans) : (s.answer h a).ev = s.ev := rfl
@[simp] theorem answer_pending (h : Hdr) (a : Ans) : (s.answer h a).pending = s.pending := rfl

/-! ### `fresh` -/

@[simp] theorem fresh_pins : s.fresh.pins = s.pins := rfl
@[simp] theorem fresh_time : s.fresh.time = s.time := rfl
@[simp] theorem fresh_tables : s.fresh.tables = s.tables := rfl
@[simp] theorem fresh_store : s.fresh.store = s.store := rfl
@[simp] theorem fresh_console : s.fresh.console = s.console := rfl
@[simp] theorem fresh_auth : s.fresh.auth = s.auth := rfl
@[simp] theorem fresh_alarm : s.fresh.alarm = s.alarm := rfl
@[simp] theorem fresh_flood : s.fresh.flood = s.flood := rfl
@[simp] theorem fresh_ann : s.fresh.ann = s.ann := rfl
@[simp] theorem fresh_overrides : s.fresh.overrides = s.overrides := rfl
@[simp] theorem fresh_gate : s.fresh.gate = s.gate := rfl
@[simp] theorem fresh_hand : s.fresh.hand = s.hand := rfl
@[simp] theorem fresh_plant : s.fresh.plant = s.plant := rfl
@[simp] theorem fresh_pending : s.fresh.pending = s.pending := rfl

/-! ### `countA` -/

@[simp] theorem countA_pins (f : CountersA → CountersA) : (s.countA f).pins = s.pins := rfl
@[simp] theorem countA_time (f : CountersA → CountersA) : (s.countA f).time = s.time := rfl
@[simp] theorem countA_tables (f : CountersA → CountersA) : (s.countA f).tables = s.tables := rfl
@[simp] theorem countA_store (f : CountersA → CountersA) : (s.countA f).store = s.store := rfl
@[simp] theorem countA_auth (f : CountersA → CountersA) : (s.countA f).auth = s.auth := rfl
@[simp] theorem countA_alarm (f : CountersA → CountersA) : (s.countA f).alarm = s.alarm := rfl
@[simp] theorem countA_flood (f : CountersA → CountersA) : (s.countA f).flood = s.flood := rfl
@[simp] theorem countA_ann (f : CountersA → CountersA) : (s.countA f).ann = s.ann := rfl
@[simp] theorem countA_overrides (f : CountersA → CountersA) : (s.countA f).overrides = s.overrides := rfl
@[simp] theorem countA_gate (f : CountersA → CountersA) : (s.countA f).gate = s.gate := rfl
@[simp] theorem countA_hand (f : CountersA → CountersA) : (s.countA f).hand = s.hand := rfl
@[simp] theorem countA_plant (f : CountersA → CountersA) : (s.countA f).plant = s.plant := rfl
@[simp] theorem countA_ev (f : CountersA → CountersA) : (s.countA f).ev = s.ev := rfl
@[simp] theorem countA_sent (f : CountersA → CountersA) : (s.countA f).sent = s.sent := rfl
@[simp] theorem countA_pending (f : CountersA → CountersA) : (s.countA f).pending = s.pending := rfl

/-! ### `setLink` -/

@[simp] theorem setLink_pins (st : Nat) (l : LinkState) : (s.setLink st l).pins = s.pins := rfl
@[simp] theorem setLink_time (st : Nat) (l : LinkState) : (s.setLink st l).time = s.time := rfl
@[simp] theorem setLink_tables (st : Nat) (l : LinkState) : (s.setLink st l).tables = s.tables := rfl
@[simp] theorem setLink_store (st : Nat) (l : LinkState) : (s.setLink st l).store = s.store := rfl
@[simp] theorem setLink_auth (st : Nat) (l : LinkState) : (s.setLink st l).auth = s.auth := rfl
@[simp] theorem setLink_alarm (st : Nat) (l : LinkState) : (s.setLink st l).alarm = s.alarm := rfl
@[simp] theorem setLink_flood (st : Nat) (l : LinkState) : (s.setLink st l).flood = s.flood := rfl
@[simp] theorem setLink_ann (st : Nat) (l : LinkState) : (s.setLink st l).ann = s.ann := rfl
@[simp] theorem setLink_overrides (st : Nat) (l : LinkState) : (s.setLink st l).overrides = s.overrides := rfl
@[simp] theorem setLink_gate (st : Nat) (l : LinkState) : (s.setLink st l).gate = s.gate := rfl
@[simp] theorem setLink_hand (st : Nat) (l : LinkState) : (s.setLink st l).hand = s.hand := rfl
@[simp] theorem setLink_plant (st : Nat) (l : LinkState) : (s.setLink st l).plant = s.plant := rfl
@[simp] theorem setLink_ev (st : Nat) (l : LinkState) : (s.setLink st l).ev = s.ev := rfl
@[simp] theorem setLink_sent (st : Nat) (l : LinkState) : (s.setLink st l).sent = s.sent := rfl
@[simp] theorem setLink_pending (st : Nat) (l : LinkState) : (s.setLink st l).pending = s.pending := rfl

/-! ### `stopGrace` -/

@[simp] theorem stopGrace_pins (st : Nat) : (s.stopGrace st).pins = s.pins := rfl
@[simp] theorem stopGrace_time (st : Nat) : (s.stopGrace st).time = s.time := rfl
@[simp] theorem stopGrace_tables (st : Nat) : (s.stopGrace st).tables = s.tables := rfl
@[simp] theorem stopGrace_store (st : Nat) : (s.stopGrace st).store = s.store := rfl
@[simp] theorem stopGrace_console (st : Nat) : (s.stopGrace st).console = s.console := rfl
@[simp] theorem stopGrace_alarm (st : Nat) : (s.stopGrace st).alarm = s.alarm := rfl
@[simp] theorem stopGrace_flood (st : Nat) : (s.stopGrace st).flood = s.flood := rfl
@[simp] theorem stopGrace_ann (st : Nat) : (s.stopGrace st).ann = s.ann := rfl
@[simp] theorem stopGrace_overrides (st : Nat) : (s.stopGrace st).overrides = s.overrides := rfl
@[simp] theorem stopGrace_gate (st : Nat) : (s.stopGrace st).gate = s.gate := rfl
@[simp] theorem stopGrace_hand (st : Nat) : (s.stopGrace st).hand = s.hand := rfl
@[simp] theorem stopGrace_plant (st : Nat) : (s.stopGrace st).plant = s.plant := rfl
@[simp] theorem stopGrace_ev (st : Nat) : (s.stopGrace st).ev = s.ev := rfl
@[simp] theorem stopGrace_sent (st : Nat) : (s.stopGrace st).sent = s.sent := rfl
@[simp] theorem stopGrace_pending (st : Nat) : (s.stopGrace st).pending = s.pending := rfl

/-! ### `endLogon` -/

@[simp] theorem endLogon_pins (st : Nat) : (s.endLogon st).pins = s.pins := rfl
@[simp] theorem endLogon_time (st : Nat) : (s.endLogon st).time = s.time := rfl
@[simp] theorem endLogon_tables (st : Nat) : (s.endLogon st).tables = s.tables := rfl
@[simp] theorem endLogon_store (st : Nat) : (s.endLogon st).store = s.store := rfl
@[simp] theorem endLogon_console (st : Nat) : (s.endLogon st).console = s.console := rfl
@[simp] theorem endLogon_alarm (st : Nat) : (s.endLogon st).alarm = s.alarm := rfl
@[simp] theorem endLogon_flood (st : Nat) : (s.endLogon st).flood = s.flood := rfl
@[simp] theorem endLogon_ann (st : Nat) : (s.endLogon st).ann = s.ann := rfl
@[simp] theorem endLogon_overrides (st : Nat) : (s.endLogon st).overrides = s.overrides := rfl
@[simp] theorem endLogon_gate (st : Nat) : (s.endLogon st).gate = s.gate := rfl
@[simp] theorem endLogon_hand (st : Nat) : (s.endLogon st).hand = s.hand := rfl
@[simp] theorem endLogon_plant (st : Nat) : (s.endLogon st).plant = s.plant := rfl
@[simp] theorem endLogon_ev (st : Nat) : (s.endLogon st).ev = s.ev := rfl
@[simp] theorem endLogon_sent (st : Nat) : (s.endLogon st).sent = s.sent := rfl
@[simp] theorem endLogon_pending (st : Nat) : (s.endLogon st).pending = s.pending := rfl

/-! ### `forceAttention` -/

@[simp] theorem forceAttention_pins (st : Nat) : (s.forceAttention st).pins = s.pins := rfl
@[simp] theorem forceAttention_time (st : Nat) : (s.forceAttention st).time = s.time := rfl
@[simp] theorem forceAttention_tables (st : Nat) : (s.forceAttention st).tables = s.tables := rfl
@[simp] theorem forceAttention_store (st : Nat) : (s.forceAttention st).store = s.store := rfl
@[simp] theorem forceAttention_console (st : Nat) : (s.forceAttention st).console = s.console := rfl
@[simp] theorem forceAttention_auth (st : Nat) : (s.forceAttention st).auth = s.auth := rfl
@[simp] theorem forceAttention_alarm (st : Nat) : (s.forceAttention st).alarm = s.alarm := rfl
@[simp] theorem forceAttention_flood (st : Nat) : (s.forceAttention st).flood = s.flood := rfl
@[simp] theorem forceAttention_ann (st : Nat) : (s.forceAttention st).ann = s.ann := rfl
@[simp] theorem forceAttention_overrides (st : Nat) : (s.forceAttention st).overrides = s.overrides := rfl
@[simp] theorem forceAttention_gate (st : Nat) : (s.forceAttention st).gate = s.gate := rfl
@[simp] theorem forceAttention_hand (st : Nat) : (s.forceAttention st).hand = s.hand := rfl
@[simp] theorem forceAttention_plant (st : Nat) : (s.forceAttention st).plant = s.plant := rfl
@[simp] theorem forceAttention_sent (st : Nat) : (s.forceAttention st).sent = s.sent := rfl
@[simp] theorem forceAttention_pending (st : Nat) : (s.forceAttention st).pending = s.pending := rfl

/-! ### `freeTransit` -/

@[simp] theorem freeTransit_pins (k : Nat) : (s.freeTransit k).pins = s.pins := rfl
@[simp] theorem freeTransit_time (k : Nat) : (s.freeTransit k).time = s.time := rfl
@[simp] theorem freeTransit_tables (k : Nat) : (s.freeTransit k).tables = s.tables := rfl
@[simp] theorem freeTransit_store (k : Nat) : (s.freeTransit k).store = s.store := rfl
@[simp] theorem freeTransit_console (k : Nat) : (s.freeTransit k).console = s.console := rfl
@[simp] theorem freeTransit_auth (k : Nat) : (s.freeTransit k).auth = s.auth := rfl
@[simp] theorem freeTransit_alarm (k : Nat) : (s.freeTransit k).alarm = s.alarm := rfl
@[simp] theorem freeTransit_flood (k : Nat) : (s.freeTransit k).flood = s.flood := rfl
@[simp] theorem freeTransit_ann (k : Nat) : (s.freeTransit k).ann = s.ann := rfl
@[simp] theorem freeTransit_overrides (k : Nat) : (s.freeTransit k).overrides = s.overrides := rfl
@[simp] theorem freeTransit_hand (k : Nat) : (s.freeTransit k).hand = s.hand := rfl
@[simp] theorem freeTransit_plant (k : Nat) : (s.freeTransit k).plant = s.plant := rfl
@[simp] theorem freeTransit_ev (k : Nat) : (s.freeTransit k).ev = s.ev := rfl
@[simp] theorem freeTransit_sent (k : Nat) : (s.freeTransit k).sent = s.sent := rfl
@[simp] theorem freeTransit_pending (k : Nat) : (s.freeTransit k).pending = s.pending := rfl

/-! ### `updTransit` -/

@[simp] theorem updTransit_pins (k : Nat) (f : Transit → Transit) : (s.updTransit k f).pins = s.pins := rfl
@[simp] theorem updTransit_time (k : Nat) (f : Transit → Transit) : (s.updTransit k f).time = s.time := rfl
@[simp] theorem updTransit_tables (k : Nat) (f : Transit → Transit) : (s.updTransit k f).tables = s.tables := rfl
@[simp] theorem updTransit_store (k : Nat) (f : Transit → Transit) : (s.updTransit k f).store = s.store := rfl
@[simp] theorem updTransit_console (k : Nat) (f : Transit → Transit) : (s.updTransit k f).console = s.console := rfl
@[simp] theorem updTransit_auth (k : Nat) (f : Transit → Transit) : (s.updTransit k f).auth = s.auth := rfl
@[simp] theorem updTransit_alarm (k : Nat) (f : Transit → Transit) : (s.updTransit k f).alarm = s.alarm := rfl
@[simp] theorem updTransit_flood (k : Nat) (f : Transit → Transit) : (s.updTransit k f).flood = s.flood := rfl
@[simp] theorem updTransit_ann (k : Nat) (f : Transit → Transit) : (s.updTransit k f).ann = s.ann := rfl
@[simp] theorem updTransit_overrides (k : Nat) (f : Transit → Transit) : (s.updTransit k f).overrides = s.overrides := rfl
@[simp] theorem updTransit_hand (k : Nat) (f : Transit → Transit) : (s.updTransit k f).hand = s.hand := rfl
@[simp] theorem updTransit_plant (k : Nat) (f : Transit → Transit) : (s.updTransit k f).plant = s.plant := rfl
@[simp] theorem updTransit_ev (k : Nat) (f : Transit → Transit) : (s.updTransit k f).ev = s.ev := rfl
@[simp] theorem updTransit_sent (k : Nat) (f : Transit → Transit) : (s.updTransit k f).sent = s.sent := rfl
@[simp] theorem updTransit_pending (k : Nat) (f : Transit → Transit) : (s.updTransit k f).pending = s.pending := rfl

/-! ### `countGate` -/

@[simp] theorem countGate_pins (f : CountersG → CountersG) : (s.countGate f).pins = s.pins := rfl
@[simp] theorem countGate_time (f : CountersG → CountersG) : (s.countGate f).time = s.time := rfl
@[simp] theorem countGate_tables (f : CountersG → CountersG) : (s.countGate f).tables = s.tables := rfl
@[simp] theorem countGate_store (f : CountersG → CountersG) : (s.countGate f).store = s.store := rfl
@[simp] theorem countGate_console (f : CountersG → CountersG) : (s.countGate f).console = s.console := rfl
@[simp] theorem countGate_auth (f : CountersG → CountersG) : (s.countGate f).auth = s.auth := rfl
@[simp] theorem countGate_alarm (f : CountersG → CountersG) : (s.countGate f).alarm = s.alarm := rfl
@[simp] theorem countGate_flood (f : CountersG → CountersG) : (s.countGate f).flood = s.flood := rfl
@[simp] theorem countGate_ann (f : CountersG → CountersG) : (s.countGate f).ann = s.ann := rfl
@[simp] theorem countGate_overrides (f : CountersG → CountersG) : (s.countGate f).overrides = s.overrides := rfl
@[simp] theorem countGate_hand (f : CountersG → CountersG) : (s.countGate f).hand = s.hand := rfl
@[simp] theorem countGate_plant (f : CountersG → CountersG) : (s.countGate f).plant = s.plant := rfl
@[simp] theorem countGate_ev (f : CountersG → CountersG) : (s.countGate f).ev = s.ev := rfl
@[simp] theorem countGate_sent (f : CountersG → CountersG) : (s.countGate f).sent = s.sent := rfl
@[simp] theorem countGate_pending (f : CountersG → CountersG) : (s.countGate f).pending = s.pending := rfl

/-! ### `enterRepeatWait` -/

@[simp] theorem enterRepeatWait_pins (k : Nat) (t : Transit) : (s.enterRepeatWait k t).pins = s.pins := rfl
@[simp] theorem enterRepeatWait_time (k : Nat) (t : Transit) : (s.enterRepeatWait k t).time = s.time := rfl
@[simp] theorem enterRepeatWait_tables (k : Nat) (t : Transit) : (s.enterRepeatWait k t).tables = s.tables := rfl
@[simp] theorem enterRepeatWait_store (k : Nat) (t : Transit) : (s.enterRepeatWait k t).store = s.store := rfl
@[simp] theorem enterRepeatWait_console (k : Nat) (t : Transit) : (s.enterRepeatWait k t).console = s.console := rfl
@[simp] theorem enterRepeatWait_auth (k : Nat) (t : Transit) : (s.enterRepeatWait k t).auth = s.auth := rfl
@[simp] theorem enterRepeatWait_alarm (k : Nat) (t : Transit) : (s.enterRepeatWait k t).alarm = s.alarm := rfl
@[simp] theorem enterRepeatWait_flood (k : Nat) (t : Transit) : (s.enterRepeatWait k t).flood = s.flood := rfl
@[simp] theorem enterRepeatWait_ann (k : Nat) (t : Transit) : (s.enterRepeatWait k t).ann = s.ann := rfl
@[simp] theorem enterRepeatWait_overrides (k : Nat) (t : Transit) : (s.enterRepeatWait k t).overrides = s.overrides := rfl
@[simp] theorem enterRepeatWait_hand (k : Nat) (t : Transit) : (s.enterRepeatWait k t).hand = s.hand := rfl
@[simp] theorem enterRepeatWait_plant (k : Nat) (t : Transit) : (s.enterRepeatWait k t).plant = s.plant := rfl
@[simp] theorem enterRepeatWait_ev (k : Nat) (t : Transit) : (s.enterRepeatWait k t).ev = s.ev := rfl
@[simp] theorem enterRepeatWait_sent (k : Nat) (t : Transit) : (s.enterRepeatWait k t).sent = s.sent := rfl
@[simp] theorem enterRepeatWait_pending (k : Nat) (t : Transit) : (s.enterRepeatWait k t).pending = s.pending := rfl

/-! ### `setPlant` -/

@[simp] theorem setPlant_pins (f : PlantPort → PlantPort) : (s.setPlant f).pins = s.pins := rfl
@[simp] theorem setPlant_time (f : PlantPort → PlantPort) : (s.setPlant f).time = s.time := rfl
@[simp] theorem setPlant_tables (f : PlantPort → PlantPort) : (s.setPlant f).tables = s.tables := rfl
@[simp] theorem setPlant_store (f : PlantPort → PlantPort) : (s.setPlant f).store = s.store := rfl
@[simp] theorem setPlant_console (f : PlantPort → PlantPort) : (s.setPlant f).console = s.console := rfl
@[simp] theorem setPlant_auth (f : PlantPort → PlantPort) : (s.setPlant f).auth = s.auth := rfl
@[simp] theorem setPlant_alarm (f : PlantPort → PlantPort) : (s.setPlant f).alarm = s.alarm := rfl
@[simp] theorem setPlant_flood (f : PlantPort → PlantPort) : (s.setPlant f).flood = s.flood := rfl
@[simp] theorem setPlant_ann (f : PlantPort → PlantPort) : (s.setPlant f).ann = s.ann := rfl
@[simp] theorem setPlant_overrides (f : PlantPort → PlantPort) : (s.setPlant f).overrides = s.overrides := rfl
@[simp] theorem setPlant_gate (f : PlantPort → PlantPort) : (s.setPlant f).gate = s.gate := rfl
@[simp] theorem setPlant_hand (f : PlantPort → PlantPort) : (s.setPlant f).hand = s.hand := rfl
@[simp] theorem setPlant_ev (f : PlantPort → PlantPort) : (s.setPlant f).ev = s.ev := rfl
@[simp] theorem setPlant_sent (f : PlantPort → PlantPort) : (s.setPlant f).sent = s.sent := rfl
@[simp] theorem setPlant_pending (f : PlantPort → PlantPort) : (s.setPlant f).pending = s.pending := rfl

/-! ### `countB` -/

@[simp] theorem countB_pins (f : CountersB → CountersB) : (s.countB f).pins = s.pins := rfl
@[simp] theorem countB_time (f : CountersB → CountersB) : (s.countB f).time = s.time := rfl
@[simp] theorem countB_tables (f : CountersB → CountersB) : (s.countB f).tables = s.tables := rfl
@[simp] theorem countB_store (f : CountersB → CountersB) : (s.countB f).store = s.store := rfl
@[simp] theorem countB_console (f : CountersB → CountersB) : (s.countB f).console = s.console := rfl
@[simp] theorem countB_auth (f : CountersB → CountersB) : (s.countB f).auth = s.auth := rfl
@[simp] theorem countB_alarm (f : CountersB → CountersB) : (s.countB f).alarm = s.alarm := rfl
@[simp] theorem countB_flood (f : CountersB → CountersB) : (s.countB f).flood = s.flood := rfl
@[simp] theorem countB_ann (f : CountersB → CountersB) : (s.countB f).ann = s.ann := rfl
@[simp] theorem countB_overrides (f : CountersB → CountersB) : (s.countB f).overrides = s.overrides := rfl
@[simp] theorem countB_gate (f : CountersB → CountersB) : (s.countB f).gate = s.gate := rfl
@[simp] theorem countB_hand (f : CountersB → CountersB) : (s.countB f).hand = s.hand := rfl
@[simp] theorem countB_ev (f : CountersB → CountersB) : (s.countB f).ev = s.ev := rfl
@[simp] theorem countB_sent (f : CountersB → CountersB) : (s.countB f).sent = s.sent := rfl
@[simp] theorem countB_pending (f : CountersB → CountersB) : (s.countB f).pending = s.pending := rfl

/-! ### `markSilence` -/

@[simp] theorem markSilence_pins : s.markSilence.pins = s.pins := rfl
@[simp] theorem markSilence_time : s.markSilence.time = s.time := rfl
@[simp] theorem markSilence_tables : s.markSilence.tables = s.tables := rfl
@[simp] theorem markSilence_store : s.markSilence.store = s.store := rfl
@[simp] theorem markSilence_console : s.markSilence.console = s.console := rfl
@[simp] theorem markSilence_auth : s.markSilence.auth = s.auth := rfl
@[simp] theorem markSilence_alarm : s.markSilence.alarm = s.alarm := rfl
@[simp] theorem markSilence_flood : s.markSilence.flood = s.flood := rfl
@[simp] theorem markSilence_ann : s.markSilence.ann = s.ann := rfl
@[simp] theorem markSilence_overrides : s.markSilence.overrides = s.overrides := rfl
@[simp] theorem markSilence_gate : s.markSilence.gate = s.gate := rfl
@[simp] theorem markSilence_hand : s.markSilence.hand = s.hand := rfl
@[simp] theorem markSilence_ev : s.markSilence.ev = s.ev := rfl
@[simp] theorem markSilence_sent : s.markSilence.sent = s.sent := rfl
@[simp] theorem markSilence_pending : s.markSilence.pending = s.pending := rfl

/-! ### `setTables` -/

@[simp] theorem setTables_pins (t : Tables) : (s.setTables t).pins = s.pins := rfl
@[simp] theorem setTables_time (t : Tables) : (s.setTables t).time = s.time := rfl
@[simp] theorem setTables_store (t : Tables) : (s.setTables t).store = s.store := rfl
@[simp] theorem setTables_console (t : Tables) : (s.setTables t).console = s.console := rfl
@[simp] theorem setTables_auth (t : Tables) : (s.setTables t).auth = s.auth := rfl
@[simp] theorem setTables_alarm (t : Tables) : (s.setTables t).alarm = s.alarm := rfl
@[simp] theorem setTables_flood (t : Tables) : (s.setTables t).flood = s.flood := rfl
@[simp] theorem setTables_ann (t : Tables) : (s.setTables t).ann = s.ann := rfl
@[simp] theorem setTables_overrides (t : Tables) : (s.setTables t).overrides = s.overrides := rfl
@[simp] theorem setTables_gate (t : Tables) : (s.setTables t).gate = s.gate := rfl
@[simp] theorem setTables_hand (t : Tables) : (s.setTables t).hand = s.hand := rfl
@[simp] theorem setTables_plant (t : Tables) : (s.setTables t).plant = s.plant := rfl
@[simp] theorem setTables_ev (t : Tables) : (s.setTables t).ev = s.ev := rfl
@[simp] theorem setTables_sent (t : Tables) : (s.setTables t).sent = s.sent := rfl
@[simp] theorem setTables_pending (t : Tables) : (s.setTables t).pending = s.pending := rfl

/-! ### `advanceMill` -/

@[simp] theorem advanceMill_pins : s.advanceMill.pins = s.pins := rfl
@[simp] theorem advanceMill_tables : s.advanceMill.tables = s.tables := rfl
@[simp] theorem advanceMill_store : s.advanceMill.store = s.store := rfl
@[simp] theorem advanceMill_console : s.advanceMill.console = s.console := rfl
@[simp] theorem advanceMill_auth : s.advanceMill.auth = s.auth := rfl
@[simp] theorem advanceMill_alarm : s.advanceMill.alarm = s.alarm := rfl
@[simp] theorem advanceMill_flood : s.advanceMill.flood = s.flood := rfl
@[simp] theorem advanceMill_ann : s.advanceMill.ann = s.ann := rfl
@[simp] theorem advanceMill_overrides : s.advanceMill.overrides = s.overrides := rfl
@[simp] theorem advanceMill_gate : s.advanceMill.gate = s.gate := rfl
@[simp] theorem advanceMill_hand : s.advanceMill.hand = s.hand := rfl
@[simp] theorem advanceMill_plant : s.advanceMill.plant = s.plant := rfl
@[simp] theorem advanceMill_ev : s.advanceMill.ev = s.ev := rfl
@[simp] theorem advanceMill_sent : s.advanceMill.sent = s.sent := rfl
@[simp] theorem advanceMill_pending : s.advanceMill.pending = s.pending := rfl

/-! ### `idleHandover` -/

@[simp] theorem idleHandover_pins (a : Nat) : (s.idleHandover a).pins = s.pins := rfl
@[simp] theorem idleHandover_time (a : Nat) : (s.idleHandover a).time = s.time := rfl
@[simp] theorem idleHandover_tables (a : Nat) : (s.idleHandover a).tables = s.tables := rfl
@[simp] theorem idleHandover_store (a : Nat) : (s.idleHandover a).store = s.store := rfl
@[simp] theorem idleHandover_console (a : Nat) : (s.idleHandover a).console = s.console := rfl
@[simp] theorem idleHandover_auth (a : Nat) : (s.idleHandover a).auth = s.auth := rfl
@[simp] theorem idleHandover_alarm (a : Nat) : (s.idleHandover a).alarm = s.alarm := rfl
@[simp] theorem idleHandover_flood (a : Nat) : (s.idleHandover a).flood = s.flood := rfl
@[simp] theorem idleHandover_ann (a : Nat) : (s.idleHandover a).ann = s.ann := rfl
@[simp] theorem idleHandover_overrides (a : Nat) : (s.idleHandover a).overrides = s.overrides := rfl
@[simp] theorem idleHandover_gate (a : Nat) : (s.idleHandover a).gate = s.gate := rfl
@[simp] theorem idleHandover_plant (a : Nat) : (s.idleHandover a).plant = s.plant := rfl
@[simp] theorem idleHandover_ev (a : Nat) : (s.idleHandover a).ev = s.ev := rfl
@[simp] theorem idleHandover_sent (a : Nat) : (s.idleHandover a).sent = s.sent := rfl
@[simp] theorem idleHandover_pending (a : Nat) : (s.idleHandover a).pending = s.pending := rfl

/-! ### `unitBeat` -/

@[simp] theorem unitBeat_pins : s.unitBeat.pins = s.pins := rfl
@[simp] theorem unitBeat_time : s.unitBeat.time = s.time := rfl
@[simp] theorem unitBeat_tables : s.unitBeat.tables = s.tables := rfl
@[simp] theorem unitBeat_store : s.unitBeat.store = s.store := rfl
@[simp] theorem unitBeat_console : s.unitBeat.console = s.console := rfl
@[simp] theorem unitBeat_auth : s.unitBeat.auth = s.auth := rfl
@[simp] theorem unitBeat_alarm : s.unitBeat.alarm = s.alarm := rfl
@[simp] theorem unitBeat_flood : s.unitBeat.flood = s.flood := rfl
@[simp] theorem unitBeat_ann : s.unitBeat.ann = s.ann := rfl
@[simp] theorem unitBeat_overrides : s.unitBeat.overrides = s.overrides := rfl
@[simp] theorem unitBeat_gate : s.unitBeat.gate = s.gate := rfl
@[simp] theorem unitBeat_hand : s.unitBeat.hand = s.hand := rfl
@[simp] theorem unitBeat_plant : s.unitBeat.plant = s.plant := rfl
@[simp] theorem unitBeat_ev : s.unitBeat.ev = s.ev := rfl
@[simp] theorem unitBeat_pending : s.unitBeat.pending = s.pending := rfl

/-! ### Inside the block that an update changes -/

@[simp] theorem say_pre (os : List Out) : (s.say os).ev.pre = s.ev.pre ++ os := rfl
@[simp] theorem say_post (os : List Out) : (s.say os).ev.post = s.ev.post := rfl
@[simp] theorem sayAfter_post (os : List Out) : (s.sayAfter os).ev.post = s.ev.post ++ os := rfl
@[simp] theorem sayAfter_pre (os : List Out) : (s.sayAfter os).ev.pre = s.ev.pre := rfl
@[simp] theorem sayAreas_pre : s.sayAreas.ev.pre = s.ev.pre ++ s.areaNotices := rfl
@[simp] theorem sayAreas_post : s.sayAreas.ev.post = s.ev.post := rfl
@[simp] theorem sayAreas_areaOld : s.sayAreas.ev.areaOld = [] := rfl
@[simp] theorem setOrphans_cover : s.setOrphans.auth.cover = s.auth.cover := rfl
@[simp] theorem setOrphans_owner : s.setOrphans.auth.owner = s.auth.owner := rfl
@[simp] theorem setOrphans_orphans : s.setOrphans.auth.orphans = areaNumbers.filter s.orphanNow := rfl
@[simp] theorem answer_sent (h : Hdr) (a : Ans) : (s.answer h a).sent = s.sent ++ [.console h.station h.src (.answer h.rtag a)] := rfl
@[simp] theorem fresh_sent : s.fresh.sent = [] := rfl
@[simp] theorem fresh_ev : s.fresh.ev = EvBuf.empty := rfl
@[simp] theorem setPlant_plant (f : PlantPort → PlantPort) : (s.setPlant f).plant = f s.plant := rfl
@[simp] theorem setTables_tables (t : Tables) : (s.setTables t).tables = t := rfl
@[simp] theorem freeTransit_transit (k : Nat) : (s.freeTransit k).gate.transit = s.gate.transit.del k := rfl
@[simp] theorem updTransit_transit (k : Nat) (f : Transit → Transit) : (s.updTransit k f).gate.transit = s.gate.transit.upd k f := rfl
@[simp] theorem countGate_transit (f : CountersG → CountersG) : (s.countGate f).gate.transit = s.gate.transit := rfl
@[simp] theorem countGate_counters (f : CountersG → CountersG) : (s.countGate f).gate.counters = f s.gate.counters := rfl
@[simp] theorem countA_counters (f : CountersA → CountersA) : (s.countA f).console.counters = f s.console.counters := rfl
@[simp] theorem countA_link (f : CountersA → CountersA) : (s.countA f).console.link = s.console.link := rfl
@[simp] theorem setLoad_deferred (a x : Nat) : (s.setLoad a x).flood.deferred = s.flood.deferred := rfl
@[simp] theorem setLoad_flooded (a x : Nat) : (s.setLoad a x).flood.flooded = s.flood.flooded := rfl
@[simp] theorem setRelease_load (a : Nat) (x : Option Nat) : (s.setRelease a x).flood.load = s.flood.load := rfl
@[simp] theorem setStack_recs (st : Nat) (l : List Nat) : (s.setStack st l).ann.recs = s.ann.recs := rfl
@[simp] theorem setAnnRec_stack (n : Nat) (r : AnnRec) : (s.setAnnRec n r).ann.stack = s.ann.stack := rfl
@[simp] theorem endLogon_owner (st : Nat) : (s.endLogon st).auth.owner = s.auth.owner := rfl
@[simp] theorem stopGrace_logon (st : Nat) : (s.stopGrace st).auth.logon = s.auth.logon := rfl
@[simp] theorem advanceMill_mill : s.advanceMill.time.mill = nextSecond s.time.mill := rfl

/-! ### Reading back what an update wrote -/

theorem load_setLoad (a x b : Nat) : (s.setLoad a x).load b = if b = a then x else s.load b := by
  simp [State.load, setLoad, Tbl.getD_setD]

theorem stack_setStack (st : Nat) (l : List Nat) (st' : Nat) :
    (s.setStack st l).stack st' = if st' = st then l else s.stack st' := by
  simp [State.stack, setStack, Tbl.getD_setD]

theorem annRec_setAnnRec (n : Nat) (r : AnnRec) (m : Nat) :
    (s.setAnnRec n r).annRec m = if m = n then r else s.annRec m := by
  simp [State.annRec, setAnnRec, Tbl.getD_setD]

theorem link_setLink (st : Nat) (l : LinkState) (st' : Nat) :
    (s.setLink st l).link st' = if st' = st then l else s.link st' := by
  simp [State.link, setLink, Tbl.getD_setD]

theorem entry_setEntry (n : Nat) (e : Entry) (m : Nat) :
    (s.setEntry n e).entry? m = if m = n then some e else s.entry? m := by
  simp [State.entry?, setEntry, Tbl.look_put]

theorem transit_freeTransit (k j : Nat) :
    (s.freeTransit k).gate.transit.look j = if j = k then none else s.gate.transit.look j := by
  simp [Tbl.look_del]

end Sys2Proof.Machine.State
end

