-- ==== Sys2Proof/Machine/WireOut.lean ====
section
/-! DEFINITION. The layouts of the messages the unit sends (R180 to R182): the frame payload of every `Out`. -/

namespace Sys2Proof.Machine

/-! ### Values from named lists, by their place in the list counting from 1 (R182) -/

/-- R171: the states in the order of its table. -/
def PlantLink.code : PlantLink → Nat
  | .start => 1 | .up => 2 | .degraded => 3 | .resync => 4 | .lost => 5

/-- R21. -/
def LinkState.code : LinkState → Nat
  | .absent => 1 | .up => 2 | .lost => 3

/-- R181. -/
def Action.code : Action → Nat
  | .setpoint => 1 | .output => 2 | .mode => 3 | .start => 4 | .stop => 5 | .opening => 6 | .closing => 7
  | .resetTrip => 8

/-- R181: dispositions count from 0. -/
def Disposition.code : Disposition → Nat
  | .annunciated => 0 | .deferred => 1 | .suppressed => 2 | .shelved => 3

/-- R182: the reason of NOTICE LOGGED OFF. -/
def LogoffReason.code : LogoffReason → Nat
  | .roster => 1 | .link => 2

/-- R137. -/
def ResultOutcome.code : ResultOutcome → Nat
  | .done => 1 | .refusedByPlant => 2 | .failedPlantBusy => 3 | .failedNoReply => 4 | .failedPlantLost => 5
  | .declined => 6 | .withdrawn => 7 | .lapsed => 8 | .refused => 9

/-- R149. -/
def ClosedOutcome.code : ClosedOutcome → Nat
  | .forwarded => 1 | .declined => 2 | .withdrawn => 3 | .lapsed => 4 | .refused => 5

/-- R163, and SUPERVISOR GONE of R167 after them. -/
def CloseReason.code : CloseReason → Nat
  | .recalled => 1 | .lapsed => 2 | .incomingGone => 3 | .ownerChanged => 4 | .takeover => 5 | .transferRefused => 6
  | .supervisorGone => 7

/-- R118: PLACED, RENEWED, HOLDER CHANGED, ENDED. -/
def OverrideEvent.code : OverrideEvent → Nat
  | .placed => 1 | .renewed => 2 | .holderChanged => 3 | .endedExpired => 4 | .endedRemoved => 4

/-- R118: the end reason EXPIRED or REMOVED, 0 where the event is no ending. -/
def OverrideEvent.endCode : OverrideEvent → Nat
  | .endedExpired => 1 | .endedRemoved => 2 | _ => 0

/-- R106. -/
def OverrideKind.code : OverrideKind → Nat
  | .shelve => 1 | .bypass => 2

/-- R120. -/
def TransitState.code : TransitState → Nat
  | .awaiting => 1 | .forwarded => 2 | .repeatWait => 3

/-- R168. -/
def TransferKind.code : TransferKind → Nat
  | .handover => 1 | .takeover => 2

/-- R38: RELEASED or ASSERTED. -/
def keyCode (asserted : Bool) : Nat := if asserted then 2 else 1

/-- 1.5: IDLE or STORING. -/
def storeCode (storing : Bool) : Nat := if storing then 2 else 1

/-- R60: IN or OUT. -/
def serviceCode (inService : Bool) : Nat := if inService then 1 else 2

/-! ### ANNOUNCE (R181) -/

/-- R181: bit 0 removed, bit 1 stale, bit 2 RETURNED, bit 3 ACKED, bit 4 return time present. -/
def announceFlags (a : Announce) : Nat :=
  (if a.removed then 1 else 0) + (if a.entry.stale then 2 else 0) + (if a.entry.active then 0 else 4)
    + (if a.entry.ack.isSome then 8 else 0) + (if a.entry.returnTime.isSome then 16 else 0)

def byteSubject (x : Subject) : List Byte :=
  match x with
  | .none => byte1 0 ++ byte2 0
  | .areas s => byte1 1 ++ byteSet s
  | .stations s => byte1 2 ++ byteSet s
  | .count n => byte1 3 ++ byte2 n

/-- R181: the 36 bytes of an ANNOUNCE body. -/
def Announce.bytes (a : Announce) : List Byte :=
  byteRef a.ref ++ byte1 (announceFlags a) ++ byte1 (a.entry.cond.getD 255) ++ byte2 (a.entry.tag.getD 65535)
    ++ byte1 a.entry.area ++ byte1 a.entry.cfg.value ++ byte1 a.entry.cur.value ++ byte1 a.entry.disp.code
    ++ byte1 a.entry.stage ++ byte1 a.entry.raiseCount ++ byteMill a.entry.raiseTime
    ++ byteMill (a.entry.returnTime.getD ⟨0, 0⟩) ++ byteMill ((a.entry.ack.map (·.time)).getD ⟨0, 0⟩)
    ++ byte1 ((a.entry.ack.map (·.op)).getD 255) ++ byteSubject a.entry.subject

/-! ### Query results -/

/-- R182, R183: the Port A counters in the order in which that rule names them. -/
def byteCountersA (c : CountersA) : List Byte :=
  byte2 c.length ++ byte2 c.unknown ++ byte2 c.mismatch ++ byte2 c.accepted

/-- R179: the counters in the order of its table. -/
def byteCountersB (c : CountersB) : List Byte :=
  byte2 c.malformedFrames ++ byte2 c.malformedContent ++ byte2 c.unknownTag ++ byte2 c.duplicateSeq ++ byte2 c.gaps
    ++ byte2 c.losses ++ byte2 c.timeouts ++ byte2 c.strayEnds ++ byte2 c.relaysSent ++ byte2 c.relaysDropped

/-- R138: late replies, failures for no reply, for plant busy and for plant loss. -/
def byteCountersG (c : CountersG) : List Byte := byte2 c.late ++ byte2 c.noReply ++ byte2 c.busy ++ byte2 c.loss

def UnitStatus.bytes (u : UnitStatus) : List Byte :=
  byte1 u.link.code ++ byte2 u.resync ++ byte2 (u.sinceFrame.getD 0) ++ byteMill u.mill ++ byteFlag u.clockUnset
    ++ byte1 (keyCode u.keyAsserted) ++ byte1 (storeCode u.storing) ++ byteFlag u.storeFault ++ byte2 u.freeEntries
    ++ byte2 u.deferred ++ byteFlag u.overflow ++ byte2 u.transit ++ byte2 u.ticket ++ byte1 u.strapStation
    ++ byteCountersA u.portA ++ byteCountersB u.portB ++ byteCountersG u.gate

def AreaStatus.bytes (a : AreaStatus) : List Byte :=
  byte2 a.ownerBadge ++ byte1 a.ownerStation ++ byte1 a.cover ++ byteFlag a.orphan ++ byte1 (serviceCode a.inService)
    ++ byte2 a.load ++ byteFlag a.flooded ++ byteFlag a.releasing ++ byte2 a.deferred ++ byte2 a.overflows
    ++ byte2 a.discarded ++ byte2 a.duplicates ++ byte2 a.dropped ++ byte2 a.shelves ++ byte2 a.bypasses
    ++ byte2 a.awaiting ++ byte2 a.forwarded ++ byte2 a.repeatWait ++ byte1 a.handover

/-- R138: the fields of R120. -/
def TransitView.bytes (t : TransitView) : List Byte :=
  byte2 t.ticket ++ byte2 t.tag ++ byte1 t.area ++ byte1 t.action.code ++ byte4 t.value.toNat ++ byte2 t.origBadge
    ++ byte1 t.origStation ++ byte2 t.signBadge ++ byte1 t.signStation ++ byteFlag t.key ++ byte1 t.state.code
    ++ byte6 t.createdUnit ++ byteMill t.createdMill ++ byte4 t.deadlineMs ++ byte2 t.extensions ++ byte4 t.windowMs
    ++ byte4 t.resendMs

/-- R118: the fields of R106 in its order, the bytes given standing in the place of the expiry, then the holder's badge and
the seconds remaining. -/
def OverrideView.layout (o : OverrideView) (expiry : List Byte) : List Byte :=
  byte1 o.kind.code ++ byte2 o.tag ++ byte1 o.holder ++ byte1 o.station ++ byte6 o.placedUnit ++ byteMill o.placedMill
    ++ expiry ++ byte1 o.reason ++ byte2 o.badge ++ byte2 o.remaining

/-- R118: one entry of OVERRIDE LIST with every field, 28 bytes. -/
def OverrideView.bytes (o : OverrideView) : List Byte := o.layout (byte6 o.expiry)

/-- R118, R184: the entries of OVERRIDE LIST. DESIGN CHOICE (log entry 44): with 54 entries or more the fields that R118
gives would pass the 1,488 bytes that R184 allows an ANSWER's payload, and no rule says which gives way; such a list keeps
every entry and leaves out of each the expiry, whose seconds remaining stand there. -/
def overrideListBytes (l : List OverrideView) : List Byte :=
  let whole := byteList (l.map (·.bytes))
  if whole.length ≤ Config.answerPayloadMax then whole else byteList (l.map (·.layout []))

/-- R152: the number of an item's kind. -/
def ItemRef.code : ItemRef → Nat
  | .unackedAlarm _ => 1 | .bypass _ _ _ => 2 | .shelve _ _ _ => 3 | .standingAlarm _ => 4 | .command _ _ => 5
  | .deferredSummary _ => 6

/-- R152, R182: an item's reference, 12 bytes for every kind: alarm reference, override entry number, tag, ticket, count
and override reason code, those that its kind has not being zeros. DESIGN CHOICE (log entry 43): the order of these
fields, one tag for both kinds of reference that have one, and the place of the reason code of R106. -/
def ItemRef.bytes (i : ItemRef) : List Byte :=
  let fields (ref : Ref) (entry tag ticket count reason : Nat) : List Byte :=
    byteRef ref ++ byte1 entry ++ byte2 tag ++ byte2 ticket ++ byte2 count ++ byte1 reason
  match i with
  | .unackedAlarm r => fields r 0 0 0 0 0
  | .bypass n tag reason => fields ⟨0, 0⟩ n tag 0 0 reason
  | .shelve n tag reason => fields ⟨0, 0⟩ n tag 0 0 reason
  | .standingAlarm r => fields r 0 0 0 0 0
  | .command ticket tag => fields ⟨0, 0⟩ 0 tag ticket 0 0
  | .deferredSummary n => fields ⟨0, 0⟩ 0 0 0 n 0

/-- R152: an item, numbered by its place, 17 bytes. -/
def itemBytes (number : Nat) (i : Item) : List Byte :=
  byte1 number ++ byte1 i.ref.code ++ i.ref.bytes ++ byte1 (prioCode i.priority) ++ byteFlag i.reviewed ++ byteFlag i.resolved

/-- R168, R151. -/
def handoverBytes (a : HandoverView) : List Byte :=
  match a with
  | .idle => byte1 1
  | .session state area x seconds =>
    byte1 state ++ byte1 area ++ byte1 x.outOp ++ byte1 x.outStation ++ byte1 x.inOp ++ byte1 x.inStation ++ byte6 x.openedUnit
      ++ byteMill x.openedMill ++ byte2 seconds ++ byteList (x.items.mapIdx (fun i item => itemBytes (i + 1) item))
      ++ byte2 x.remainder
  | .takeover t => byte1 4 ++ byte1 t.op ++ byte1 t.station ++ byte6 t.unit ++ byteMill t.mill

/-- R182: a top with its tone, or QUIET. -/
def byteTop (t : Option (Ref × Priority)) : List Byte :=
  match t with
  | none => byteNoRef ++ byte1 0
  | some (r, p) => byteRef r ++ byte1 p.value

def StationStatus.bytes (v : StationStatus) : List Byte :=
  byteFlag v.present ++ byte1 ((v.kind.map (·.code)).getD 0) ++ byte1 v.link.code ++ byte2 v.badge ++ byte2 v.grace
    ++ byteList (v.stack.map byteRef) ++ byte2 v.waiting ++ byteTop v.shown

/-- R182: a presence byte and the record's fields, sent as zeros for an absent record. -/
def recordBytes (length : Nat) (o : Option (List Byte)) : List Byte :=
  match o with | none => List.replicate (length + 1) 0 | some bs => 1 :: bs

/-- R181: the payload of an ANSWER. DEDUCED (log entry 50): R182 names no width for the stage that ALARM ENTRY carries; it
is 1 byte, as R181 has the stage in an ANNOUNCE body. -/
def Payload.bytes : Payload → List Byte
  | .none => []
  | .station r => recordBytes stationLength (r.map (·.bytes))
  | .roster r => recordBytes rosterLength (r.map (·.bytes))
  | .area r => recordBytes areaLength (some r.bytes)
  | .tag r => recordBytes tagLength (r.map (·.bytes))
  | .unitStatus u => u.bytes
  | .areaStatus a => a.bytes
  | .alarmPage n l => byte2 n ++ byteList (l.map (·.bytes))
  | .alarmEntry a route silenced seconds stage =>
    a.bytes ++ byteSet route ++ byteSet silenced ++ byte2 seconds ++ byte1 stage
  | .transitList l => byteList (l.map (·.bytes))
  | .overrideList l => overrideListBytes l
  | .handoverList v => handoverBytes v
  | .stationStatus v => v.bytes

/-! ### Messages -/

/-- R180, R182: the sort of a NOTICE and its fields. -/
def Notice.bytes : Notice → List Byte
  | .restarted mill unset => byte1 1 ++ byteMill mill ++ byteFlag unset
  | .resume badge areas => byte1 2 ++ byte2 badge ++ byteSet areas
  | .loggedOff reason => byte1 3 ++ byte1 reason.code
  | .area a badge st cover orphan => byte1 4 ++ byte1 a ++ byte2 badge ++ byte1 st ++ byte1 cover ++ byteFlag orphan
  | .flood a flooded load => byte1 5 ++ byte1 a ++ byteFlag flooded ++ byte2 load
  | .service a inService => byte1 6 ++ byte1 a ++ byte1 (serviceCode inService)
  | .override event kind tag badge st remaining reason =>
    byte1 7 ++ byte1 event.code ++ byte1 kind.code ++ byte2 tag ++ byte2 badge ++ byte1 st ++ byte2 remaining
      ++ byte1 reason ++ byte1 event.endCode
  | .plantLink state => byte1 8 ++ byte1 state.code
  | .countersignClosed ticket tag outcome => byte1 9 ++ byte2 ticket ++ byte2 tag ++ byte1 outcome.code
  | .handoverOffer a badge st items remainder seconds =>
    byte1 10 ++ byte1 a ++ byte2 badge ++ byte1 st ++ byte2 items ++ byte2 remainder ++ byte2 seconds
  | .handoverUpdate a items remainder unseen => byte1 11 ++ byte1 a ++ byte2 items ++ byte2 remainder ++ byte2 unseen
  | .handoverQuiescing a kind n => byte1 12 ++ byte1 a ++ byte1 kind.code ++ byte2 n
  | .handoverDone a kind fb fs tb ts =>
    byte1 13 ++ byte1 a ++ byte1 kind.code ++ byte2 fb ++ byte1 fs ++ byte2 tb ++ byte1 ts
  | .handoverClosed a reason => byte1 14 ++ byte1 a ++ byte1 reason.code

/-- R180: the kind of a console message. -/
def ConsoleMsg.kind : ConsoleMsg → Nat
  | .answer _ _ => 64 | .announce _ => 65 | .attention _ => 66 | .result _ _ _ _ _ _ => 67 | .notice _ => 68
  | .countersignRequest _ _ _ _ _ _ _ _ => 69

/-- R180: the request tag of an ANSWER; 0 in every other message. -/
def ConsoleMsg.rtag : ConsoleMsg → Nat
  | .answer t _ => t
  | _ => 0

def ConsoleMsg.body : ConsoleMsg → List Byte
  | .answer _ a => byte1 a.code.cls ++ byte1 a.code.number ++ byte2 a.detail ++ a.payload.bytes
  | .announce a => a.bytes
  | .attention t => byteTop t
  | .result ticket tag action outcome detail mill =>
    byte2 ticket ++ byte2 tag ++ byte1 action.code ++ byte1 outcome.code ++ byte2 detail ++ byteMill mill
  | .notice n => n.bytes
  | .countersignRequest ticket tag area action value badge st ms =>
    byte2 ticket ++ byte2 tag ++ byte1 area ++ byte1 action.code ++ byte4 value.toNat ++ byte2 badge ++ byte1 st
      ++ byte4 ms

def PlantMsg.kind : PlantMsg → Nat
  | .forward _ _ _ _ _ _ _ _ => 144 | .ackRelay _ _ _ _ => 145 | .resyncRequest _ _ => 146 | .unitBeat _ _ _ => 147

/-- R178, R128: the fields of the messages to the plant. -/
def PlantMsg.body : PlantMsg → List Byte
  | .forward ticket tag action value badge signBadge key again =>
    byte2 ticket ++ byte2 tag ++ byte1 action.code ++ byte4 value.toNat ++ byte2 badge ++ byte2 signBadge
      ++ byteFlag key ++ byteFlag again
  | .ackRelay tag cond badge time => byte2 tag ++ byte1 cond ++ byte2 badge ++ byteMill time
  | .resyncRequest scope number => byte1 scope ++ byte2 number
  | .unitBeat link mill unset => byte1 link.code ++ byteMill mill ++ byteFlag unset

/-- R180: the eight bytes of the common header. -/
def headerBytes (kind station rtag length rsv : Nat) : List Byte :=
  byte1 kind ++ byte1 station ++ byte2 rtag ++ byte2 length ++ byte2 rsv

/-- R180: the unit pads its own short frames with zeros to 46 bytes of payload. -/
def padded (bs : List Byte) : List Byte := bs ++ List.replicate (46 - bs.length) 0

/-- R180: a message as the payload of its Ethernet frame. -/
def Out.payload : Out → List Byte
  | .console st _ m => padded (headerBytes m.kind st m.rtag m.body.length 0 ++ m.body)
  | .plant m => padded (headerBytes m.kind 0 0 m.body.length 0 ++ m.body)

end Sys2Proof.Machine
end

