-- ==== Sys2Proof/Laws/Wire.lean ====
section
/-! SUPPORT. The lengths of an OVERRIDE LIST's bytes: which lists carry every field of R118, and that every list the
register can give fits an ANSWER (R184). -/

namespace Sys2Proof.Machine

@[simp] theorem byte1_length (n : Nat) : (byte1 n).length = 1 := rfl
@[simp] theorem byte2_length (n : Nat) : (byte2 n).length = 2 := rfl
@[simp] theorem byte4_length (n : Nat) : (byte4 n).length = 4 := rfl
@[simp] theorem byte6_length (n : Nat) : (byte6 n).length = 6 := rfl
@[simp] theorem byteMill_length (t : MillTime) : (byteMill t).length = 6 := rfl

@[simp] theorem OverrideView.layout_length (o : OverrideView) (expiry : List Byte) :
    (o.layout expiry).length = 22 + expiry.length := by
  simp [OverrideView.layout]
  omega

@[simp] theorem OverrideView.bytes_length (o : OverrideView) : o.bytes.length = 28 := by
  simp [OverrideView.bytes]

/-- R182: a list whose members all have one length. -/
theorem byteList_length {α : Type} (f : α → List Byte) (n : Nat) (h : ∀ x, (f x).length = n) (l : List α) :
    (byteList (l.map f)).length = 2 + l.length * n := by
  simp [byteList, List.length_flatten, Function.comp_def, h]

/-- R118: a list of at most 53 entries carries every field of each. -/
theorem overrideListBytes_whole {l : List OverrideView} (h : l.length ≤ 53) :
    overrideListBytes l = byteList (l.map (·.bytes)) := by
  have hl := byteList_length OverrideView.bytes 28 OverrideView.bytes_length l
  simp only [overrideListBytes, hl, Config.answerPayloadMax]
  exact if_pos (by omega)

/-- R184, R106: the list of a register of 64 entries fits an ANSWER. -/
theorem overrideListBytes_fits {l : List OverrideView} (h : l.length ≤ 64) :
    (overrideListBytes l).length ≤ Config.answerPayloadMax := by
  have hs := byteList_length (fun o : OverrideView => o.layout []) 22 (fun o => by simp) l
  unfold overrideListBytes
  dsimp only
  split
  · assumption
  · rw [hs]; unfold Config.answerPayloadMax; omega

end Sys2Proof.Machine
end

