-- ==== Sys2Proof/Tests/Room.lean ====
section
/-! SUPPORT. A small control room for the tests: five stations, five operators, four tags, and the states that the tests
and the witnesses start from, each a plain change of the first. -/

namespace Sys2Proof.Tests

open Sys2Proof.Machine

def address (st : Nat) : LinkAddr := BitVec.ofNat 48 (100 + st)

/-- The header of a request from a station, with request tag 7. -/
def hdr (st : Nat) : Hdr := ⟨address st, st, 7, 0⟩

/-- Levels in the first and the last area, 0 elsewhere. -/
def levels (first last : Nat) : Vector Nat 12 := #v[first, 0, 0, 0, 0, 0, 0, 0, 0, 0, 0, last]

def rosterEntry (badge : Nat) (role : Role) (levels : Vector Nat 12) : RosterRec :=
  ⟨badge, [], role, true, levels, [1, 2, 3, 5, 16]⟩

/-- A class-1 tag of area 1 with alarms of condition 0 (HIGH) and 7 (LOW). -/
def plainTag : TagRec :=
  { name := [], area := 1, prios := #v[some .high, none, none, none, none, none, none, some .low], parent := none,
    blocker := none, cls := 1, base := 20, shelvable := true, ackRelay := true }

def stationEntry (st : Nat) (k : StationKind) : StationRec := ⟨k, address st, [1, 12], 90⟩

/-- Operator 0 (badge 100) at station 1 owns area 1; operator 1 at station 2 covers area 12; operator 2 is a supervisor at
station 3, operator 3 an engineer at station 16; station 5 is not staffed. Areas 2 to 11 are out of service. Unit time
is 100 s, the plant link is UP and the last sequence was 65535. -/
def room : State :=
  { pins := ⟨true, false, 15⟩
    time := ⟨10000, ⟨5, 100⟩, false⟩
    tables :=
      { stations := [(1, stationEntry 1 .operator), (2, stationEntry 2 .operator), (3, stationEntry 3 .supervisor),
          (5, stationEntry 5 .operator), (16, stationEntry 16 .engineering)]
        roster := [(0, rosterEntry 100 .operator (levels 3 3)), (1, rosterEntry 101 .operator (levels 3 3)),
          (2, rosterEntry 102 .supervisor (levels 3 3)), (3, rosterEntry 103 .engineer (levels 0 0)),
          (127, rosterEntry 65535 .operator (levels 1 1))]
        areas := [(12, { AreaRec.default 12 with fallback := [5, 2] })]
        tags := [(0, { plainTag with cls := 4 }), (1, { plainTag with parent := some (4095, 0x81#8) }),
          (2, { plainTag with blocker := some (4095, .low) }), (4095, plainTag)] }
    store := ⟨none, false, ⟨Tables.empty, 0⟩, 0⟩
    console := ⟨[(1, .up), (2, .up), (3, .up), (5, .up), (16, .up)], [(1, 9900), (2, 9500), (3, 9900), (5, 9500)], [],
      CountersA.zero⟩
    auth := ⟨[(1, 0), (2, 1), (3, 2), (16, 3)], [], [(1, (0, 1))], [(12, 2)], [], false, false, 9995⟩
    alarm := { AlarmProc.initial with out := [2, 3, 4, 5, 6, 7, 8, 9, 10, 11] }
    flood := FloodMon.initial
    ann := Annun.initial
    overrides := []
    gate := Gate.initial
    hand := []
    plant := ⟨.up, false, some 9900, 9700, some 65535, 65535, none, CountersB.zero⟩
    ev := EvBuf.empty
    sent := []
    pending := [] }

/-- An alarm of tag 4095, condition 0, ACTIVE, UNACKED and ANNUNCIATED. -/
def standing : Entry :=
  ⟨some 4095, some 0, 1, .high, .high, true, none, .annunciated, ⟨5, 50⟩, none, 1, 0, false, true, .none⟩

/-- The room with an ordinary entry at number 0, and what the Annunciation Unit holds for it. -/
def withAlarm (e : Entry) (r : AnnRec) (s : State) : State :=
  { s with
    alarm := { s.alarm with entries := [(0, e)] }
    ann := { s.ann with recs := [(0, r)], stack := if r.route = [] then [] else [(1, [0])] } }

/-- The alarm at its owner's station, its stage-1 deadline come. -/
def alarmed : State := withAlarm standing ⟨[1], [], some (10000, 1)⟩ room

/-- The alarm DEFERRED, its area flooded and its release timer come to its expiry. -/
def held : State :=
  { withAlarm { standing with disp := .deferred } ⟨[], [], none⟩ room with
    flood := { FloodMon.initial with
      load := [(1, 480)], flooded := [1], release := [(1, 10000)], deferred := [⟨⟨0, 0⟩, 1⟩] } }

/-- A command of operator 0 on tag 4095, FORWARDED. -/
def flight : Transit :=
  ⟨4095, 1, .start, 7#32, 0, 1, none, false, .forwarded, 9900, ⟨5, 99⟩, 10000, 8, none, none⟩

/-- The same command waiting for a countersignature. -/
def awaitingSign : Transit := { flight with tag := 0, state := .awaiting, extensions := 0 }

def withTransit (x : Transit) (s : State) : State := { s with gate := { s.gate with transit := [(65535, x)] } }

/-- A session of area 1 from operator 0 to operator 1 with one reviewed item. -/
def offer : Session :=
  ⟨0, 1, 1, 2, 9000, ⟨5, 90⟩, some 10000, [⟨.standingAlarm ⟨3, 0⟩, some .low, true, false⟩], 0⟩

def withHand (h : Handover) (s : State) : State := { s with hand := [(1, h)] }

/-- A shelf or bypass of tag 4095 held by operator 0, come to its expiry. -/
def withOverride (k : OverrideKind) (s : State) : State :=
  { s with overrides := [(0, ⟨k, 4095, 0, 1, 9000, ⟨5, 90⟩, 10000, 9⟩)] }

def withLink (l : PlantLink) (s : State) : State := { s with plant := { s.plant with link := l } }

/-- What a command that is not stopped leaves. -/
def after (i : Instr) (s : State) : State :=
  match exec i s with
  | .next t => t
  | .fault _ => s
  | .refused _ => s

/-! ### The invariants on a state whose tables are short -/

theorem look_none {α : Type} {t : Tbl α} {k : Nat} (h : k ∉ t.keys) : t.look k = none := by
  cases hk : t.look k with
  | none => rfl
  | some v => exact absurd (List.mem_map.2 ⟨(k, v), Tbl.mem_of_look hk, rfl⟩) h

theorem key_of_look {α : Type} {t : Tbl α} {k : Nat} {v : α} (h : t.look k = some v) : k ∈ t.keys :=
  List.mem_map.2 ⟨(k, v), Tbl.mem_of_look h, rfl⟩

theorem routesStand_of {s : State}
    (h : ∀ n ∈ s.alarm.entries.keys ++ s.ann.recs.keys, (s.annRec n).route = s.routeNow n) : s.RoutesStand := by
  intro n
  by_cases hn : n ∈ s.alarm.entries.keys ++ s.ann.recs.keys
  · exact h n hn
  · simp only [List.mem_append, not_or] at hn
    simp [State.annRec, Tbl.getD, State.routeNow, State.entry?, look_none hn.1, look_none hn.2]

theorem coverStands_of {s : State}
    (h : ∀ a ∈ areaNumbers, s.coverOf a = s.coverWalk a ∧
      (s.isOrphan a = true ↔ s.ownerOf a = none ∧ s.inService a = true ∧ s.coverOf a = none)) : s.CoverStands := by
  intro _ a h1 h2
  exact h a (by simp [areaNumbers]; omega)

theorem withinCapacity_of {s : State}
    (h : (∀ p ∈ s.ann.stack, p.2.length ≤ Config.stackDepth) ∧ s.flood.deferred.length ≤ Config.deferredCapacity ∧
      (Tbl.wf s.overrides ∧ (∀ p ∈ s.overrides, p.1 < Config.overrideEntries)
        ∧ s.overrides.length ≤ Config.overrideEntries) ∧
      Tbl.wf s.gate.transit ∧ s.gate.transit.length ≤ Config.transitEntries) : s.WithinCapacity := by
  refine ⟨fun st => ?_, h.2.1, h.2.2.1, h.2.2.2⟩
  cases hk : s.ann.stack.look st with
  | none => simp [State.stack, Tbl.getD, hk]
  | some l => simpa [State.stack, Tbl.getD, hk] using h.1 _ (Tbl.mem_of_look hk)

/-- `OwnersEntitled` from what each listed entry meets; the pending takeovers stand apart, nothing deciding them. -/
theorem ownersEntitled_of {s : State}
    (h : Tbl.wf s.auth.logon ∧ Tbl.wf s.gate.transit ∧ s.gate.transit.length ≤ Config.transitEntries ∧
      (∀ st ∈ s.auth.logon.keys, ∀ st' ∈ s.auth.logon.keys, s.logonAt st = s.logonAt st' → st = st') ∧
      (∀ a ∈ s.auth.owner.keys ++ s.hand.keys, 1 ≤ a ∧ a ≤ 12) ∧
      ∀ p ∈ s.auth.owner, s.logonAt p.2.2 = some p.2.1 ∧ s.permits p.2.2 p.1 = true ∧ 1 ≤ s.levelOf p.2.1 p.1)
    (hk : ∀ p ∈ s.hand, ∀ t, p.2 = .takingOver t →
      s.inFlight p.1 ≠ [] ∧ ∃ op st, s.ownerOf p.1 = some (op, st) ∧ op ≠ t.op) : s.OwnersEntitled := by
  obtain ⟨hl, ht, hn, h1, ha, hw⟩ := h
  refine ⟨hl, ht, hn, fun st st' op h h' => ?_, fun a h => ?_, fun a op st h => ?_, fun a t h => ?_⟩
  · exact h1 st (key_of_look h) st' (key_of_look h') (h.trans h'.symm)
  · refine ha a (List.mem_append.2 (h.imp (fun h => ?_) (fun h => ?_)))
    · exact key_of_look (Option.some_get h).symm
    · exact key_of_look (Option.some_get h).symm
  · exact hw _ (Tbl.mem_of_look h)
  · exact hk _ (Tbl.mem_of_look h) t rfl

/-- What holds of every listed pair of a table holds of what the table reads. -/
theorem look_all {α : Type} {t : Tbl α} {p : Nat → α → Prop} (h : ∀ q ∈ t, p q.1 q.2) (k : Nat) (v : α)
    (hk : t.look k = some v) : p k v := h _ (Tbl.mem_of_look hk)

end Sys2Proof.Tests
end

