-- ==== Sys2Proof/Tests/Witness.lean ====
section
/-! SUPPORT. For every statement with hypotheses, and for each of its clauses, a concrete state and operands that meet
them together: `witness_<statement>_<clause>`. Where the hypotheses have ranges, at an end of the range. -/

namespace Sys2Proof.Tests

open Sys2Proof.Machine

set_option Elab.async false

/-! ### More states -/

/-- A RAISE in sequence of tag 4095, condition 7. -/
def alarm0 : NoticeFields := ⟨0, 4095, 7, false, ⟨5, 99⟩⟩

/-- The same of condition 0. -/
def high0 : NoticeFields := ⟨0, 4095, 0, false, ⟨5, 99⟩⟩

/-- A RAISE in sequence of tag 1, whose parent is tag 4095. -/
def alarm1 : NoticeFields := ⟨0, 1, 7, true, ⟨5, 99⟩⟩

/-- A BEAT of a station. -/
def beatFrame (st : Nat) : List Byte := [1, BitVec.ofNat 8 st, 7, 0, 0, 0, 0, 0]

/-- A frame of the Plant Port without a body. -/
def plantFrame (kind : Nat) : List Byte := [BitVec.ofNat 8 kind, 0, 0, 0, 0, 0, 0, 0]

/-- A header whose reserved field is not zero. -/
def hdrReserved : Hdr := ⟨address 1, 1, 7, 1⟩

def childTag : TagRec := { plainTag with parent := some (4095, 0x81#8) }

/-- The room just after a RESTART in which no frame has come. -/
def restarted : State :=
  { room with console := { room.console with restartPending := stationNumbers }, auth := { room.auth with key := true } }

/-- Station 1 LOST, its operator's grace come to its end. -/
def lost : State :=
  { room with
    console := { room.console with link := [(1, .lost), (2, .up), (3, .up), (5, .up), (16, .up)] }
    auth := { room.auth with grace := [(1, 10000)] } }

def keyed : State := { room with auth := { room.auth with keyLine := true } }
def unkeyed : State := { room with auth := { room.auth with key := true } }

def shelved : State := withOverride .shelve room
def bypassed : State := withOverride .bypass room
def flooding : State := { room with flood := { FloodMon.initial with load := [(1, 480)], flooded := [1] } }
def acked : State := withAlarm { standing with ack := some ⟨⟨5, 60⟩, 0⟩ } ⟨[], [], none⟩ room
def returnedEntry : Entry := { standing with active := false, returnTime := some ⟨5, 60⟩ }
def returned : State := withAlarm returnedEntry ⟨[1], [], some (12000, 1)⟩ room
def escalated : State := withAlarm { standing with stage := 1, cur := .urgent } ⟨[1, 3], [], some (10000, 2)⟩ room

def flying : State := withTransit flight room
def waiting1 : State := withTransit awaitingSign room
def waitingLost : State := withLink .lost waiting1
def busy : State := withTransit { flight with windowEnd := some 9999 } room
def repeating : State :=
  withTransit { flight with state := .repeatWait, windowEnd := some 10000, resend := some 10000 } room

/-- The ticket counter at 65535, which names the entry of the table. -/
def lastTicket : State := { flying with gate := { flying.gate with ticket := 65535 } }

def offered1 : State := withHand (.offered offer) room
def offeredFlying : State := withHand (.offered offer) flying

/-- Operator 1 about to leave: incoming in a session of area 1, with a command waiting in area 12. -/
def leaving : State :=
  withTransit { awaitingSign with origOp := 1, origStation := 2, area := 12 } (withHand (.offered offer) room)

def storing : State := { room with store := { room.store with job := some ⟨16, address 16, 7⟩ } }
def degradedFlying : State := { withLink .degraded flying with plant := ⟨.degraded, true, some 9500, 9500, some 3, 7, none, CountersB.zero⟩ }
def starting : State := { room with plant := { PlantPort.initial with mark := 9200 } }
def resyncing : State := { alarmed with plant := { alarmed.plant with link := .resync, timer := some 10000 } }
def midnight : State := { room with time := ⟨10000, ⟨65535, 86399⟩, false⟩ }

/-- The room while no sequence base is known. -/
def baseless : State := { room with plant := { room.plant with expected := none } }
def resyncFlying : State := withTransit flight resyncing
def offeredShelved : State := withOverride .shelve offered1
def offeredWaiting : State := withHand (.offered offer) waiting1
def takingOver : State := withHand (.takingOver ⟨2, 3, 9000, ⟨5, 90⟩⟩) flying

/-- The deferring area with another load: about to fall to its flood-off threshold; at the thresholds of `rawArea`. -/
def heldLow : State := { held with flood := { held.flood with load := [(1, 171)] } }
def heldHigh : State := { held with flood := { held.flood with load := [(1, 481)] } }
def atFloodOn : State := { room with flood := { FloodMon.initial with load := [(1, 600)] } }

def heldReturnedEntry : Entry := { returnedEntry with disp := .deferred }
def heldReturned : State :=
  { withAlarm heldReturnedEntry ⟨[], [], none⟩ room with flood := { FloodMon.initial with deferred := [⟨⟨0, 0⟩, 1⟩] } }

def shelvedEntry : Entry := { standing with disp := .shelved, ack := some ⟨⟨5, 90⟩, 0⟩ }
def shelvedAlarm : State := withOverride .shelve (withAlarm shelvedEntry ⟨[], [], none⟩ room)

/-- The room with a system alarm at its supervisor's station. -/
def withSystem (n : Nat) (e : Entry) (s : State) : State :=
  { s with
    alarm := { s.alarm with entries := [(n, e)], unitAlarm := e.active }
    ann := { s.ann with recs := [(n, ⟨[3], [], none⟩)], stack := [(3, [n])] } }

def lostAlarm : Entry := Entry.systemAtReset .urgent .none
def backAlarm : Entry := { lostAlarm with active := false, returnTime := some ⟨5, 60⟩ }
def plantLost : State := withSystem 513 lostAlarm (withLink .lost room)
def plantBack : State := withSystem 513 backAlarm room

/-- Area 1 out of service. -/
def areaOff : State := { room with alarm := { room.alarm with out := [1] } }

/-- The first `n` ordinary entries, of one condition of as many tags. -/
def crowd (n : Nat) (d : Disposition) : Tbl Entry :=
  (List.range n).map (fun k => (k, { standing with tag := some k, cond := some 1, disp := d }))

/-- Area 1 flooded and its 256 deferred entries on the full Deferred List. -/
def brimming : State :=
  { room with
    alarm := { room.alarm with entries := crowd 256 .deferred ++ [] }
    flood := { FloodMon.initial with
      load := [(1, 65535)], flooded := [1], deferred := (List.range 256).map (fun k => ⟨⟨k, 0⟩, 1⟩) } }

/-- Every ordinary entry in use. -/
def full : State := { room with alarm := { room.alarm with entries := crowd 512 .shelved ++ [] } }

def tableFullAlarm : Entry := Entry.systemAtReset .urgent (.areas [12])

/-- The same after a raise of area 12 has been dropped. -/
def fullAgain : State :=
  { room with alarm := { room.alarm with
      entries := crowd 512 .shelved ++ [(514, tableFullAlarm)], tableFull := true, unitAlarm := true } }

/-- The room one HIGH alarm short of its flood-on threshold, and in RESYNC. -/
def nearFlood : State := { room with flood := { FloodMon.initial with load := [(1, 448)] } }
def resyncEmpty : State := { room with plant := { room.plant with link := .resync, timer := some 10000 } }

/-- Alarms of tag 1 that the alarm of its parent, tag 4095, suppresses. -/
def childEntry : Entry := { standing with tag := some 1, disp := .suppressed }
def lowChild : Entry := { childEntry with cond := some 7, cfg := .low, cur := .low }

/-- The alarm at its owner's station and such a child at number 1. -/
def withChild (e : Entry) (s : State) : State := { s with alarm := { s.alarm with entries := s.alarm.entries ++ [(1, e)] } }
def family : State := withChild childEntry alarmed
def familyFlooded : State := { withChild lowChild alarmed with flood := { FloodMon.initial with load := [(1, 480)], flooded := [1] } }
def familyShelved : State := { family with overrides := [(0, ⟨.shelve, 1, 0, 1, 9000, ⟨5, 90⟩, 10000, 9⟩)] }

theorem child_alone {s : State} {e f : Entry} (hs : s.alarm.entries = [(0, e), (1, f)]) (hf : f.tag ≠ some 4095) :
    ∀ b ∈ s.alarm.entries, b.1 ≠ 0 → b.2.active = true → b.2.tag = some high0.tag →
      ∀ k, b.2.cond = some k → (0x81#8 : BitVec 8).getLsbD k = false := by
  intro b hb h0 _ ht
  rw [hs, List.mem_cons, List.mem_singleton] at hb
  rcases hb with rfl | rfl
  · exact absurd rfl h0
  · exact absurd ht hf

/-- The alarm at stage 2, one of `k` that OVERDUE ALARM counts. -/
def overdueEntry : Entry := { standing with stage := 2, cur := .urgent }
def overdueAlarm (k : Nat) : Entry := Entry.systemAtReset .high (.count k)
def withOverdue (k : Nat) (e : Entry) : State :=
  { room with
    alarm := { room.alarm with entries := [(0, e), (518, overdueAlarm k)] }
    ann := { room.ann with overdue := k, recs := [(0, ⟨[1, 3], [], none⟩), (518, ⟨[3], [], none⟩)] } }
def overdueOne : State := withOverdue 1 overdueEntry
def overdueTwo : State := withOverdue 2 { overdueEntry with active := false }

/-- An area that is not flooded, its release timer come to its expiry: with two entries deferred, with one, and with two
and a load one HIGH alarm short of the flood-on threshold. -/
def heldTwo : State :=
  { withChild { childEntry with disp := .deferred } held with
    flood := { FloodMon.initial with release := [(1, 10000)], deferred := [⟨⟨0, 0⟩, 1⟩, ⟨⟨1, 0⟩, 1⟩] } }
def heldLast : State :=
  { held with flood := { FloodMon.initial with release := [(1, 10000)], deferred := [⟨⟨0, 0⟩, 1⟩] } }
def heldNear : State := { heldTwo with flood := { heldTwo.flood with load := [(1, 448)] } }

/-- Area 1 QUIESCING with one command in flight and a shelf; the same with an incoming operator who holds level 0; and
with two commands in flight. -/
def quiescing : State := withOverride .shelve (withHand (.quiescing { offer with lapse := none }) flying)
def unfitIncoming : State := withHand (.quiescing { offer with lapse := none, inOp := 3, inStation := 16 }) flying
def twoFlying : State :=
  { quiescing with gate := { quiescing.gate with transit := [(65534, { flight with tag := 1 }), (65535, flight)] } }

theorem crowd_sound {s : State} (n : Nat) (d : Disposition) (l : Tbl Entry) (hs : s.alarm.entries = crowd n d ++ l)
    (hn : n ≤ 512) (hl : Tbl.wf l ∧ ∀ p ∈ l, 512 ≤ p.1) (he : ∀ p ∈ l, State.EntrySound p.1 p.2) : s.EntriesSound := by
  refine ⟨?_, fun p hp => ?_⟩
  · rw [hs]
    refine List.pairwise_append.2 ⟨?_, hl.1, fun p hp q hq => ?_⟩
    · exact List.pairwise_map.2 List.pairwise_lt_range
    · obtain ⟨k, hk, rfl⟩ := List.mem_map.1 hp
      exact Nat.lt_of_lt_of_le (List.mem_range.1 hk) (Nat.le_trans hn (hl.2 q hq))
  · rw [hs] at hp
    rcases List.mem_append.1 hp with hp | hp
    · obtain ⟨k, hk, rfl⟩ := List.mem_map.1 hp
      have hk := List.mem_range.1 hk
      simp [State.EntrySound, standing, Config.raiseCountMax, Config.ordinaryEntries]
      omega
    · exact he p hp

/-- The same one place short of full. -/
def nearlyBrimming : State :=
  { room with
    alarm := { room.alarm with entries := crowd 255 .deferred ++ [] }
    flood := { FloodMon.initial with
      load := [(1, 65535)], flooded := [1], deferred := (List.range 255).map (fun k => ⟨⟨k, 0⟩, 1⟩) } }

theorem nearlyBrimming_sound : nearlyBrimming.EntriesSound :=
  crowd_sound 255 .deferred [] rfl (by decide) (by decide) (by simp)

theorem brimming_sound : brimming.EntriesSound :=
  crowd_sound 256 .deferred [] rfl (by decide) (by decide) (by simp)

theorem full_sound : full.EntriesSound := crowd_sound 512 .shelved [] rfl (by decide) (by decide) (by simp)

theorem fullAgain_sound : fullAgain.EntriesSound :=
  crowd_sound 512 .shelved [(514, tableFullAlarm)] rfl (by decide) (by decide)
    (by unfold State.EntrySound; decide +kernel)

def rawArea : RawArea :=
  { name := List.replicate 16 0x41, stage1 := #v[9, 20, 20, 20], stage2 := 60, decay := 4095, floodOn := 600,
    floodOff := 480, cut := 3, release := 60, shelveMax := 60, bypassMax := 60, window := 30, handover := 120,
    fallback := [2, 5, 0, 0] }

def rawTag : RawTag :=
  { name := [], area := 1, prios := #v[3, 0, 0, 0, 0, 0, 0, 1], parent := none, blocker := none, cls := 1, base := 0,
    shelvable := true, ackRelay := false }

def rosterSent (badge role : Nat) (levels : Vector Nat 12) (stations : List Nat) : RawRoster :=
  ⟨badge, [], role, true, levels, stations⟩

/-- The checks of a Roster and of a Tag record, as the statements list them. -/
def rosterFaults (s : State) (index : Nat) (raw : RawRoster) : List (Bool × Ans) :=
  [(decide (raw.badge = 0), ans .range 1),
   (s.tables.roster.any (fun p => decide (p.1 ≠ index ∧ p.2.badge = raw.badge)), ans .duplicateBadge 1),
   (decide (raw.role < 1 ∨ 3 < raw.role), ans .code 3),
   (raw.stations.any (fun n => decide (n < 1 ∨ 16 < n)), ans .range 6)]

def tagFaults (index : Nat) (raw : RawTag) : List (Bool × Ans) :=
  [(decide (raw.area < 1 ∨ 12 < raw.area), ans .range 2),
   (raw.prios.toList.any (fun c => decide (4 < c)), ans .code 3),
   (raw.parent.any (fun p => decide (4095 < p.1)), ans .range 4),
   (raw.parent.any (fun p => decide (p.1 = index)), ans .selfParent 4),
   (raw.blocker.any (fun b => decide (4095 < b.1)), ans .range 5),
   (raw.blocker.any (fun b => decide (b.2 < 1 ∨ 4 < b.2)), ans .code 5)]

/-! ### The witnesses -/

theorem witness_StepRunsFrontCommand :
    ({ room with pending := [.plantBeat] } : State).pending = [.plantBeat] :=
  rfl

theorem witness_ClockRunsOnEmptyQueue :
    room.pending = [] ∧ room.running = true ∧ room.time.unit + 1 < 2 ^ 48 :=
  by decide +kernel

theorem witness_ClockRunsOnEmptyQueue_off :
    State.reset.pending = [] ∧ ({ room with pins := ⟨false, false, 0⟩ } : State).running = false :=
  by decide +kernel

theorem witness_ClockRunsOnEmptyQueue_limit :
    ({ room with time := ⟨2 ^ 48 - 1, ⟨0, 0⟩, false⟩ } : State).pending = [] ∧
    ({ room with time := ⟨2 ^ 48 - 1, ⟨0, 0⟩, false⟩ } : State).running = true ∧
    2 ^ 48 ≤ ({ room with time := ⟨2 ^ 48 - 1, ⟨0, 0⟩, false⟩ } : State).time.unit + 1 :=
  by decide +kernel

theorem witness_RefusedRequestChangesNothing :
    requestHeader? (.claim (hdr 2) 2 0) = some (hdr 2) ∧ Accepted room (hdr 2) ∧
    exec (.claim (hdr 2) 2 0) room = .next (after (.claim (hdr 2) 2 0) room) ∧
    Answered (after (.claim (hdr 2) 2 0) room) (hdr 2) (ans .areaNotPermitted) ∧
    Code.areaNotPermitted.changes = false :=
  ⟨rfl, by unfold Accepted; decide +kernel, rfl, by unfold Answered; decide +kernel, rfl⟩

theorem witness_OwnersStayEntitled :
    room.OwnersEntitled ∧ step room = .next room.elapse :=
  ⟨ownersEntitled_of (by decide +kernel) (by intro p h; cases h), rfl⟩

theorem witness_CoverStaysAsScanned :
    room.CoverStands ∧ step room = .next room.elapse :=
  ⟨coverStands_of (by decide +kernel), rfl⟩

theorem witness_RoutesStayAsComputed :
    alarmed.RoutesStand ∧ step alarmed = .next alarmed.elapse :=
  ⟨routesStand_of (by decide +kernel), rfl⟩

theorem witness_EntriesStaySound :
    alarmed.EntriesSound ∧ step alarmed = .next alarmed.elapse :=
  ⟨by unfold State.EntriesSound State.EntrySound; decide +kernel, rfl⟩

theorem witness_TablesStayWithinCapacity :
    held.WithinCapacity ∧ step held = .next held.elapse :=
  ⟨withinCapacity_of (by decide +kernel), rfl⟩

theorem witness_ForwardedCommandsAreEntitled :
    room.OwnersEntitled ∧
    exec (.command (hdr 1) 4095 4 7#32 0) room = .next (after (.command (hdr 1) 4095 4 7#32 0) room) ∧
    .plant (.forward 1 4095 .start 7#32 100 0 false false) ∈ (after (.command (hdr 1) 4095 4 7#32 0) room).sent :=
  ⟨witness_OwnersStayEntitled.1, rfl, by decide +kernel⟩

theorem witness_OwnershipPassesOnlyByTransfer :
    exec (.takeover (hdr 3) 1 0) room = .next (after (.takeover (hdr 3) 1 0) room) ∧ room.ownerOf 1 = some (0, 1) ∧
    (after (.takeover (hdr 3) 1 0) room).ownerOf 1 = some (2, 3) ∧ 2 ≠ 0 :=
  ⟨rfl, by decide +kernel⟩

theorem witness_AcceptedFrameArrives :
    Accepted room (hdr 16) ∧ room.isUp (hdr 16).station = true ∧ (hdr 16).station ∉ room.console.restartPending :=
  by unfold Accepted; decide +kernel

theorem witness_AcceptedFrameArrives_restarted :
    Accepted restarted (hdr 1) ∧ (hdr 1).station ∈ restarted.console.restartPending :=
  by unfold Accepted; decide +kernel

theorem witness_AcceptedFrameArrives_lost :
    Accepted lost (hdr 1) ∧ lost.link (hdr 1).station = .lost :=
  by unfold Accepted; decide +kernel

theorem witness_UnknownRequestIsRefused :
    Accepted room (hdr 16) ∧ (hdr 16).rsv = 0 ∧ room.entitled (hdr 16).station = true ∧ room.store.job = none :=
  by unfold Accepted; decide +kernel

theorem witness_UnknownRequestIsRefused_reserved :
    Accepted room hdrReserved ∧ hdrReserved.rsv ≠ 0 ∧ requestHeader? (.logoff hdrReserved) = some hdrReserved :=
  by unfold Accepted; decide +kernel

theorem witness_QueriesAnswerAndChangeNothing :
    State.pageFilter 1 = some (fun _ => true) ∧ Taken alarmed (hdr 16) ∧ alarmed.entitled (hdr 16).station = true ∧
    alarmed.recordAt 4 4095 = some (.tag (some plainTag)) ∧ (alarmed.logonAt (hdr 16).station).isSome = true ∧
    12 ≤ 12 :=
  ⟨rfl, by unfold Taken Accepted; decide +kernel⟩

theorem witness_QueriesAnswerAndChangeNothing_entry :
    (⟨0, 0⟩ : Ref).num ≤ 520 ∧ (arrived alarmed (hdr 16)).entry? 0 = some standing ∧
    (arrived alarmed (hdr 16)).gen 0 = 0 :=
  by decide +kernel

theorem witness_LogonStaffsStation :
    Taken room (hdr 5) ∧ 1 ≤ 65535 ∧ 65535 ≤ 65535 ∧ room.logonAt (hdr 5).station = none ∧
    room.tables.roster.find? (fun p => decide (p.2.badge = 65535)) = some (127, rosterEntry 65535 .operator (levels 1 1)) ∧
    (rosterEntry 65535 .operator (levels 1 1)).enabled = true ∧
    (hdr 5).station ∈ (rosterEntry 65535 .operator (levels 1 1)).stations ∧
    room.stationRec? (hdr 5).station = some (stationEntry 5 .operator) ∧
    roleFits (stationEntry 5 .operator).kind (rosterEntry 65535 .operator (levels 1 1)).role = true ∧
    room.stationOf 127 = none :=
  by unfold Taken Accepted; decide +kernel

theorem witness_LogoffEndsLogon :
    (∀ a, 1 ≤ a → a ≤ 12 → (leaving.ownerOf a).map Prod.fst ≠ some 1 ∧ (leaving.session? a).map (·.outOp) ≠ some 1) ∧
    Taken leaving (hdr 2) ∧ leaving.logonAt (hdr 2).station = some 1 ∧ Tbl.wf leaving.gate.transit :=
  ⟨fun a h1 h2 => by interval_cases a <;> decide +kernel, by unfold Taken Accepted; decide +kernel⟩

theorem witness_ClaimAndReleaseChangeOwner_claim :
    Taken room (hdr 2) ∧ 1 ≤ 12 ∧ 12 ≤ 12 ∧ room.logonAt (hdr 2).station = some 1 ∧
    room.permits (hdr 2).station 12 = true ∧ 1 ≤ room.levelOf 1 12 ∧ room.ownerOf 12 = none :=
  by unfold Taken Accepted; decide +kernel

theorem witness_ClaimAndReleaseChangeOwner_release :
    (∀ n e, n < 512 → room.entry? n = some e → e.area = 1 → e.ack = none → e.disp ≠ .annunciated ∧ e.disp ≠ .deferred) ∧
    Taken room (hdr 1) ∧ 1 ≤ 1 ∧ 1 ≤ 12 ∧ room.logonAt (hdr 1).station = some 0 ∧ room.ownerOf 1 = some (0, 1) ∧
    room.session? 1 = none ∧ (∀ p ∈ room.gate.transit, p.2.area ≠ 1) :=
  ⟨(by intro n e _ h; exact absurd ((show room.entry? n = none from rfl).symm.trans h) (by simp)),
    by unfold Taken Accepted; decide +kernel⟩

theorem witness_CoverScanWalksFallback :
    1 ≤ 12 ∧ 12 ≤ 12 :=
  by decide

theorem witness_SilentStationIsLost :
    room.running = true ∧ room.silenceDue 2 = true ∧ room.staffed 2 = true ∧
    room.stationRec? 2 = some (stationEntry 2 .operator) :=
  by decide +kernel

theorem witness_SilentStationIsLost_unstaffed :
    room.running = true ∧ room.silenceDue 5 = true ∧ room.staffed 5 = false :=
  by decide +kernel

theorem witness_GraceExpiryLogsOff :
    lost.OwnersEntitled ∧ lost.running = true ∧ lost.graceDue 1 = true ∧ lost.logonAt 1 = some 0 :=
  ⟨ownersEntitled_of (by decide +kernel) (by intro p h; cases h), by decide +kernel⟩

theorem witness_MasterKeyFollowsItsLine_asserted :
    keyed.running = true ∧ keyed.auth.keyLine = true ∧ keyed.auth.key = false ∧ keyed.auth.keySince + 5 ≤ keyed.now :=
  by decide +kernel

theorem witness_MasterKeyFollowsItsLine_released :
    unkeyed.running = true ∧ unkeyed.auth.keyLine = false ∧ unkeyed.auth.key = true ∧
    unkeyed.auth.keySince + 5 ≤ unkeyed.now :=
  by decide +kernel

theorem witness_RaiseCreatesOrRenewsEntry :
    room.EntriesSound ∧ (∀ q, plainTag.parent = some q → q.1 ≠ alarm0.tag) ∧ room.running = true ∧
    (room.plant.link = .up ∨ room.plant.link = .resync) ∧ room.plant.expected = some 65535 ∧
    alarm0.seq = (65535 + 1) % 65536 ∧ alarm0.tag ≤ 4095 ∧ alarm0.cond ≤ 7 ∧ room.tagRec? alarm0.tag = some plainTag ∧
    plainTag.prio alarm0.cond = some .low ∧ room.inService plainTag.area = true ∧
    room.entryOf? alarm0.tag alarm0.cond = none ∧ room.freeEntry? = some 0 ∧
    room.override? .shelve alarm0.tag = none ∧ room.suppressed alarm0.tag = false ∧
    (room.flooded plainTag.area = false ∨ (room.areaRec plainTag.area).cut.value < Priority.low.value) :=
  ⟨by unfold State.EntriesSound State.EntrySound; decide +kernel, (by intro _ h; cases h), by decide +kernel⟩

theorem witness_RaiseMayBeHeldBack_shelved :
    shelved.EntriesSound ∧ (∀ q, plainTag.parent = some q → q.1 ≠ alarm0.tag) ∧ shelved.running = true ∧
    (shelved.plant.link = .up ∨ shelved.plant.link = .resync) ∧ shelved.plant.expected = some 65535 ∧
    alarm0.seq = (65535 + 1) % 65536 ∧ alarm0.tag ≤ 4095 ∧ alarm0.cond ≤ 7 ∧
    shelved.tagRec? alarm0.tag = some plainTag ∧ plainTag.prio alarm0.cond = some .low ∧
    shelved.inService plainTag.area = true ∧ shelved.entryOf? alarm0.tag alarm0.cond = none ∧
    shelved.freeEntry? = some 0 ∧
    shelved.override? .shelve alarm0.tag = some (0, ⟨.shelve, 4095, 0, 1, 9000, ⟨5, 90⟩, 10000, 9⟩) :=
  ⟨by unfold State.EntriesSound State.EntrySound; decide +kernel, (by intro _ h; cases h), by decide +kernel⟩

theorem witness_RaiseMayBeHeldBack_suppressed :
    alarmed.EntriesSound ∧ (∀ q, childTag.parent = some q → q.1 ≠ alarm1.tag) ∧ alarmed.running = true ∧
    (alarmed.plant.link = .up ∨ alarmed.plant.link = .resync) ∧ alarmed.plant.expected = some 65535 ∧
    alarm1.seq = (65535 + 1) % 65536 ∧ alarm1.tag ≤ 4095 ∧ alarm1.cond ≤ 7 ∧
    alarmed.tagRec? alarm1.tag = some childTag ∧ childTag.prio alarm1.cond = some .low ∧
    alarmed.inService childTag.area = true ∧ alarmed.entryOf? alarm1.tag alarm1.cond = none ∧
    alarmed.freeEntry? = some 1 ∧ alarmed.override? .shelve alarm1.tag = none ∧
    alarmed.suppressed alarm1.tag = true :=
  ⟨by unfold State.EntriesSound State.EntrySound; decide +kernel, (by intro q h; cases h; decide), by decide +kernel⟩

theorem witness_RaiseMayBeHeldBack_deferred :
    flooding.EntriesSound ∧ (∀ q, plainTag.parent = some q → q.1 ≠ alarm0.tag) ∧ flooding.running = true ∧
    (flooding.plant.link = .up ∨ flooding.plant.link = .resync) ∧ flooding.plant.expected = some 65535 ∧
    alarm0.seq = (65535 + 1) % 65536 ∧ alarm0.tag ≤ 4095 ∧ alarm0.cond ≤ 7 ∧
    flooding.tagRec? alarm0.tag = some plainTag ∧ plainTag.prio alarm0.cond = some .low ∧
    flooding.inService plainTag.area = true ∧ flooding.entryOf? alarm0.tag alarm0.cond = none ∧
    flooding.freeEntry? = some 0 ∧ flooding.override? .shelve alarm0.tag = none ∧
    flooding.suppressed alarm0.tag = false ∧ flooding.flooded plainTag.area = true ∧
    Priority.low.value ≤ (flooding.areaRec plainTag.area).cut.value ∧ flooding.flood.deferred.length < 256 :=
  ⟨by unfold State.EntriesSound State.EntrySound; decide +kernel, (by intro _ h; cases h), by decide +kernel⟩

theorem witness_AckAcknowledgesOrRemoves_active :
    Taken alarmed (hdr 1) ∧ alarmed.logonAt (hdr 1).station = some 0 ∧ (⟨0, 0⟩ : Ref).num < 512 ∧
    alarmed.entry? 0 = some standing ∧ alarmed.gen 0 = 0 ∧ (standing).tag = some 4095 ∧ (standing).cond = some 0 ∧
    (standing).ack = none ∧ (standing).active = true ∧
    (arrived alarmed (hdr 1)).responsible 0 (hdr 1).station standing = true :=
  by unfold Taken Accepted; decide +kernel

theorem witness_AckAcknowledgesOrRemoves_returned :
    Taken returned (hdr 1) ∧ returned.logonAt (hdr 1).station = some 0 ∧ (⟨0, 0⟩ : Ref).num < 512 ∧
    returned.entry? 0 = some returnedEntry ∧ returned.gen 0 = 0 ∧ (returnedEntry).tag = some 4095 ∧
    (returnedEntry).cond = some 0 ∧ (returnedEntry).ack = none ∧ (returnedEntry).active = false ∧
    (arrived returned (hdr 1)).responsible 0 (hdr 1).station returnedEntry = true :=
  by unfold Taken Accepted; decide +kernel

theorem witness_ServiceTakesAreaOutAndIn_out :
    Taken alarmed (hdr 3) ∧ 1 ≤ 12 ∧ 12 ≤ 12 ∧ alarmed.maySetService (hdr 3).station = true ∧
    alarmed.inService 12 = true :=
  by unfold Taken Accepted; decide +kernel

theorem witness_ServiceTakesAreaOutAndIn_in :
    Taken room (hdr 16) ∧ 1 ≤ 2 ∧ 2 ≤ 12 ∧ room.maySetService (hdr 16).station = true ∧ room.inService 2 = false ∧
    room.plant.link ≠ .start ∧ room.plant.link ≠ .lost :=
  by unfold Taken Accepted; decide +kernel

theorem witness_DecayLowersLoad :
    held.running = true ∧ 0 < held.load 1 ∧ room.load 12 = 0 :=
  by decide +kernel

theorem witness_SilenceQuietsStation_top :
    alarmed.RoutesStand ∧ alarmed.WithinCapacity ∧ Taken alarmed (hdr 1) ∧
    (alarmed.logonAt (hdr 1).station).isSome = true ∧ (⟨0, 0⟩ : Ref).num ≤ 520 ∧
    (arrived alarmed (hdr 1)).current ⟨0, 0⟩ = true ∧ (arrived alarmed (hdr 1)).top? (hdr 1).station = some 0 :=
  ⟨witness_RoutesStayAsComputed.1, withinCapacity_of (by decide +kernel), by unfold Taken Accepted; decide +kernel⟩

theorem witness_SilenceQuietsStation_all :
    alarmed.RoutesStand ∧ Taken alarmed (hdr 1) ∧ (alarmed.logonAt (hdr 1).station).isSome = true ∧
    (arrived alarmed (hdr 1)).audible (hdr 1).station ≠ [] :=
  ⟨witness_RoutesStayAsComputed.1, by unfold Taken Accepted; decide +kernel⟩

theorem witness_DeadlinesEscalate_stage1 :
    alarmed.running = true ∧ alarmed.deadlineDue 0 1 = true ∧ alarmed.entry? 0 = some standing :=
  by decide +kernel

theorem witness_DeadlinesEscalate_stage2 :
    escalated.running = true ∧ 0 < 512 ∧ escalated.deadlineDue 0 2 = true ∧
    escalated.entry? 0 = some { standing with stage := 1, cur := .urgent } :=
  by decide +kernel

theorem witness_OverrideIsPlaced_bypass :
    Taken alarmed (hdr 1) ∧ 4095 ≤ 4095 ∧ alarmed.tagRec? 4095 = some plainTag ∧
    alarmed.logonAt (hdr 1).station = some 0 ∧ 3 ≤ alarmed.levelOf 0 (plainTag).area ∧
    alarmed.overrideRight 0 (hdr 1).station (plainTag).area = true ∧ alarmed.override? .bypass 4095 = none ∧
    alarmed.freeOverride? = some 0 :=
  by unfold Taken Accepted; decide +kernel

theorem witness_OverrideIsRenewed_shelve :
    Taken shelved (hdr 1) ∧ 4095 ≤ 4095 ∧ shelved.tagRec? 4095 = some plainTag ∧
    shelved.logonAt (hdr 1).station = some 0 ∧ State.overrideLevel .shelve ≤ shelved.levelOf 0 plainTag.area ∧
    shelved.overrideRight 0 (hdr 1).station plainTag.area = true ∧
    (OverrideKind.shelve = .shelve → plainTag.shelvable = true) ∧
    shelved.override? .shelve 4095 = some (0, ⟨.shelve, 4095, 0, 1, 9000, ⟨5, 90⟩, 10000, 9⟩) :=
  by unfold Taken Accepted; decide +kernel

theorem witness_OverrideIsRenewed_bypass :
    Taken bypassed (hdr 1) ∧ 4095 ≤ 4095 ∧ bypassed.tagRec? 4095 = some plainTag ∧
    bypassed.logonAt (hdr 1).station = some 0 ∧ State.overrideLevel .bypass ≤ bypassed.levelOf 0 plainTag.area ∧
    bypassed.overrideRight 0 (hdr 1).station plainTag.area = true ∧
    (OverrideKind.bypass = .shelve → plainTag.shelvable = true) ∧
    bypassed.override? .bypass 4095 = some (0, ⟨.bypass, 4095, 0, 1, 9000, ⟨5, 90⟩, 10000, 9⟩) :=
  by unfold Taken Accepted; decide +kernel

theorem witness_OverrideIsLifted_shelve :
    Taken shelved (hdr 1) ∧ 4095 ≤ 4095 ∧ shelved.tagRec? 4095 = some plainTag ∧
    shelved.logonAt (hdr 1).station = some 0 ∧
    shelved.override? .shelve 4095 = some (0, ⟨.shelve, 4095, 0, 1, 9000, ⟨5, 90⟩, 10000, 9⟩) ∧
    shelved.mayEnd ⟨.shelve, 4095, 0, 1, 9000, ⟨5, 90⟩, 10000, 9⟩ 0 (hdr 1).station plainTag.area = true :=
  by unfold Taken Accepted; decide +kernel

theorem witness_OverrideIsLifted_bypass :
    Taken bypassed (hdr 1) ∧ 4095 ≤ 4095 ∧ bypassed.tagRec? 4095 = some plainTag ∧
    bypassed.logonAt (hdr 1).station = some 0 ∧
    bypassed.override? .bypass 4095 = some (0, ⟨.bypass, 4095, 0, 1, 9000, ⟨5, 90⟩, 10000, 9⟩) ∧
    bypassed.mayEnd ⟨.bypass, 4095, 0, 1, 9000, ⟨5, 90⟩, 10000, 9⟩ 0 (hdr 1).station plainTag.area = true :=
  by unfold Taken Accepted; decide +kernel

theorem witness_OverrideExpires :
    bypassed.running = true ∧ bypassed.overrides.look 0 = some ⟨.bypass, 4095, 0, 1, 9000, ⟨5, 90⟩, 10000, 9⟩ ∧
    10000 ≤ bypassed.now :=
  by decide +kernel

theorem witness_CommandIsForwardedOrWaits_forwarded :
    Taken room (hdr 1) ∧ 4095 ≤ 4095 ∧ room.tagRec? 4095 = some plainTag ∧ Action.ofCode 8 = some .resetTrip ∧
    room.logonAt (hdr 1).station = some 0 ∧ plainTag.cls ≠ 0 ∧
    classLevel plainTag.cls ≤ room.levelOf 0 plainTag.area ∧
    (room.isOwnerStation (hdr 1).station plainTag.area = true ∨ room.keySupervisor 0 (hdr 1).station = true) ∧
    room.plant.link ≠ .lost ∧ room.plant.link ≠ .start ∧ room.isQuiescing (plainTag).area = false ∧
    (∀ p ∈ room.gate.transit, p.2.tag ≠ 4095) ∧ room.blocker? plainTag = none ∧ room.gate.transit.length < 32 ∧
    room.gate.transit.look room.gate.ticket = none ∧
    (plainTag.cls ≠ 4 ∨ room.keySupervisor 0 (hdr 1).station = true) :=
  by unfold Taken Accepted; decide +kernel

theorem witness_CommandIsForwardedOrWaits_waits :
    Taken room (hdr 1) ∧ 0 ≤ 4095 ∧ room.tagRec? 0 = some ({ plainTag with cls := 4 } : TagRec) ∧
    Action.ofCode 8 = some .resetTrip ∧ room.logonAt (hdr 1).station = some 0 ∧
    ({ plainTag with cls := 4 } : TagRec).cls = 4 ∧ 3 ≤ room.levelOf 0 ({ plainTag with cls := 4 } : TagRec).area ∧
    room.isOwnerStation (hdr 1).station ({ plainTag with cls := 4 } : TagRec).area = true ∧
    room.keySupervisor 0 (hdr 1).station = false ∧ room.plant.link ≠ .lost ∧ room.plant.link ≠ .start ∧
    room.isQuiescing (({ plainTag with cls := 4 } : TagRec)).area = false ∧ (∀ p ∈ room.gate.transit, p.2.tag ≠ 0) ∧
    room.blocker? ({ plainTag with cls := 4 } : TagRec) = none ∧ room.gate.transit.length < 32 ∧
    room.gate.transit.look room.gate.ticket = none :=
  by unfold Taken Accepted; decide +kernel

theorem witness_TicketsAreNeverShared :
    lastTicket.WithinCapacity ∧
    exec (.command (hdr 1) 2 1 7#32 0) lastTicket = .next (after (.command (hdr 1) 2 1 7#32 0) lastTicket) ∧
    Answered (after (.command (hdr 1) 2 1 7#32 0) lastTicket) (hdr 1) (ans .pending 1) ∧ Taken lastTicket (hdr 1) :=
  ⟨withinCapacity_of (by decide +kernel), rfl, by unfold Answered; decide +kernel,
    by unfold Taken Accepted; decide +kernel⟩

theorem witness_AgreementForwards :
    (∀ r, waiting1.tagRec? 0 = some r → waiting1.blocker? r = none) ∧ Taken waiting1 (hdr 2) ∧ 1 ≤ 65535 ∧
    65535 ≤ 65535 ∧ 0 ≤ 4095 ∧ waiting1.logonAt (hdr 2).station = some 1 ∧
    waiting1.gate.transit.look 65535 = some awaitingSign ∧ awaitingSign.tag = 0 ∧ awaitingSign.state = .awaiting ∧
    1 ≠ awaitingSign.origOp ∧ (hdr 2).station ≠ awaitingSign.origStation ∧ 3 ≤ waiting1.levelOf 1 awaitingSign.area ∧
    waiting1.logonAt awaitingSign.origStation = some awaitingSign.origOp ∧
    3 ≤ waiting1.levelOf awaitingSign.origOp awaitingSign.area ∧
    waiting1.ownerOf awaitingSign.area = some (awaitingSign.origOp, awaitingSign.origStation) ∧
    waiting1.plant.link ≠ .lost ∧ waiting1.plant.link ≠ .start ∧ waiting1.isQuiescing awaitingSign.area = false :=
  ⟨(by intro r h; cases h; decide +kernel), by unfold Taken Accepted; decide +kernel⟩

theorem witness_WaitingCommandEnds :
    waiting1.gate.transit.look 65535 = some awaitingSign ∧ awaitingSign.state = .awaiting ∧
    awaitingSign.signer = none ∧ waiting1.running = true ∧ awaitingSign.deadline ≤ waiting1.now :=
  by decide +kernel

theorem witness_WaitingCommandEnds_declined :
    Taken waiting1 (hdr 2) ∧ 1 ≤ 65535 ∧ 65535 ≤ 65535 ∧ awaitingSign.tag ≤ 4095 ∧
    waiting1.logonAt (hdr 2).station = some 1 ∧ 1 ≠ awaitingSign.origOp ∧ (hdr 2).station ≠ awaitingSign.origStation ∧
    3 ≤ waiting1.levelOf 1 awaitingSign.area :=
  by unfold Taken Accepted; decide +kernel

theorem witness_WaitingCommandEnds_refused :
    waitingLost.gate.transit.look 65535 = some awaitingSign ∧ Taken waitingLost (hdr 2) ∧ 1 ≤ 65535 ∧ 65535 ≤ 65535 ∧
    awaitingSign.tag ≤ 4095 ∧ waitingLost.logonAt (hdr 2).station = some 1 ∧ 1 ≠ awaitingSign.origOp ∧
    (hdr 2).station ≠ awaitingSign.origStation ∧ 3 ≤ waitingLost.levelOf 1 awaitingSign.area ∧
    waitingLost.recheck awaitingSign = some .plantLost :=
  by unfold Taken Accepted; decide +kernel

theorem witness_WaitingCommandEnds_withdrawn :
    Taken waiting1 (hdr 1) ∧ 1 ≤ 65535 ∧ 65535 ≤ 65535 ∧ (hdr 1).station = awaitingSign.origStation ∧
    waiting1.logonAt (hdr 1).station = some awaitingSign.origOp :=
  by unfold Taken Accepted; decide +kernel

theorem witness_BusyCommandIsRepeated_forwarded :
    (∀ w, flight.windowEnd = some w → flying.now ≤ w) ∧ flying.running = true ∧
    flying.gate.transit.look 65535 = some flight ∧ flight.state = .forwarded :=
  ⟨(by intro _ h; cases h), by decide +kernel⟩

theorem witness_BusyCommandIsRepeated_waiting :
    (∀ w, ({ flight with state := .repeatWait, windowEnd := some 10000, resend := some 10000 } : Transit).windowEnd = some w → repeating.now ≤ w) ∧
    repeating.running = true ∧
    repeating.gate.transit.look 65535 = some { flight with state := .repeatWait, windowEnd := some 10000, resend := some 10000 } ∧
    ({ flight with state := .repeatWait, windowEnd := some 10000, resend := some 10000 } : Transit).state = .repeatWait ∧
    ({ flight with state := .repeatWait, windowEnd := some 10000, resend := some 10000 } : Transit).resend = some 10000 ∧
    10000 ≤ repeating.now :=
  ⟨(by intro w h; cases h; decide +kernel), by decide +kernel⟩

theorem witness_ExtensionMovesDeadline :
    flying.running = true ∧ flying.gate.transit.look 65535 = some flight ∧ flight.state ≠ .awaiting ∧ 1 ≤ 3 ∧ 3 ≤ 3 :=
  by decide +kernel

theorem witness_UnmatchedPlantFramesAreCounted_late :
    (∀ x, waiting1.gate.transit.look 65535 = some x → x.tag ≠ 0 ∨ x.state = .awaiting) ∧ waiting1.running = true :=
  ⟨(by intro x h; cases h; decide), by decide +kernel⟩

theorem witness_UnmatchedPlantFramesAreCounted_duplicate :
    room.running = true ∧ (room.plant.link = .up ∨ room.plant.link = .resync) ∧ room.plant.expected = some 65535 ∧
    ({ alarm0 with seq := 65535 } : NoticeFields).seq = 65535 ∧
    ({ alarm0 with seq := 65535 } : NoticeFields).seq ≠ (65535 + 1) % 65536 :=
  by decide +kernel

theorem witness_UnmatchedPlantFramesAreCounted_gap :
    room.running = true ∧ (room.plant.link = .up ∨ room.plant.link = .resync) ∧ room.plant.expected = some 65535 ∧
    ({ alarm0 with seq := 1 } : NoticeFields).seq ≠ 65535 ∧
    ({ alarm0 with seq := 1 } : NoticeFields).seq ≠ (65535 + 1) % 65536 :=
  by decide +kernel

theorem witness_OfferOpensSession :
    Taken room (hdr 1) ∧ 1 ≤ 1 ∧ 1 ≤ 12 ∧ 1 ≤ 101 ∧ 101 ≤ 65535 ∧ room.logonAt (hdr 1).station = some 0 ∧
    room.ownerOf 1 = some (0, (hdr 1).station) ∧ room.hand.look 1 = none ∧
    room.incoming? (hdr 1).station 1 101 = some (1, 2) :=
  by unfold Taken Accepted; decide +kernel

theorem witness_ReviewMarksItems :
    Taken offered1 (hdr 2) ∧ offered1.logonAt (hdr 2).station = some 1 ∧ offered1.session? 1 = some offer ∧
    offer.inOp = 1 ∧ offer.inStation = (hdr 2).station ∧ 1 ≤ offer.items.length :=
  by unfold Taken Accepted; decide +kernel

theorem witness_ReviewMarksItems_refused :
    Taken room (hdr 2) ∧ room.logonAt (hdr 2).station = some 1 ∧ room.session? 1 = none ∧
    offered1.session? 1 = some offer ∧ (offer.inOp ≠ 0 ∨ offer.inStation ≠ (hdr 1).station) ∧
    offer.items.length < 64 :=
  by unfold Taken Accepted; decide +kernel

theorem witness_AcceptTransfersOrWaits_transfer :
    offered1.WithinCapacity ∧ Taken offered1 (hdr 2) ∧ 1 ≤ 1 ∧ 1 ≤ 12 ∧
    offered1.logonAt (hdr 2).station = some offer.inOp ∧ offer.inStation = (hdr 2).station ∧
    offered1.hand.look 1 = some (.offered offer) ∧ (∀ i ∈ offer.items, i.resolved = true ∨ i.reviewed = true) ∧
    offered1.inFlight 1 = [] ∧ offered1.ownerConditions offer.inOp 1 = some (hdr 2).station :=
  ⟨withinCapacity_of (by decide +kernel), by unfold Taken Accepted; decide +kernel⟩

theorem witness_AcceptTransfersOrWaits_quiescing :
    offeredFlying.WithinCapacity ∧ Taken offeredFlying (hdr 2) ∧ 1 ≤ 1 ∧ 1 ≤ 12 ∧
    offeredFlying.logonAt (hdr 2).station = some offer.inOp ∧ offer.inStation = (hdr 2).station ∧
    offeredFlying.hand.look 1 = some (.offered offer) ∧ (∀ i ∈ offer.items, i.resolved = true ∨ i.reviewed = true) ∧
    offeredFlying.inFlight 1 ≠ [] :=
  ⟨withinCapacity_of (by decide +kernel), by unfold Taken Accepted; decide +kernel⟩

theorem witness_OfferIsRecalledOrLapses :
    offered1.hand.look 1 = some (.offered offer) ∧ Taken offered1 (hdr 1) ∧ 1 ≤ 1 ∧ 1 ≤ 12 ∧
    offered1.logonAt (hdr 1).station = some offer.outOp ∧ offer.outStation = (hdr 1).station :=
  by unfold Taken Accepted; decide +kernel

theorem witness_OfferIsRecalledOrLapses_lapse :
    offered1.running = true ∧ offer.lapse = some 10000 ∧ 10000 ≤ offered1.now :=
  by decide +kernel

theorem witness_StoreWritesImage :
    Taken room (hdr 16) ∧ room.entitled (hdr 16).station = true ∧ room.store.job = none :=
  by unfold Taken Accepted; decide +kernel

theorem witness_StoreWritesImage_ends :
    storing.running = true ∧ storing.store.job = some ⟨16, address 16, 7⟩ :=
  by decide +kernel

theorem witness_RestartClearsLiveState :
    Taken room (hdr 16) ∧ room.entitled (hdr 16).station = true ∧ room.store.job = none :=
  by unfold Taken Accepted; decide +kernel

theorem witness_StartUpLoadsImage :
    Instr.powerUp ⟨true, false, false, true⟩ = .powerUp ⟨true, false, false, true⟩ ∧ ({ room with pins := ⟨false, false, 0⟩ } : State).pins.reset = false :=
  by decide

theorem witness_StartUpLoadsImage_reset :
    ({ room with pins := ⟨false, true, 0⟩ } : State).pins.reset = true ∧
    ({ room with pins := ⟨false, true, 0⟩ } : State).pins.power = false :=
  by decide

theorem witness_LossStopsUnit :
    storing.store.job.isSome = true ∧ room.store.job = none :=
  by decide

theorem witness_PlantWatchMovesLink_up :
    room.running = true ∧ (room.plant.link = .up ∨ room.plant.link = .resync) :=
  by decide

theorem witness_PlantWatchMovesLink_degraded :
    (withLink .degraded room).running = true ∧ (withLink .degraded room).plant.link = .degraded :=
  by decide

theorem witness_PlantWatchMovesLink_lost :
    (withLink .lost room).running = true ∧
    ((withLink .lost room).plant.link = .start ∨ (withLink .lost room).plant.link = .lost) :=
  by decide

theorem witness_PlantWatchMovesLink_silence :
    room.running = true ∧ room.plantSilenceDue = true :=
  by decide +kernel

theorem witness_PlantLossFailsCommands :
    degradedFlying.WithinCapacity ∧ degradedFlying.running = true ∧
    (Instr.plantDegradedTimeout = .plantDegradedTimeout ∧ degradedFlying.plantDegradedDue = true) :=
  ⟨withinCapacity_of (by decide +kernel), by decide +kernel⟩

theorem witness_PlantLossFailsCommands_start :
    starting.WithinCapacity ∧ starting.running = true ∧
    (Instr.plantStartTimeout = .plantStartTimeout ∧ starting.plantStartDue = true) :=
  ⟨withinCapacity_of (by decide +kernel), by decide +kernel⟩

theorem witness_ResyncEnds :
    resyncing.running = true ∧ resyncing.plant.link = .resync ∧ resyncing.resyncTimerDue = true :=
  by decide +kernel

theorem witness_ResyncEnds_stray :
    room.running = true ∧ (room.plant.link = .up ∨ (room.plant.link = .resync ∧ 1 ≠ room.plant.resync)) :=
  by decide +kernel

theorem witness_WholeSecondsBeatAndAdvance :
    Taken room (hdr 16) ∧ room.entitled (hdr 16).station = true ∧ (⟨65535, 86399⟩ : MillTime).sec ≤ 86399 ∧
    room.running = true :=
  by unfold Taken Accepted; decide +kernel

theorem witness_WholeSecondsBeatAndAdvance_midnight :
    midnight.running = true ∧ midnight.time.mill.sec = 86399 ∧ midnight.time.mill.day = 65535 :=
  by decide

theorem witness_AckAcknowledgesOrRemoves_deferred :
    Taken held (hdr 1) ∧ held.logonAt (hdr 1).station = some 0 ∧ (⟨0, 0⟩ : Ref).num < 512 ∧
    held.entry? 0 = some { standing with disp := .deferred } ∧ held.gen 0 = 0 ∧ standing.tag = some 4095 ∧
    standing.cond = some 0 ∧ standing.ack = none ∧ standing.active = true ∧
    (arrived held (hdr 1)).responsible 0 (hdr 1).station { standing with disp := .deferred } = true ∧
    held.tagRec? 4095 = some plainTag ∧ plainTag.ackRelay = true ∧ held.plant.link ≠ .start ∧
    held.plant.link ≠ .lost :=
  by unfold Taken Accepted; decide +kernel

theorem witness_ResyncEnds_area :
    room.running = true ∧ 12 ≠ 0 ∧ (room.plant.link = .up ∨ room.plant.link = .resync) :=
  by decide

theorem witness_StartUpLoadsImage_agrees :
    ({ room with store := { room.store with image := ⟨Tables.empty, imageCrc Tables.empty⟩ }, pins := ⟨false, false, 0⟩ } : State).pins.reset = false ∧
    imageCrc ({ room with store := { room.store with image := ⟨Tables.empty, imageCrc Tables.empty⟩ }, pins := ⟨false, false, 0⟩ } : State).store.image.tables = ({ room with store := { room.store with image := ⟨Tables.empty, imageCrc Tables.empty⟩ }, pins := ⟨false, false, 0⟩ } : State).store.image.crc :=
  ⟨rfl, rfl⟩

theorem witness_MasterKeyFollowsItsLine_same :
    keyed.auth.keyLine = true :=
  rfl

theorem witness_RaiseCreatesOrRenewsEntry_duplicate :
    alarmed.running = true ∧ (alarmed.plant.link = .up ∨ alarmed.plant.link = .resync) ∧
    alarmed.plant.expected = some 65535 ∧ high0.seq = (65535 + 1) % 65536 ∧ high0.tag ≤ 4095 ∧ high0.cond ≤ 7 ∧
    alarmed.tagRec? high0.tag = some plainTag ∧ plainTag.prio high0.cond = some .high ∧
    alarmed.inService plainTag.area = true ∧ alarmed.entryOf? high0.tag high0.cond = some (0, standing) ∧
    alarmed.entry? 0 = some standing ∧ (standing).active = true :=
  by decide +kernel

theorem witness_RaiseCreatesOrRenewsEntry_annunciated :
    returned.running = true ∧ (returned.plant.link = .up ∨ returned.plant.link = .resync) ∧
    returned.plant.expected = some 65535 ∧ high0.seq = (65535 + 1) % 65536 ∧ high0.tag ≤ 4095 ∧ high0.cond ≤ 7 ∧
    returned.tagRec? high0.tag = some plainTag ∧ plainTag.prio high0.cond = some .high ∧
    returned.inService plainTag.area = true ∧ returned.entryOf? high0.tag high0.cond = some (0, returnedEntry) ∧
    returned.entry? 0 = some returnedEntry ∧ (returnedEntry).active = false ∧ returnedEntry.disp = .annunciated :=
  by decide +kernel

theorem witness_RaiseCreatesOrRenewsEntry_deferred :
    heldReturned.running = true ∧ (heldReturned.plant.link = .up ∨ heldReturned.plant.link = .resync) ∧
    heldReturned.plant.expected = some 65535 ∧ high0.seq = (65535 + 1) % 65536 ∧ high0.tag ≤ 4095 ∧ high0.cond ≤ 7 ∧
    heldReturned.tagRec? high0.tag = some plainTag ∧ plainTag.prio high0.cond = some .high ∧
    heldReturned.inService plainTag.area = true ∧
    heldReturned.entryOf? high0.tag high0.cond = some (0, heldReturnedEntry) ∧
    heldReturned.entry? 0 = some heldReturnedEntry ∧ (heldReturnedEntry).active = false ∧
    heldReturnedEntry.disp = .deferred :=
  by decide +kernel

theorem witness_RaiseMayBeHeldBack_overflow :
    brimming.EntriesSound ∧ (∀ q, plainTag.parent = some q → q.1 ≠ alarm0.tag) ∧ brimming.running = true ∧
    (brimming.plant.link = .up ∨ brimming.plant.link = .resync) ∧ brimming.plant.expected = some 65535 ∧
    alarm0.seq = (65535 + 1) % 65536 ∧ alarm0.tag ≤ 4095 ∧ alarm0.cond ≤ 7 ∧
    brimming.tagRec? alarm0.tag = some plainTag ∧ plainTag.prio alarm0.cond = some .low ∧
    brimming.inService plainTag.area = true ∧ brimming.entryOf? alarm0.tag alarm0.cond = none ∧
    brimming.freeEntry? = some 256 ∧ brimming.override? .shelve alarm0.tag = none ∧
    brimming.suppressed alarm0.tag = false ∧ brimming.flooded plainTag.area = true ∧
    Priority.low.value ≤ (brimming.areaRec plainTag.area).cut.value ∧ 256 ≤ brimming.flood.deferred.length :=
  ⟨brimming_sound, (by intro _ h; cases h), by decide +kernel⟩

theorem witness_RaiseMayBeHeldBack_full :
    full.EntriesSound ∧ (∀ q, plainTag.parent = some q → q.1 ≠ alarm0.tag) ∧ full.running = true ∧
    (full.plant.link = .up ∨ full.plant.link = .resync) ∧ full.plant.expected = some 65535 ∧
    alarm0.seq = (65535 + 1) % 65536 ∧ alarm0.tag ≤ 4095 ∧ alarm0.cond ≤ 7 ∧ full.tagRec? alarm0.tag = some plainTag ∧
    plainTag.prio alarm0.cond = some .low ∧ full.inService plainTag.area = true ∧
    full.entryOf? alarm0.tag alarm0.cond = none ∧ full.freeEntry? = none ∧ full.alarm.tableFull = false :=
  ⟨full_sound, (by intro _ h; cases h), by decide +kernel⟩

theorem witness_RaiseMayBeHeldBack_fullAgain :
    fullAgain.EntriesSound ∧ (∀ q, plainTag.parent = some q → q.1 ≠ alarm0.tag) ∧ fullAgain.running = true ∧
    (fullAgain.plant.link = .up ∨ fullAgain.plant.link = .resync) ∧ fullAgain.plant.expected = some 65535 ∧
    alarm0.seq = (65535 + 1) % 65536 ∧ alarm0.tag ≤ 4095 ∧ alarm0.cond ≤ 7 ∧
    fullAgain.tagRec? alarm0.tag = some plainTag ∧ plainTag.prio alarm0.cond = some .low ∧
    fullAgain.inService plainTag.area = true ∧ fullAgain.entryOf? alarm0.tag alarm0.cond = none ∧
    fullAgain.freeEntry? = none ∧ fullAgain.alarm.tableFull = true ∧ fullAgain.entry? 514 = some tableFullAlarm ∧
    tableFullAlarm.subject = .areas [12] :=
  ⟨fullAgain_sound, (by intro _ h; cases h), by decide +kernel⟩

theorem witness_AckAcknowledgesOrRemoves_system :
    Taken plantLost (hdr 3) ∧ plantLost.logonAt (hdr 3).station = some 2 ∧ 512 ≤ 513 ∧ 513 ≤ 520 ∧
    (arrived plantLost (hdr 3)).entry? 513 = some lostAlarm ∧ lostAlarm.tag = none ∧ lostAlarm.disp = .annunciated ∧
    lostAlarm.ack = none ∧ plantLost.isSupervisorRole 2 = true ∧ lostAlarm.active = true :=
  by unfold Taken Accepted; decide +kernel

theorem witness_AckAcknowledgesOrRemoves_systemReturned :
    Taken plantBack (hdr 3) ∧ plantBack.logonAt (hdr 3).station = some 2 ∧ 512 ≤ 513 ∧ 513 ≤ 520 ∧
    (arrived plantBack (hdr 3)).entry? 513 = some backAlarm ∧ backAlarm.tag = none ∧ backAlarm.disp = .annunciated ∧
    backAlarm.ack = none ∧ plantBack.isSupervisorRole 2 = true ∧ backAlarm.active = false :=
  by unfold Taken Accepted; decide +kernel

theorem witness_AckAcknowledgesOrRemoves_notResponsible :
    Taken plantLost (hdr 1) ∧ plantLost.logonAt (hdr 1).station = some 0 ∧ 512 ≤ 513 ∧ 513 ≤ 520 ∧
    (arrived plantLost (hdr 1)).entry? 513 = some lostAlarm ∧ lostAlarm.tag = none ∧ lostAlarm.disp = .annunciated ∧
    lostAlarm.ack = none ∧ plantLost.isSupervisorRole 0 = false :=
  by unfold Taken Accepted; decide +kernel

theorem witness_OverrideExpires_shelf :
    shelvedAlarm.running = true ∧
    shelvedAlarm.overrides.look 0 = some ⟨.shelve, 4095, 0, 1, 9000, ⟨5, 90⟩, 10000, 9⟩ ∧ 10000 ≤ shelvedAlarm.now ∧
    shelvedAlarm.entry? 0 = some shelvedEntry ∧ shelvedEntry.tag = some 4095 ∧ shelvedEntry.active = true :=
  by decide +kernel

theorem witness_UnmatchedPlantFramesAreCounted_unknownTag :
    room.running = true ∧ (room.plant.link = .up ∨ room.plant.link = .resync) ∧ room.plant.expected = some 65535 ∧
    ({ alarm0 with tag := 4094 } : NoticeFields).seq = (65535 + 1) % 65536 ∧
    ({ alarm0 with tag := 4094 } : NoticeFields).tag ≤ 4095 ∧ ({ alarm0 with tag := 4094 } : NoticeFields).cond ≤ 7 ∧
    room.tagRec? ({ alarm0 with tag := 4094 } : NoticeFields).tag = none :=
  by decide +kernel

theorem witness_UnmatchedPlantFramesAreCounted_none :
    room.running = true ∧ (room.plant.link = .up ∨ room.plant.link = .resync) ∧ room.plant.expected = some 65535 ∧
    ({ alarm0 with cond := 6 } : NoticeFields).seq = (65535 + 1) % 65536 ∧
    ({ alarm0 with cond := 6 } : NoticeFields).tag ≤ 4095 ∧ ({ alarm0 with cond := 6 } : NoticeFields).cond ≤ 7 ∧
    room.tagRec? ({ alarm0 with cond := 6 } : NoticeFields).tag = some plainTag ∧
    (plainTag.prio ({ alarm0 with cond := 6 } : NoticeFields).cond = none ∨ room.inService plainTag.area = false) :=
  by decide +kernel

theorem witness_UnmatchedPlantFramesAreCounted_out :
    areaOff.running = true ∧ (areaOff.plant.link = .up ∨ areaOff.plant.link = .resync) ∧
    areaOff.plant.expected = some 65535 ∧ (alarm0 : NoticeFields).seq = (65535 + 1) % 65536 ∧
    (alarm0 : NoticeFields).tag ≤ 4095 ∧ (alarm0 : NoticeFields).cond ≤ 7 ∧
    areaOff.tagRec? alarm0.tag = some plainTag ∧
    (plainTag.prio alarm0.cond = none ∨ areaOff.inService plainTag.area = false) :=
  by decide +kernel

theorem witness_UnmatchedPlantFramesAreCounted_noEntry :
    room.running = true ∧ (room.plant.link = .up ∨ room.plant.link = .resync) ∧ room.plant.expected = some 65535 ∧
    (alarm0 : NoticeFields).seq = (65535 + 1) % 65536 ∧ (alarm0 : NoticeFields).tag ≤ 4095 ∧
    (alarm0 : NoticeFields).cond ≤ 7 ∧ room.tagRec? alarm0.tag = some plainTag ∧
    room.entryOf? alarm0.tag alarm0.cond = none :=
  by decide +kernel

theorem witness_DiscardedFramesAreCounted_length :
    room.running = true ∧ ((bodyOf []).bind (readRequest (headerOf (address 1) []) (field [] 0 1))) = none :=
  by decide +kernel

theorem witness_DiscardedFramesAreCounted_station0 :
    room.running = true ∧
    ((bodyOf (beatFrame 0)).bind (readRequest (headerOf (address 1) (beatFrame 0)) (field (beatFrame 0) 0 1))).isSome = true ∧
    (((headerOf (address 1) (beatFrame 0)).station < 1 ∨ 16 < (headerOf (address 1) (beatFrame 0)).station ∨ room.stationRec? (headerOf (address 1) (beatFrame 0)).station = none)) :=
  by decide +kernel

theorem witness_DiscardedFramesAreCounted_station17 :
    room.running = true ∧
    ((bodyOf (beatFrame 17)).bind (readRequest (headerOf (address 1) (beatFrame 17)) (field (beatFrame 17) 0 1))).isSome = true ∧
    (((headerOf (address 1) (beatFrame 17)).station < 1 ∨ 16 < (headerOf (address 1) (beatFrame 17)).station ∨ room.stationRec? (headerOf (address 1) (beatFrame 17)).station = none)) :=
  by decide +kernel

theorem witness_DiscardedFramesAreCounted_absent :
    room.running = true ∧
    ((bodyOf (beatFrame 15)).bind (readRequest (headerOf (address 1) (beatFrame 15)) (field (beatFrame 15) 0 1))).isSome = true ∧
    (((headerOf (address 1) (beatFrame 15)).station < 1 ∨ 16 < (headerOf (address 1) (beatFrame 15)).station ∨ room.stationRec? (headerOf (address 1) (beatFrame 15)).station = none)) :=
  by decide +kernel

theorem witness_DiscardedFramesAreCounted_otherAddress :
    room.running = true ∧
    ((bodyOf (beatFrame 16)).bind (readRequest (headerOf (address 1) (beatFrame 16)) (field (beatFrame 16) 0 1))).isSome = true ∧
    1 ≤ (headerOf (address 1) (beatFrame 16)).station ∧ (headerOf (address 1) (beatFrame 16)).station ≤ 16 ∧
    room.stationRec? (headerOf (address 1) (beatFrame 16)).station = some (stationEntry 16 .engineering) ∧
    (stationEntry 16 .engineering).addr ≠ address 1 :=
  by decide +kernel

theorem witness_DiscardedFramesAreCounted_wellFormed :
    room.running = true ∧
    ((bodyOf (beatFrame 16)).bind (readRequest (headerOf (address 16) (beatFrame 16)) (field (beatFrame 16) 0 1))).isSome = true ∧
    1 ≤ (headerOf (address 16) (beatFrame 16)).station ∧ (headerOf (address 16) (beatFrame 16)).station ≤ 16 ∧
    room.stationRec? (headerOf (address 16) (beatFrame 16)).station = some (stationEntry 16 .engineering) ∧
    (stationEntry 16 .engineering).addr = address 16 :=
  by decide +kernel

theorem witness_DiscardedFramesAreCounted_stranger :
    room.running = true ∧ requestHeader? (.beat ⟨address 1, 17, 0, 0⟩) = some ⟨address 1, 17, 0, 0⟩ ∧
    (17 < 1 ∨ 16 < 17 ∨ room.stationRec? 17 = none) :=
  by decide +kernel

theorem witness_DiscardedFramesAreCounted_mismatch :
    room.running = true ∧ requestHeader? (.beat ⟨address 1, 16, 0, 0⟩) = some ⟨address 1, 16, 0, 0⟩ ∧ 1 ≤ 16 ∧
    16 ≤ 16 ∧ room.stationRec? 16 = some (stationEntry 16 .engineering) ∧
    (stationEntry 16 .engineering).addr ≠ address 1 :=
  by decide +kernel

theorem witness_DiscardedFramesAreCounted_plant :
    room.running = true ∧ (bodyOf []).bind (readPlant (field [] 0 1)) = none :=
  by decide +kernel

theorem witness_DiscardedFramesAreCounted_plantKind :
    room.running = true ∧ (bodyOf (plantFrame 132)).bind (readPlant (field (plantFrame 132) 0 1)) = none :=
  by decide +kernel

theorem witness_DiscardedFramesAreCounted_plantWellFormed :
    room.running = true ∧ ((bodyOf (plantFrame 130)).bind (readPlant (field (plantFrame 130) 0 1))).isSome = true :=
  by decide +kernel

theorem witness_DiscardedFramesAreCounted_start :
    starting.running = true ∧ noticeFaulty 4096 0 1 0 0 = true ∧
    (starting.plant.link = .start ∨ starting.plant.link = .lost) :=
  by decide +kernel

theorem witness_DiscardedFramesAreCounted_lost :
    (withLink .lost room).running = true ∧ noticeFaulty 4096 0 1 0 0 = true ∧
    (((withLink .lost room).plant.link = .start ∨ (withLink .lost room).plant.link = .lost)) :=
  by decide +kernel

theorem witness_DiscardedFramesAreCounted_base :
    baseless.running = true ∧ noticeFaulty 4096 0 1 0 0 = true ∧ baseless.plant.link = .up ∧
    baseless.plant.expected = none :=
  by decide +kernel

theorem witness_DiscardedFramesAreCounted_up :
    room.running = true ∧ noticeFaulty 4096 0 1 0 0 = true ∧ room.plant.link = .up ∧
    room.plant.expected = some 65535 ∧ 0 = (65535 + 1) % 65536 :=
  by decide +kernel

theorem witness_DiscardedFramesAreCounted_degraded :
    (withLink .degraded room).running = true ∧ noticeFaulty 4096 0 1 0 0 = true ∧
    (withLink .degraded room).plant.link = .degraded ∧ (withLink .degraded room).plant.expected = some 65535 ∧
    0 = (65535 + 1) % 65536 :=
  by decide +kernel

theorem witness_DiscardedFramesAreCounted_resync :
    resyncing.running = true ∧ noticeFaulty 4096 0 1 0 0 = true ∧ resyncing.plant.link = .resync ∧
    resyncing.plant.expected = some 65535 ∧ 0 = (65535 + 1) % 65536 :=
  by decide +kernel

theorem witness_DiscardedFramesAreCounted_upDuplicate :
    room.running = true ∧ noticeFaulty 4096 0 1 0 0 = true ∧
    (¬ (room.plant.link = .start ∨ room.plant.link = .lost)) ∧ room.plant.expected = some 65535 :=
  by decide +kernel

theorem witness_DiscardedFramesAreCounted_upGap :
    room.running = true ∧ noticeFaulty 4096 0 1 0 0 = true ∧
    (¬ (room.plant.link = .start ∨ room.plant.link = .lost)) ∧ room.plant.expected = some 65535 ∧ 1 ≠ 65535 ∧
    1 ≠ (65535 + 1) % 65536 :=
  by decide +kernel

theorem witness_DiscardedFramesAreCounted_degradedDuplicate :
    (withLink .degraded room).running = true ∧ noticeFaulty 4096 0 1 0 0 = true ∧
    (¬ ((withLink .degraded room).plant.link = .start ∨ (withLink .degraded room).plant.link = .lost)) ∧
    (withLink .degraded room).plant.expected = some 65535 :=
  by decide +kernel

theorem witness_DiscardedFramesAreCounted_degradedGap :
    (withLink .degraded room).running = true ∧ noticeFaulty 4096 0 1 0 0 = true ∧
    (¬ ((withLink .degraded room).plant.link = .start ∨ (withLink .degraded room).plant.link = .lost)) ∧
    (withLink .degraded room).plant.expected = some 65535 ∧ 1 ≠ 65535 ∧ 1 ≠ (65535 + 1) % 65536 :=
  by decide +kernel

theorem witness_DiscardedFramesAreCounted_reply :
    room.running = true ∧ replyFaulty 4 0 4 = true :=
  by decide +kernel

theorem witness_ExtensionMovesDeadline_resync :
    resyncFlying.running = true ∧ resyncFlying.gate.transit.look 65535 = some flight ∧ flight.state ≠ .awaiting ∧
    1 ≤ 1 ∧ 1 ≤ 3 ∧ (resyncFlying.plant.link = .up ∨ resyncFlying.plant.link = .resync) :=
  by decide +kernel

theorem witness_DecayLowersLoad_exit :
    heldLow.running = true ∧ 0 < heldLow.load 1 ∧ heldLow.flooded 1 = true ∧
    heldLow.load 1 - (heldLow.load 1 * (heldLow.areaRec 1).decay / 4096 + 1) = (heldLow.areaRec 1).floodOff ∧
    heldLow.deferredOf 1 ≠ [] :=
  by decide +kernel

theorem witness_AgreementForwards_told :
    3 ≠ awaitingSign.origStation ∧ 3 ≠ (hdr 2).station ∧ (arrived waiting1 (hdr 2)).link 3 ≠ .absent ∧
    waiting1.logonAt 3 = some 2 ∧ 3 ≤ waiting1.levelOf 2 awaitingSign.area :=
  by decide +kernel

theorem witness_AcceptTransfersOrWaits_holder :
    offeredShelved.WithinCapacity ∧ Taken offeredShelved (hdr 2) ∧
    offeredShelved.overrides.look 0 = some ⟨.shelve, 4095, 0, 1, 9000, ⟨5, 90⟩, 10000, 9⟩ ∧
    offeredShelved.overrideArea ⟨.shelve, 4095, 0, 1, 9000, ⟨5, 90⟩, 10000, 9⟩ = some 1 ∧ 0 ≠ offer.inOp ∧
    (arrived offeredShelved (hdr 2)).isUp 16 = true ∧ offeredShelved.logonAt (hdr 2).station = some offer.inOp ∧
    offer.inStation = (hdr 2).station ∧ offeredShelved.hand.look 1 = some (.offered offer) ∧
    (∀ i ∈ offer.items, i.resolved = true ∨ i.reviewed = true) ∧ offeredShelved.inFlight 1 = [] ∧
    offeredShelved.ownerConditions offer.inOp 1 = some (hdr 2).station :=
  ⟨withinCapacity_of (by decide +kernel), by unfold Taken Accepted; decide +kernel⟩

theorem witness_RaiseMayBeHeldBack_lastPlace :
    nearlyBrimming.EntriesSound ∧ (∀ q, plainTag.parent = some q → q.1 ≠ alarm0.tag) ∧ nearlyBrimming.running = true ∧
    (nearlyBrimming.plant.link = .up ∨ nearlyBrimming.plant.link = .resync) ∧
    nearlyBrimming.plant.expected = some 65535 ∧ alarm0.seq = (65535 + 1) % 65536 ∧ alarm0.tag ≤ 4095 ∧
    alarm0.cond ≤ 7 ∧ nearlyBrimming.tagRec? alarm0.tag = some plainTag ∧ plainTag.prio alarm0.cond = some .low ∧
    nearlyBrimming.inService plainTag.area = true ∧ nearlyBrimming.entryOf? alarm0.tag alarm0.cond = none ∧
    nearlyBrimming.freeEntry? = some 255 ∧ nearlyBrimming.override? .shelve alarm0.tag = none ∧
    nearlyBrimming.suppressed alarm0.tag = false ∧ nearlyBrimming.flooded plainTag.area = true ∧
    Priority.low.value ≤ (nearlyBrimming.areaRec plainTag.area).cut.value ∧
    nearlyBrimming.flood.deferred.length < 256 ∧ nearlyBrimming.flood.deferred.length = 255 :=
  ⟨nearlyBrimming_sound, (by intro _ h; cases h), by decide +kernel⟩

theorem witness_RosterWriteTakesEffect_range :
    Taken room (hdr 16) ∧ room.entitled (hdr 16).station = true ∧ room.store.job = none ∧ 127 < 128 :=
  by unfold Taken Accepted; decide +kernel

theorem witness_RosterWriteTakesEffect_badge :
    Taken room (hdr 16) ∧ room.entitled (hdr 16).station = true ∧ room.store.job = none ∧ 127 ≤ 127 ∧
    (rosterFaults room 127 (rosterSent 0 0 (levels 0 0) [17])).find? Prod.fst = some (true, ans .range 1) :=
  by unfold Taken Accepted; decide +kernel

theorem witness_RosterWriteTakesEffect_duplicate :
    Taken room (hdr 16) ∧ room.entitled (hdr 16).station = true ∧ room.store.job = none ∧ 127 ≤ 127 ∧
    (rosterFaults room 127 (rosterSent 101 4 (levels 0 0) [17])).find? Prod.fst = some (true, ans .duplicateBadge 1) :=
  by unfold Taken Accepted; decide +kernel

theorem witness_RosterWriteTakesEffect_role0 :
    Taken room (hdr 16) ∧ room.entitled (hdr 16).station = true ∧ room.store.job = none ∧ 127 ≤ 127 ∧
    (rosterFaults room 127 (rosterSent 65535 0 (levels 0 0) [17])).find? Prod.fst = some (true, ans .code 3) :=
  by unfold Taken Accepted; decide +kernel

theorem witness_RosterWriteTakesEffect_role4 :
    Taken room (hdr 16) ∧ room.entitled (hdr 16).station = true ∧ room.store.job = none ∧ 127 ≤ 127 ∧
    (rosterFaults room 127 (rosterSent 65535 4 (levels 0 0) [17])).find? Prod.fst = some (true, ans .code 3) :=
  by unfold Taken Accepted; decide +kernel

theorem witness_RosterWriteTakesEffect_station0 :
    Taken room (hdr 16) ∧ room.entitled (hdr 16).station = true ∧ room.store.job = none ∧ 127 ≤ 127 ∧
    (rosterFaults room 127 (rosterSent 65535 3 (levels 0 0) [0])).find? Prod.fst = some (true, ans .range 6) :=
  by unfold Taken Accepted; decide +kernel

theorem witness_RosterWriteTakesEffect_station17 :
    Taken room (hdr 16) ∧ room.entitled (hdr 16).station = true ∧ room.store.job = none ∧ 127 ≤ 127 ∧
    (rosterFaults room 127 (rosterSent 65535 1 (levels 0 0) [1, 17])).find? Prod.fst = some (true, ans .range 6) :=
  by unfold Taken Accepted; decide +kernel

theorem witness_RosterWriteTakesEffect_off :
    room.OwnersEntitled ∧ Taken room (hdr 16) ∧ room.entitled (hdr 16).station = true ∧ room.store.job = none ∧
    127 ≤ 127 ∧ (rosterFaults room 127 (rosterSent 65535 1 (levels 3 4) [1, 16])).find? Prod.fst = none ∧
    Role.ofCode (rosterSent 65535 1 (levels 3 4) [1, 16]).role = some .operator ∧ room.stationOf 127 = none :=
  ⟨witness_OwnersStayEntitled.1, by unfold Taken Accepted; decide +kernel⟩

theorem witness_RosterWriteTakesEffect_disabled :
    room.OwnersEntitled ∧ Taken room (hdr 16) ∧ room.entitled (hdr 16).station = true ∧ room.store.job = none ∧
    0 ≤ 127 ∧
    (rosterFaults room 0 ({ rosterSent 100 1 (levels 3 3) [1] with enabled := false })).find? Prod.fst = none ∧
    Role.ofCode ({ rosterSent 100 1 (levels 3 3) [1] with enabled := false }).role = some .operator ∧
    room.logonAt 1 = some 0 ∧ room.stationRec? 1 = some (stationEntry 1 .operator) :=
  ⟨witness_OwnersStayEntitled.1, by unfold Taken Accepted; decide +kernel⟩

theorem witness_RosterWriteTakesEffect_elsewhere :
    room.OwnersEntitled ∧ Taken room (hdr 16) ∧ room.entitled (hdr 16).station = true ∧ room.store.job = none ∧
    0 ≤ 127 ∧ (rosterFaults room 0 (rosterSent 100 1 (levels 3 3) [2])).find? Prod.fst = none ∧
    Role.ofCode (rosterSent 100 1 (levels 3 3) [2]).role = some .operator ∧ room.logonAt 1 = some 0 ∧
    room.stationRec? 1 = some (stationEntry 1 .operator) :=
  ⟨witness_OwnersStayEntitled.1, by unfold Taken Accepted; decide +kernel⟩

theorem witness_RosterWriteTakesEffect_roleChanged :
    room.OwnersEntitled ∧ Taken room (hdr 16) ∧ room.entitled (hdr 16).station = true ∧ room.store.job = none ∧
    2 ≤ 127 ∧ (rosterFaults room 2 (rosterSent 102 1 (levels 3 3) [3])).find? Prod.fst = none ∧
    Role.ofCode (rosterSent 102 1 (levels 3 3) [3]).role = some .operator ∧ room.logonAt 3 = some 2 ∧
    room.stationRec? 3 = some (stationEntry 3 .supervisor) :=
  ⟨witness_OwnersStayEntitled.1, by unfold Taken Accepted; decide +kernel⟩

theorem witness_RosterWriteTakesEffect_losesArea :
    offeredWaiting.OwnersEntitled ∧ Taken offeredWaiting (hdr 16) ∧ offeredWaiting.entitled (hdr 16).station = true ∧
    offeredWaiting.store.job = none ∧ 0 ≤ 127 ∧
    (rosterFaults offeredWaiting 0 (rosterSent 100 1 (levels 0 3) [1])).find? Prod.fst = none ∧
    Role.ofCode (rosterSent 100 1 (levels 0 3) [1]).role = some .operator ∧ offeredWaiting.logonAt 1 = some 0 ∧
    offeredWaiting.stationRec? 1 = some (stationEntry 1 .operator) ∧ offeredWaiting.ownerOf 1 = some (0, 1) ∧
    offeredWaiting.session? 1 = some offer ∧ offer.outOp = 0 ∧
    offeredWaiting.gate.transit.look 65535 = some awaitingSign ∧ awaitingSign.origOp = 0 :=
  ⟨ownersEntitled_of (by decide +kernel) (by intro p h t e; rw [List.mem_singleton.1 h] at e; cases e),
    by unfold Taken Accepted; decide +kernel⟩

theorem witness_RosterWriteTakesEffect_incoming :
    offered1.OwnersEntitled ∧ Taken offered1 (hdr 16) ∧ offered1.entitled (hdr 16).station = true ∧
    offered1.store.job = none ∧ 1 ≤ 127 ∧
    (rosterFaults offered1 1 (rosterSent 101 1 (levels 0 3) [2])).find? Prod.fst = none ∧
    Role.ofCode (rosterSent 101 1 (levels 0 3) [2]).role = some .operator ∧ offered1.logonAt 2 = some 1 ∧
    offered1.stationRec? 2 = some (stationEntry 2 .operator) ∧ offered1.session? 1 = some offer ∧ offer.inOp = 1 :=
  ⟨ownersEntitled_of (by decide +kernel) (by intro p h t e; rw [List.mem_singleton.1 h] at e; cases e),
    by unfold Taken Accepted; decide +kernel⟩

theorem witness_RosterWriteTakesEffect_supervisor :
    takingOver.OwnersEntitled ∧ Taken takingOver (hdr 16) ∧ takingOver.entitled (hdr 16).station = true ∧
    takingOver.store.job = none ∧ 2 ≤ 127 ∧
    (rosterFaults takingOver 2 (rosterSent 102 2 (levels 0 3) [3])).find? Prod.fst = none ∧
    Role.ofCode (rosterSent 102 2 (levels 0 3) [3]).role = some .supervisor ∧ takingOver.logonAt 3 = some 2 ∧
    takingOver.stationRec? 3 = some (stationEntry 3 .supervisor) ∧
    takingOver.hand.look 1 = some (.takingOver ⟨2, 3, 9000, ⟨5, 90⟩⟩) :=
  ⟨ownersEntitled_of (by decide +kernel) (by intro p h t e; rw [List.mem_singleton.1 h] at e ⊢; cases e; exact ⟨by decide,
    0, 1, by decide, by decide⟩), by unfold Taken Accepted; decide +kernel⟩

theorem witness_RosterWriteTakesEffect_absent :
    room.OwnersEntitled ∧ Taken room (hdr 16) ∧ room.entitled (hdr 16).station = true ∧ room.store.job = none ∧
    126 ≤ 127 ∧ room.rosterRec? 126 = none :=
  ⟨witness_OwnersStayEntitled.1, by unfold Taken Accepted; decide +kernel⟩

theorem witness_RosterWriteTakesEffect_cleared :
    room.OwnersEntitled ∧ Taken room (hdr 16) ∧ room.entitled (hdr 16).station = true ∧ room.store.job = none ∧
    127 ≤ 127 ∧ room.rosterRec? 127 = some (rosterEntry 65535 .operator (levels 1 1)) ∧ room.stationOf 127 = none :=
  ⟨witness_OwnersStayEntitled.1, by unfold Taken Accepted; decide +kernel⟩

theorem witness_RosterWriteTakesEffect_clearedOn :
    room.OwnersEntitled ∧ Taken room (hdr 16) ∧ room.entitled (hdr 16).station = true ∧ room.store.job = none ∧
    0 ≤ 127 ∧ room.rosterRec? 0 = some (rosterEntry 100 .operator (levels 3 3)) ∧ room.logonAt 1 = some 0 :=
  ⟨witness_OwnersStayEntitled.1, by unfold Taken Accepted; decide +kernel⟩

theorem witness_AreaAndTagWritesTakeEffect_notEngineer :
    Taken room (hdr 1) ∧ room.entitled (hdr 1).station = false :=
  by unfold Taken Accepted; decide +kernel

theorem witness_AreaAndTagWritesTakeEffect_storing :
    Taken storing (hdr 16) ∧ storing.entitled (hdr 16).station = true ∧ storing.store.job.isSome = true :=
  by unfold Taken Accepted; decide +kernel

theorem witness_AreaAndTagWritesTakeEffect_reserved :
    Taken room (hdr 16) ∧ room.entitled (hdr 16).station = true ∧ room.store.job = none ∧ 1 ≠ 0 :=
  by unfold Taken Accepted; decide +kernel

theorem witness_AreaAndTagWritesTakeEffect_range0 :
    Taken room (hdr 16) ∧ room.entitled (hdr 16).station = true ∧ room.store.job = none ∧ (0 < 1 ∨ 12 < 0) :=
  by unfold Taken Accepted; decide +kernel

theorem witness_AreaAndTagWritesTakeEffect_range13 :
    Taken room (hdr 16) ∧ room.entitled (hdr 16).station = true ∧ room.store.job = none ∧ (13 < 1 ∨ 12 < 13) :=
  by unfold Taken Accepted; decide +kernel

theorem witness_AreaAndTagWritesTakeEffect_range4096 :
    Taken room (hdr 16) ∧ room.entitled (hdr 16).station = true ∧ room.store.job = none ∧ 4095 < 4096 :=
  by unfold Taken Accepted; decide +kernel

theorem witness_AreaAndTagWritesTakeEffect_areaClear :
    Taken room (hdr 16) ∧ room.entitled (hdr 16).station = true ∧ room.store.job = none ∧ 1 ≤ 12 ∧ 12 ≤ 12 :=
  by unfold Taken Accepted; decide +kernel

theorem witness_AreaAndTagWritesTakeEffect_cut0 :
    Taken room (hdr 16) ∧ room.entitled (hdr 16).station = true ∧ room.store.job = none ∧ 1 ≤ 12 ∧ 12 ≤ 12 ∧
    Priority.ofCode ({ rawArea with cut := 0 } : RawArea).cut = none :=
  by unfold Taken Accepted; decide +kernel

theorem witness_AreaAndTagWritesTakeEffect_cut5 :
    Taken room (hdr 16) ∧ room.entitled (hdr 16).station = true ∧ room.store.job = none ∧ 1 ≤ 12 ∧ 12 ≤ 12 ∧
    Priority.ofCode ({ rawArea with cut := 5 } : RawArea).cut = none :=
  by unfold Taken Accepted; decide +kernel

theorem witness_AreaAndTagWritesTakeEffect_fallback :
    Taken room (hdr 16) ∧ room.entitled (hdr 16).station = true ∧ room.store.job = none ∧ 1 ≤ 1 ∧ 1 ≤ 12 ∧
    (Priority.ofCode ({ rawArea with fallback := [16, 17] } : RawArea).cut).isSome = true ∧
    ∃ n ∈ ({ rawArea with fallback := [16, 17] } : RawArea).fallback, 16 < n :=
  by unfold Taken Accepted; decide +kernel

theorem witness_AreaAndTagWritesTakeEffect_area :
    Taken held (hdr 16) ∧ held.entitled (hdr 16).station = true ∧ held.store.job = none ∧ 1 ≤ 1 ∧ 1 ≤ 12 ∧
    Priority.ofCode rawArea.cut = some .high ∧ (∀ n ∈ rawArea.fallback, n ≤ 16) ∧ held.flooded 1 = true ∧
    held.load 1 ≤ rawArea.floodOff ∧ held.deferredOf 1 ≠ [] :=
  by unfold Taken Accepted; decide +kernel

theorem witness_AreaAndTagWritesTakeEffect_areaFloods :
    Taken atFloodOn (hdr 16) ∧ atFloodOn.entitled (hdr 16).station = true ∧ atFloodOn.store.job = none ∧ 1 ≤ 1 ∧
    1 ≤ 12 ∧ Priority.ofCode rawArea.cut = some .high ∧ (∀ n ∈ rawArea.fallback, n ≤ 16) ∧
    atFloodOn.flooded 1 = false ∧ atFloodOn.load 1 = rawArea.floodOn :=
  by unfold Taken Accepted; decide +kernel

theorem witness_AreaAndTagWritesTakeEffect_areaStaysFlooded :
    Taken heldHigh (hdr 16) ∧ heldHigh.entitled (hdr 16).station = true ∧ heldHigh.store.job = none ∧ 1 ≤ 1 ∧ 1 ≤ 12 ∧
    Priority.ofCode rawArea.cut = some .high ∧ (∀ n ∈ rawArea.fallback, n ≤ 16) ∧ heldHigh.flooded 1 = true ∧
    heldHigh.load 1 = rawArea.floodOff + 1 :=
  by unfold Taken Accepted; decide +kernel

theorem witness_AreaAndTagWritesTakeEffect_tagClearInUse :
    Taken alarmed (hdr 16) ∧ alarmed.entitled (hdr 16).station = true ∧ alarmed.store.job = none ∧ 4095 ≤ 4095 ∧
    alarmed.tagInUse 4095 = true :=
  by unfold Taken Accepted; decide +kernel

theorem witness_AreaAndTagWritesTakeEffect_tagClearAbsent :
    Taken room (hdr 16) ∧ room.entitled (hdr 16).station = true ∧ room.store.job = none ∧ 4094 ≤ 4095 ∧
    room.tagInUse 4094 = false ∧ room.tagRec? 4094 = none :=
  by unfold Taken Accepted; decide +kernel

theorem witness_AreaAndTagWritesTakeEffect_tagClear :
    Taken room (hdr 16) ∧ room.entitled (hdr 16).station = true ∧ room.store.job = none ∧ 4095 ≤ 4095 ∧
    room.tagRec? 4095 = some plainTag ∧ room.tagInUse 4095 = false :=
  by unfold Taken Accepted; decide +kernel

theorem witness_AreaAndTagWritesTakeEffect_area0 :
    Taken room (hdr 16) ∧ room.entitled (hdr 16).station = true ∧ room.store.job = none ∧ 4095 ≤ 4095 ∧
    (tagFaults 4095 { rawTag with area := 0, prios := #v[5, 0, 0, 0, 0, 0, 0, 0] }).find? Prod.fst = some (true, ans .range 2) :=
  by unfold Taken Accepted; decide +kernel

theorem witness_AreaAndTagWritesTakeEffect_area13 :
    Taken room (hdr 16) ∧ room.entitled (hdr 16).station = true ∧ room.store.job = none ∧ 4095 ≤ 4095 ∧
    (tagFaults 4095 { rawTag with area := 13 }).find? Prod.fst = some (true, ans .range 2) :=
  by unfold Taken Accepted; decide +kernel

theorem witness_AreaAndTagWritesTakeEffect_priority :
    Taken room (hdr 16) ∧ room.entitled (hdr 16).station = true ∧ room.store.job = none ∧ 4095 ≤ 4095 ∧
    (tagFaults 4095 { rawTag with prios := #v[4, 0, 0, 0, 0, 0, 0, 5], parent := some (4096, 1#8) }).find? Prod.fst = some (true, ans .code 3) :=
  by unfold Taken Accepted; decide +kernel

theorem witness_AreaAndTagWritesTakeEffect_parent :
    Taken room (hdr 16) ∧ room.entitled (hdr 16).station = true ∧ room.store.job = none ∧ 4095 ≤ 4095 ∧
    (tagFaults 4095 { rawTag with parent := some (4096, 1#8), blocker := some (4096, 0) }).find? Prod.fst = some (true, ans .range 4) :=
  by unfold Taken Accepted; decide +kernel

theorem witness_AreaAndTagWritesTakeEffect_selfParent :
    Taken room (hdr 16) ∧ room.entitled (hdr 16).station = true ∧ room.store.job = none ∧ 4095 ≤ 4095 ∧
    (tagFaults 4095 { rawTag with parent := some (4095, 1#8), blocker := some (4096, 0) }).find? Prod.fst = some (true, ans .selfParent 4) :=
  by unfold Taken Accepted; decide +kernel

theorem witness_AreaAndTagWritesTakeEffect_blocker :
    Taken room (hdr 16) ∧ room.entitled (hdr 16).station = true ∧ room.store.job = none ∧ 4095 ≤ 4095 ∧
    (tagFaults 4095 { rawTag with blocker := some (4096, 0) }).find? Prod.fst = some (true, ans .range 5) :=
  by unfold Taken Accepted; decide +kernel

theorem witness_AreaAndTagWritesTakeEffect_minimum0 :
    Taken room (hdr 16) ∧ room.entitled (hdr 16).station = true ∧ room.store.job = none ∧ 4095 ≤ 4095 ∧
    (tagFaults 4095 { rawTag with blocker := some (4095, 0) }).find? Prod.fst = some (true, ans .code 5) :=
  by unfold Taken Accepted; decide +kernel

theorem witness_AreaAndTagWritesTakeEffect_minimum5 :
    Taken room (hdr 16) ∧ room.entitled (hdr 16).station = true ∧ room.store.job = none ∧ 4095 ≤ 4095 ∧
    (tagFaults 4095 { rawTag with blocker := some (4095, 5) }).find? Prod.fst = some (true, ans .code 5) :=
  by unfold Taken Accepted; decide +kernel

theorem witness_AreaAndTagWritesTakeEffect_tagInUse :
    Taken alarmed (hdr 16) ∧ alarmed.entitled (hdr 16).station = true ∧ alarmed.store.job = none ∧ 4095 ≤ 4095 ∧
    (tagFaults 4095 rawTag).find? Prod.fst = none ∧ alarmed.tagInUse 4095 = true :=
  by unfold Taken Accepted; decide +kernel

theorem witness_AreaAndTagWritesTakeEffect_tag :
    Taken room (hdr 16) ∧ room.entitled (hdr 16).station = true ∧ room.store.job = none ∧ 4095 ≤ 4095 ∧
    (tagFaults 4095 rawTag).find? Prod.fst = none ∧ room.tagInUse 4095 = false :=
  by unfold Taken Accepted; decide +kernel

theorem witness_WaitingCommandEnds_told :
    3 ≠ awaitingSign.origStation ∧ some (hdr 2).station ≠ some 3 ∧ (arrived waiting1 (hdr 2)).link 3 ≠ .absent ∧
    waiting1.logonAt 3 = some 2 ∧ 3 ≤ waiting1.levelOf 2 awaitingSign.area :=
  by decide +kernel

theorem witness_RaiseCreatesOrRenewsEntry_aboveCut :
    flooding.EntriesSound ∧ (∀ q, plainTag.parent = some q → q.1 ≠ high0.tag) ∧ flooding.running = true ∧
    (flooding.plant.link = .up ∨ flooding.plant.link = .resync) ∧ flooding.plant.expected = some 65535 ∧
    high0.seq = (65535 + 1) % 65536 ∧ high0.tag ≤ 4095 ∧ high0.cond ≤ 7 ∧ flooding.tagRec? high0.tag = some plainTag ∧
    plainTag.prio high0.cond = some .high ∧ flooding.inService plainTag.area = true ∧
    flooding.entryOf? high0.tag high0.cond = none ∧ flooding.freeEntry? = some 0 ∧
    flooding.override? .shelve high0.tag = none ∧ flooding.suppressed high0.tag = false ∧
    (flooding.flooded plainTag.area = false ∨ (flooding.areaRec plainTag.area).cut.value < Priority.high.value) ∧
    flooding.flooded plainTag.area = true :=
  ⟨by unfold State.EntriesSound State.EntrySound; decide +kernel, (by intro _ h; cases h), by decide +kernel⟩

theorem witness_RaiseCreatesOrRenewsEntry_floods :
    nearFlood.EntriesSound ∧ (∀ q, plainTag.parent = some q → q.1 ≠ high0.tag) ∧ nearFlood.running = true ∧
    (nearFlood.plant.link = .up ∨ nearFlood.plant.link = .resync) ∧ nearFlood.plant.expected = some 65535 ∧
    high0.seq = (65535 + 1) % 65536 ∧ high0.tag ≤ 4095 ∧ high0.cond ≤ 7 ∧
    nearFlood.tagRec? high0.tag = some plainTag ∧ plainTag.prio high0.cond = some .high ∧
    nearFlood.inService plainTag.area = true ∧ nearFlood.entryOf? high0.tag high0.cond = none ∧
    nearFlood.freeEntry? = some 0 ∧ nearFlood.override? .shelve high0.tag = none ∧
    nearFlood.suppressed high0.tag = false ∧
    (nearFlood.flooded plainTag.area = false ∨ (nearFlood.areaRec plainTag.area).cut.value < Priority.high.value) ∧
    nearFlood.flooded plainTag.area = false ∧
    nearFlood.load 1 + Priority.high.weight = (nearFlood.areaRec 1).floodOn :=
  ⟨by unfold State.EntriesSound State.EntrySound; decide +kernel, (by intro _ h; cases h), by decide +kernel⟩

theorem witness_RaiseCreatesOrRenewsEntry_resync :
    resyncEmpty.EntriesSound ∧ (∀ q, plainTag.parent = some q → q.1 ≠ high0.tag) ∧ resyncEmpty.running = true ∧
    (resyncEmpty.plant.link = .up ∨ resyncEmpty.plant.link = .resync) ∧ resyncEmpty.plant.expected = some 65535 ∧
    high0.seq = (65535 + 1) % 65536 ∧ high0.tag ≤ 4095 ∧ high0.cond ≤ 7 ∧
    resyncEmpty.tagRec? high0.tag = some plainTag ∧ plainTag.prio high0.cond = some .high ∧
    resyncEmpty.inService plainTag.area = true ∧ resyncEmpty.entryOf? high0.tag high0.cond = none ∧
    resyncEmpty.freeEntry? = some 0 ∧ resyncEmpty.override? .shelve high0.tag = none ∧
    resyncEmpty.suppressed high0.tag = false ∧
    (resyncEmpty.flooded plainTag.area = false ∨ (resyncEmpty.areaRec plainTag.area).cut.value < Priority.high.value) ∧
    resyncEmpty.plant.link = .resync :=
  ⟨by unfold State.EntriesSound State.EntrySound; decide +kernel, (by intro _ h; cases h), by decide +kernel⟩

theorem witness_ReturnEndsActiveEntry :
    alarmed.EntriesSound ∧ alarmed.running = true ∧ (alarmed.plant.link = .up ∨ alarmed.plant.link = .resync) ∧
    alarmed.plant.expected = some 65535 ∧ high0.seq = (65535 + 1) % 65536 ∧ high0.tag ≤ 4095 ∧ high0.cond ≤ 7 ∧
    alarmed.tagRec? high0.tag = some plainTag ∧ plainTag.prio high0.cond = some .high ∧
    alarmed.inService plainTag.area = true ∧ 0 < 512 ∧ alarmed.entryOf? high0.tag high0.cond = some (0, standing) ∧
    alarmed.entry? 0 = some standing ∧ (standing).active = true ∧ standing.ack = none ∧
    (standing.disp = .annunciated ∨ standing.disp = .deferred) :=
  ⟨by unfold State.EntriesSound State.EntrySound; decide +kernel, by decide +kernel⟩

theorem witness_ReturnEndsActiveEntry_acked :
    acked.EntriesSound ∧ acked.running = true ∧ (acked.plant.link = .up ∨ acked.plant.link = .resync) ∧
    acked.plant.expected = some 65535 ∧ high0.seq = (65535 + 1) % 65536 ∧ high0.tag ≤ 4095 ∧ high0.cond ≤ 7 ∧
    acked.tagRec? high0.tag = some plainTag ∧ plainTag.prio high0.cond = some .high ∧
    acked.inService plainTag.area = true ∧ 0 < 512 ∧
    acked.entryOf? high0.tag high0.cond = some (0, ({ standing with ack := some ⟨⟨5, 60⟩, 0⟩ } : Entry)) ∧
    acked.entry? 0 = some ({ standing with ack := some ⟨⟨5, 60⟩, 0⟩ } : Entry) ∧
    (({ standing with ack := some ⟨⟨5, 60⟩, 0⟩ } : Entry)).active = true ∧
    (({ standing with ack := some ⟨⟨5, 60⟩, 0⟩ } : Entry).ack.isSome = true ∨ ({ standing with ack := some ⟨⟨5, 60⟩, 0⟩ } : Entry).disp = .suppressed) :=
  ⟨by unfold State.EntriesSound State.EntrySound; decide +kernel, by decide +kernel⟩

theorem witness_ReturnEndsActiveEntry_returned :
    returned.EntriesSound ∧ returned.running = true ∧ (returned.plant.link = .up ∨ returned.plant.link = .resync) ∧
    returned.plant.expected = some 65535 ∧ high0.seq = (65535 + 1) % 65536 ∧ high0.tag ≤ 4095 ∧ high0.cond ≤ 7 ∧
    returned.tagRec? high0.tag = some plainTag ∧ plainTag.prio high0.cond = some .high ∧
    returned.inService plainTag.area = true ∧ 0 < 512 ∧
    returned.entryOf? high0.tag high0.cond = some (0, returnedEntry) ∧ returned.entry? 0 = some returnedEntry ∧
    (returnedEntry).active = false :=
  ⟨by unfold State.EntriesSound State.EntrySound; decide +kernel, by decide +kernel⟩

theorem witness_ReturnEndsActiveEntry_resync :
    resyncing.EntriesSound ∧ resyncing.running = true ∧
    (resyncing.plant.link = .up ∨ resyncing.plant.link = .resync) ∧ resyncing.plant.expected = some 65535 ∧
    high0.seq = (65535 + 1) % 65536 ∧ high0.tag ≤ 4095 ∧ high0.cond ≤ 7 ∧
    resyncing.tagRec? high0.tag = some plainTag ∧ plainTag.prio high0.cond = some .high ∧
    resyncing.inService plainTag.area = true ∧ 0 < 512 ∧
    resyncing.entryOf? high0.tag high0.cond = some (0, standing) ∧ resyncing.entry? 0 = some standing ∧
    (standing).active = true ∧ standing.ack = none ∧ (standing.disp = .annunciated ∨ standing.disp = .deferred) ∧
    resyncing.plant.link = .resync :=
  ⟨by unfold State.EntriesSound State.EntrySound; decide +kernel, by decide +kernel⟩

theorem witness_ReturnEndsActiveEntry_child :
    family.EntriesSound ∧
    (∀ b ∈ family.alarm.entries, b.1 ≠ 0 → b.2.active = true → b.2.tag = some high0.tag → ∀ k, b.2.cond = some k → (0x81#8 : BitVec 8).getLsbD k = false) ∧
    family.running = true ∧ (family.plant.link = .up ∨ family.plant.link = .resync) ∧
    family.plant.expected = some 65535 ∧ high0.seq = (65535 + 1) % 65536 ∧ high0.tag ≤ 4095 ∧ high0.cond ≤ 7 ∧
    family.tagRec? high0.tag = some plainTag ∧ plainTag.prio high0.cond = some .high ∧
    family.inService plainTag.area = true ∧ 0 < 512 ∧ family.entryOf? high0.tag high0.cond = some (0, standing) ∧
    family.entry? 0 = some standing ∧ (standing).active = true ∧ (standing).ack = none ∧
    ((standing).disp = .annunciated ∨ (standing).disp = .deferred) ∧ family.entry? 1 = some childEntry ∧ 1 < 512 ∧
    1 ≠ 0 ∧ childEntry.active = true ∧ childEntry.disp = .suppressed ∧ family.inService childEntry.area = true ∧
    childEntry.tag = some 1 ∧ family.tagRec? 1 = some childTag ∧ childTag.parent = some (high0.tag, 0x81#8) ∧
    family.flooded childEntry.area = false :=
  ⟨by unfold State.EntriesSound State.EntrySound; decide +kernel, (child_alone rfl (by decide)), by decide +kernel⟩

theorem witness_ReturnEndsActiveEntry_childHeld :
    familyFlooded.EntriesSound ∧
    (∀ b ∈ familyFlooded.alarm.entries, b.1 ≠ 0 → b.2.active = true → b.2.tag = some high0.tag → ∀ k, b.2.cond = some k → (0x81#8 : BitVec 8).getLsbD k = false) ∧
    familyFlooded.running = true ∧ (familyFlooded.plant.link = .up ∨ familyFlooded.plant.link = .resync) ∧
    familyFlooded.plant.expected = some 65535 ∧ high0.seq = (65535 + 1) % 65536 ∧ high0.tag ≤ 4095 ∧ high0.cond ≤ 7 ∧
    familyFlooded.tagRec? high0.tag = some plainTag ∧ plainTag.prio high0.cond = some .high ∧
    familyFlooded.inService plainTag.area = true ∧ 0 < 512 ∧
    familyFlooded.entryOf? high0.tag high0.cond = some (0, standing) ∧ familyFlooded.entry? 0 = some standing ∧
    (standing).active = true ∧ (standing).ack = none ∧
    ((standing).disp = .annunciated ∨ (standing).disp = .deferred) ∧ familyFlooded.entry? 1 = some lowChild ∧
    1 < 512 ∧ 1 ≠ 0 ∧ lowChild.active = true ∧ lowChild.disp = .suppressed ∧
    familyFlooded.inService lowChild.area = true ∧ lowChild.tag = some 1 ∧ familyFlooded.tagRec? 1 = some childTag ∧
    childTag.parent = some (high0.tag, 0x81#8) ∧ familyFlooded.flooded lowChild.area = true ∧
    lowChild.cfg.value ≤ (familyFlooded.areaRec lowChild.area).cut.value :=
  ⟨by unfold State.EntriesSound State.EntrySound; decide +kernel, (child_alone rfl (by decide)), by decide +kernel⟩

theorem witness_ReturnEndsActiveEntry_childShelved :
    familyShelved.EntriesSound ∧
    (∀ b ∈ familyShelved.alarm.entries, b.1 ≠ 0 → b.2.active = true → b.2.tag = some high0.tag → ∀ k, b.2.cond = some k → (0x81#8 : BitVec 8).getLsbD k = false) ∧
    familyShelved.running = true ∧ (familyShelved.plant.link = .up ∨ familyShelved.plant.link = .resync) ∧
    familyShelved.plant.expected = some 65535 ∧ high0.seq = (65535 + 1) % 65536 ∧ high0.tag ≤ 4095 ∧ high0.cond ≤ 7 ∧
    familyShelved.tagRec? high0.tag = some plainTag ∧ plainTag.prio high0.cond = some .high ∧
    familyShelved.inService plainTag.area = true ∧ 0 < 512 ∧
    familyShelved.entryOf? high0.tag high0.cond = some (0, standing) ∧ familyShelved.entry? 0 = some standing ∧
    (standing).active = true ∧ (standing).ack = none ∧
    ((standing).disp = .annunciated ∨ (standing).disp = .deferred) ∧ familyShelved.entry? 1 = some childEntry ∧
    1 < 512 ∧ 1 ≠ 0 ∧ childEntry.active = true ∧ childEntry.disp = .suppressed ∧
    familyShelved.inService childEntry.area = true ∧ childEntry.tag = some 1 ∧
    familyShelved.tagRec? 1 = some childTag ∧ childTag.parent = some (high0.tag, 0x81#8) ∧
    childEntry.tag.bind (familyShelved.override? .shelve) = some (0, ⟨.shelve, 1, 0, 1, 9000, ⟨5, 90⟩, 10000, 9⟩) :=
  ⟨by unfold State.EntriesSound State.EntrySound; decide +kernel, (child_alone rfl (by decide)), by decide +kernel⟩

theorem witness_AckAcknowledgesOrRemoves_overdue :
    Taken overdueOne (hdr 1) ∧ overdueOne.logonAt (hdr 1).station = some 0 ∧ (⟨0, 0⟩ : Ref).num < 512 ∧
    overdueOne.entry? 0 = some overdueEntry ∧ overdueOne.gen 0 = 0 ∧ (overdueEntry).tag = some 4095 ∧
    (overdueEntry).cond = some 0 ∧ (overdueEntry).ack = none ∧ (overdueEntry).active = true ∧
    (arrived overdueOne (hdr 1)).responsible 0 (hdr 1).station overdueEntry = true ∧ overdueEntry.stage = 2 ∧
    overdueOne.ann.overdue = 1 ∧ overdueOne.entry? 518 = some (overdueAlarm 1) ∧ (overdueAlarm 1).active = true :=
  by unfold Taken Accepted; decide +kernel

theorem witness_AckAcknowledgesOrRemoves_overdueReturned :
    Taken overdueTwo (hdr 1) ∧ overdueTwo.logonAt (hdr 1).station = some 0 ∧ (⟨0, 0⟩ : Ref).num < 512 ∧
    overdueTwo.entry? 0 = some { overdueEntry with active := false } ∧ overdueTwo.gen 0 = 0 ∧
    ({ overdueEntry with active := false } : Entry).tag = some 4095 ∧
    ({ overdueEntry with active := false } : Entry).cond = some 0 ∧
    ({ overdueEntry with active := false } : Entry).ack = none ∧
    ({ overdueEntry with active := false } : Entry).active = false ∧
    (arrived overdueTwo (hdr 1)).responsible 0 (hdr 1).station { overdueEntry with active := false } = true ∧
    overdueEntry.stage = 2 ∧ 1 < overdueTwo.ann.overdue ∧ overdueTwo.entry? 518 = some (overdueAlarm 2) ∧
    (overdueAlarm 2).active = true :=
  by unfold Taken Accepted; decide +kernel

theorem witness_ReleaseTimerReleasesOldest :
    held.running = true ∧ held.releaseDue 1 = true ∧ held.deferredOf 1 = ⟨⟨0, 0⟩, 1⟩ :: [] ∧
    held.entry? 0 = some { standing with disp := .deferred } ∧ 0 < 512 ∧ standing.tag.isSome = true ∧
    standing.ack = none ∧ standing.area = 1 ∧ (∀ y ∈ held.flood.deferred, y.ref.num = 0 → y = ⟨⟨0, 0⟩, 1⟩) ∧
    held.flooded 1 = true :=
  by decide +kernel

theorem witness_ReleaseTimerReleasesOldest_runsOn :
    heldTwo.running = true ∧ heldTwo.releaseDue 1 = true ∧ heldTwo.deferredOf 1 = ⟨⟨0, 0⟩, 1⟩ :: [⟨⟨1, 0⟩, 1⟩] ∧
    heldTwo.entry? 0 = some { standing with disp := .deferred } ∧ 0 < 512 ∧ standing.tag.isSome = true ∧
    standing.ack = none ∧ standing.area = 1 ∧ (∀ y ∈ heldTwo.flood.deferred, y.ref.num = 0 → y = ⟨⟨0, 0⟩, 1⟩) ∧
    heldTwo.flooded 1 = false :=
  by decide +kernel

theorem witness_ReleaseTimerReleasesOldest_stops :
    heldLast.running = true ∧ heldLast.releaseDue 1 = true ∧ heldLast.deferredOf 1 = ⟨⟨0, 0⟩, 1⟩ :: [] ∧
    heldLast.entry? 0 = some { standing with disp := .deferred } ∧ 0 < 512 ∧ standing.tag.isSome = true ∧
    standing.ack = none ∧ standing.area = 1 ∧ (∀ y ∈ heldLast.flood.deferred, y.ref.num = 0 → y = ⟨⟨0, 0⟩, 1⟩) ∧
    heldLast.flooded 1 = false :=
  by decide +kernel

theorem witness_ReleaseTimerReleasesOldest_floods :
    heldNear.running = true ∧ heldNear.releaseDue 1 = true ∧ heldNear.deferredOf 1 = ⟨⟨0, 0⟩, 1⟩ :: [⟨⟨1, 0⟩, 1⟩] ∧
    heldNear.entry? 0 = some { standing with disp := .deferred } ∧ 0 < 512 ∧ standing.tag.isSome = true ∧
    standing.ack = none ∧ standing.area = 1 ∧ (∀ y ∈ heldNear.flood.deferred, y.ref.num = 0 → y = ⟨⟨0, 0⟩, 1⟩) ∧
    heldNear.flooded 1 = false ∧ heldNear.load 1 + standing.cur.weight = (heldNear.areaRec 1).floodOn :=
  by decide +kernel

theorem witness_OverrideIsPlaced_shelf :
    alarmed.EntriesSound ∧ Taken alarmed (hdr 1) ∧ 4095 ≤ 4095 ∧ alarmed.tagRec? 4095 = some plainTag ∧
    alarmed.logonAt (hdr 1).station = some 0 ∧ 2 ≤ alarmed.levelOf 0 (plainTag).area ∧
    alarmed.overrideRight 0 (hdr 1).station (plainTag).area = true ∧ plainTag.shelvable = true ∧
    alarmed.override? .shelve 4095 = none ∧ alarmed.freeOverride? = some 0 :=
  ⟨by unfold State.EntriesSound State.EntrySound; decide +kernel, by unfold Taken Accepted; decide +kernel⟩

theorem witness_CommandInFlightEnds :
    flying.running = true ∧ flying.gate.transit.look 65535 = some flight ∧ flight.state ≠ .awaiting ∧
    flight.deadline ≤ flying.now :=
  by decide +kernel

theorem witness_CommandInFlightEnds_busy :
    busy.running = true ∧ busy.gate.transit.look 65535 = some { flight with windowEnd := some 9999 } ∧
    flight.state ≠ .awaiting ∧ 9999 < busy.now :=
  by decide +kernel

theorem witness_CommandInFlightEnds_handover :
    quiescing.WithinCapacity ∧ quiescing.running = true ∧ quiescing.gate.transit.look 65535 = some flight ∧
    flight.state ≠ .awaiting ∧ quiescing.hand.look flight.area = some (.quiescing { offer with lapse := none }) ∧
    quiescing.inFlight flight.area = [65535] ∧ quiescing.ownerConditions offer.inOp flight.area = some 2 ∧
    quiescing.overrides.look 0 = some ⟨.shelve, 4095, 0, 1, 9000, ⟨5, 90⟩, 10000, 9⟩ :=
  ⟨withinCapacity_of (by decide +kernel), by decide +kernel⟩

theorem witness_CommandInFlightEnds_takeover :
    takingOver.WithinCapacity ∧ takingOver.running = true ∧ takingOver.gate.transit.look 65535 = some flight ∧
    flight.state ≠ .awaiting ∧ takingOver.hand.look flight.area = some (.takingOver ⟨2, 3, 9000, ⟨5, 90⟩⟩) ∧
    takingOver.ownerOf flight.area = some (0, 1) ∧ takingOver.inFlight flight.area = [65535] ∧
    takingOver.ownerConditions 2 flight.area = some 3 :=
  ⟨withinCapacity_of (by decide +kernel), by decide +kernel⟩

theorem witness_CommandInFlightEnds_declined :
    unfitIncoming.WithinCapacity ∧ unfitIncoming.running = true ∧
    unfitIncoming.gate.transit.look 65535 = some flight ∧ flight.state ≠ .awaiting ∧
    unfitIncoming.hand.look flight.area = some (.quiescing { offer with lapse := none, inOp := 3, inStation := 16 }) ∧
    unfitIncoming.inFlight flight.area = [65535] ∧ unfitIncoming.ownerConditions 3 flight.area = none :=
  ⟨withinCapacity_of (by decide +kernel), by decide +kernel⟩

theorem witness_CommandInFlightEnds_others :
    twoFlying.WithinCapacity ∧ twoFlying.running = true ∧ twoFlying.gate.transit.look 65535 = some flight ∧
    flight.state ≠ .awaiting ∧
    (twoFlying.isQuiescing flight.area = false ∨ twoFlying.inFlight flight.area ≠ [65535]) ∧
    twoFlying.isQuiescing flight.area = true :=
  ⟨withinCapacity_of (by decide +kernel), by decide +kernel⟩

theorem witness_TakeoverTakesArea :
    (∀ x, offeredWaiting.hand.look 1 ≠ some (.takingOver x)) ∧ offeredWaiting.WithinCapacity ∧
    Taken offeredWaiting (hdr 3) ∧ 1 ≤ 1 ∧ 1 ≤ 12 ∧ offeredWaiting.logonAt (hdr 3).station = some 2 ∧
    offeredWaiting.stationOf 2 = some (hdr 3).station ∧ offeredWaiting.isSupervisorStation (hdr 3).station = true ∧
    offeredWaiting.permits (hdr 3).station 1 = true ∧ 1 ≤ offeredWaiting.levelOf 2 1 ∧
    (offeredWaiting.ownerOf 1).map Prod.fst ≠ some 2 ∧
    (offeredWaiting.ownerOf 1 = none ∨ offeredWaiting.inFlight 1 = []) ∧ offeredWaiting.ownerOf 1 = some (0, 1) ∧
    offeredWaiting.session? 1 = some offer ∧ offeredWaiting.gate.transit.look 65535 = some awaitingSign ∧
    awaitingSign.state = .awaiting ∧ awaitingSign.area = 1 ∧
    (offeredWaiting.ownerOf 1).map Prod.fst = some awaitingSign.origOp :=
  ⟨(by intro x h; cases h), withinCapacity_of (by decide +kernel), by unfold Taken Accepted; decide +kernel⟩

theorem witness_TakeoverTakesArea_holder :
    (∀ x, offeredShelved.hand.look 1 ≠ some (.takingOver x)) ∧ offeredShelved.WithinCapacity ∧
    Taken offeredShelved (hdr 3) ∧ 1 ≤ 1 ∧ 1 ≤ 12 ∧ offeredShelved.logonAt (hdr 3).station = some 2 ∧
    offeredShelved.stationOf 2 = some (hdr 3).station ∧ offeredShelved.isSupervisorStation (hdr 3).station = true ∧
    offeredShelved.permits (hdr 3).station 1 = true ∧ 1 ≤ offeredShelved.levelOf 2 1 ∧
    (offeredShelved.ownerOf 1).map Prod.fst ≠ some 2 ∧
    (offeredShelved.ownerOf 1 = none ∨ offeredShelved.inFlight 1 = []) ∧
    offeredShelved.overrides.look 0 = some ⟨.shelve, 4095, 0, 1, 9000, ⟨5, 90⟩, 10000, 9⟩ ∧
    offeredShelved.overrideArea ⟨.shelve, 4095, 0, 1, 9000, ⟨5, 90⟩, 10000, 9⟩ = some 1 :=
  ⟨(by intro x h; cases h), withinCapacity_of (by decide +kernel), by unfold Taken Accepted; decide +kernel⟩

theorem witness_TakeoverTakesArea_unowned :
    (∀ x, room.hand.look 12 ≠ some (.takingOver x)) ∧ room.WithinCapacity ∧ Taken room (hdr 3) ∧ 1 ≤ 12 ∧ 12 ≤ 12 ∧
    room.logonAt (hdr 3).station = some 2 ∧ room.stationOf 2 = some (hdr 3).station ∧
    room.isSupervisorStation (hdr 3).station = true ∧ room.permits (hdr 3).station 12 = true ∧ 1 ≤ room.levelOf 2 12 ∧
    (room.ownerOf 12).map Prod.fst ≠ some 2 ∧ (room.ownerOf 12 = none ∨ room.inFlight 12 = []) ∧
    room.ownerOf 12 = none :=
  ⟨(by intro x h; cases h), withinCapacity_of (by decide +kernel), by unfold Taken Accepted; decide +kernel⟩

theorem witness_TakeoverTakesArea_waits :
    (∀ x, offeredFlying.hand.look 1 ≠ some (.takingOver x)) ∧ offeredFlying.WithinCapacity ∧
    Taken offeredFlying (hdr 3) ∧ 1 ≤ 1 ∧ 1 ≤ 12 ∧ offeredFlying.logonAt (hdr 3).station = some 2 ∧
    offeredFlying.stationOf 2 = some (hdr 3).station ∧ offeredFlying.isSupervisorStation (hdr 3).station = true ∧
    offeredFlying.permits (hdr 3).station 1 = true ∧ 1 ≤ offeredFlying.levelOf 2 1 ∧
    (offeredFlying.ownerOf 1).map Prod.fst ≠ some 2 ∧ offeredFlying.ownerOf 1 = some (0, 1) ∧
    offeredFlying.inFlight 1 ≠ [] ∧ offeredFlying.session? 1 = some offer :=
  ⟨(by intro x h; cases h), withinCapacity_of (by decide +kernel), by unfold Taken Accepted; decide +kernel⟩

theorem witness_StationWriteTakesEffect_range0 :
    Taken room (hdr 16) ∧ room.entitled (hdr 16).station = true ∧ room.store.job = none ∧ (0 < 1 ∨ 16 < 0) :=
  by unfold Taken Accepted; decide +kernel

theorem witness_StationWriteTakesEffect_range17 :
    Taken room (hdr 16) ∧ room.entitled (hdr 16).station = true ∧ room.store.job = none ∧ (17 < 1 ∨ 16 < 17) :=
  by unfold Taken Accepted; decide +kernel

theorem witness_StationWriteTakesEffect_kind0 :
    Taken room (hdr 16) ∧ room.entitled (hdr 16).station = true ∧ room.store.job = none ∧ 1 ≤ 16 ∧ 16 ≤ 16 ∧
    StationKind.ofCode 0 = none :=
  by unfold Taken Accepted; decide +kernel

theorem witness_StationWriteTakesEffect_kind4 :
    Taken room (hdr 16) ∧ room.entitled (hdr 16).station = true ∧ room.store.job = none ∧ 1 ≤ 16 ∧ 16 ≤ 16 ∧
    StationKind.ofCode 4 = none :=
  by unfold Taken Accepted; decide +kernel

theorem witness_StationWriteTakesEffect_area0 :
    Taken room (hdr 16) ∧ room.entitled (hdr 16).station = true ∧ room.store.job = none ∧ 1 ≤ 1 ∧ 1 ≤ 16 ∧
    (StationKind.ofCode 2).isSome = true ∧ (∃ a ∈ [1, 0], a < 1 ∨ 12 < a) :=
  by unfold Taken Accepted; decide +kernel

theorem witness_StationWriteTakesEffect_area13 :
    Taken room (hdr 16) ∧ room.entitled (hdr 16).station = true ∧ room.store.job = none ∧ 1 ≤ 1 ∧ 1 ≤ 16 ∧
    (StationKind.ofCode 2).isSome = true ∧ (∃ a ∈ [1, 13], a < 1 ∨ 12 < a) :=
  by unfold Taken Accepted; decide +kernel

theorem witness_StationWriteTakesEffect_occupied :
    Taken room (hdr 16) ∧ room.entitled (hdr 16).station = true ∧ room.store.job = none ∧ 1 ≤ 1 ∧ 1 ≤ 16 ∧
    (StationKind.ofCode 3).isSome = true ∧ (∀ a ∈ [1, 12], 1 ≤ a ∧ a ≤ 12) ∧ room.staffed 1 = true :=
  by unfold Taken Accepted; decide +kernel

theorem witness_StationWriteTakesEffect :
    Taken room (hdr 16) ∧ room.entitled (hdr 16).station = true ∧ room.store.job = none ∧ 1 ≤ 5 ∧ 5 ≤ 16 ∧
    room.staffed 5 = false ∧ StationKind.ofCode 3 = some .engineering ∧ (∀ a ∈ [1, 12], 1 ≤ a ∧ a ≤ 12) ∧
    room.stationRec? 5 = some (stationEntry 5 .operator) :=
  by unfold Taken Accepted; decide +kernel

theorem witness_StationWriteTakesEffect_new :
    Taken room (hdr 16) ∧ room.entitled (hdr 16).station = true ∧ room.store.job = none ∧ 1 ≤ 15 ∧ 15 ≤ 16 ∧
    room.staffed 15 = false ∧ StationKind.ofCode 1 = some .operator ∧ (∀ a ∈ ([] : List Nat), 1 ≤ a ∧ a ≤ 12) ∧
    room.stationRec? 15 = none :=
  by unfold Taken Accepted; decide +kernel

theorem witness_StationWriteTakesEffect_clearOccupied :
    Taken room (hdr 16) ∧ room.entitled (hdr 16).station = true ∧ room.store.job = none ∧ 1 ≤ 16 ∧ 16 ≤ 16 ∧
    room.staffed 16 = true :=
  by unfold Taken Accepted; decide +kernel

theorem witness_StationWriteTakesEffect_clearAbsent :
    Taken room (hdr 16) ∧ room.entitled (hdr 16).station = true ∧ room.store.job = none ∧ 1 ≤ 15 ∧ 15 ≤ 16 ∧
    room.staffed 15 = false ∧ room.stationRec? 15 = none :=
  by unfold Taken Accepted; decide +kernel

theorem witness_StationWriteTakesEffect_clear :
    Taken room (hdr 16) ∧ room.entitled (hdr 16).station = true ∧ room.store.job = none ∧ 1 ≤ 5 ∧ 5 ≤ 16 ∧
    room.staffed 5 = false ∧ room.stationRec? 5 = some (stationEntry 5 .operator) :=
  by unfold Taken Accepted; decide +kernel

end Sys2Proof.Tests
end

