-- ==== Sys2Proof/WellFormed.lean ====
section
/-! DEFINITION. Well-formedness of commands: every field of a message fits the width that R180 to R182 give it on the
wire, and a timer's event names a thing that can have that timer. It says nothing of what the owning rule accepts: a
LOGON with badge 0 is well formed and is refused. -/

namespace Sys2Proof

def fits1 (n : Nat) : Bool := decide (n < 256)
def fits2 (n : Nat) : Bool := decide (n < 65536)
def fits4 (n : Nat) : Bool := decide (n < 4294967296)

def isArea (a : Nat) : Bool := decide (1 ≤ a ∧ a ≤ 12)
def isStation (st : Nat) : Bool := decide (1 ≤ st ∧ st ≤ 16)
def isTicket (t : Nat) : Bool := decide (1 ≤ t ∧ t ≤ 65535)

def Hdr.wf (h : Hdr) : Bool := fits1 h.station && fits2 h.rtag && fits2 h.rsv

def Ref.wf (r : Ref) : Bool := fits2 r.num && fits2 r.gen

/-- R180: a day of 2 bytes and a second of day of 4. -/
def MillTime.wf (t : MillTime) : Bool := fits2 t.day && fits4 t.sec

/-- R182: a set has 16 bits, bit n - 1 for n, so it names numbers 1 to 16 once each; the model lists them rising. -/
def setWf (l : List Nat) : Bool := l.all isStation && decide (l.Pairwise (· < ·))

def RawStation.wf (r : RawStation) : Bool := fits1 r.kind && setWf r.areas && fits2 r.grace

def RawRoster.wf (r : RawRoster) : Bool :=
  fits2 r.badge && decide (r.name.length = 24) && fits1 r.role && r.levels.toList.all fits1 && setWf r.stations

def RawArea.wf (r : RawArea) : Bool :=
  decide (r.name.length = 16) && r.stage1.toList.all fits2 && fits2 r.stage2 && fits2 r.decay && fits2 r.floodOn
    && fits2 r.floodOff && fits1 r.cut && fits2 r.release && fits2 r.shelveMax && fits2 r.bypassMax
    && fits2 r.window && fits2 r.handover && decide (r.fallback.length = 4) && r.fallback.all fits1

def RawTag.wf (r : RawTag) : Bool :=
  decide (r.name.length = 20) && fits1 r.area && r.prios.toList.all fits1
    && ((r.parent.map (fun p => fits2 p.1)).getD true)
    && ((r.blocker.map (fun b => fits2 b.1 && fits1 b.2)).getD true)
    && fits1 r.cls && fits1 r.base

def optionWf {α : Type} (f : α → Bool) : Option α → Bool
  | none => true
  | some x => f x

/-- R170: what an ALARM NOTICE that is no malformed content carries. -/
def NoticeFields.wf (n : NoticeFields) : Bool :=
  fits2 n.seq && decide (n.tag ≤ 4095 ∧ n.cond ≤ 7) && n.time.wf

def PlantContent.wf : PlantContent → Bool
  | .notice seq tag cond transition flag rsv time =>
    fits2 seq && fits2 tag && fits1 cond && fits1 transition && fits1 flag && fits1 rsv && time.wf
      && decide (4095 < tag ∨ 7 < cond ∨ (transition ≠ 1 ∧ transition ≠ 2) ∨ 1 < flag ∨ rsv ≠ 0)
  | .reply ticket tag outcome rsv arg =>
    fits2 ticket && fits2 tag && fits1 outcome && fits1 rsv && fits2 arg
      && decide (outcome < 1 ∨ 5 < outcome ∨ (outcome = 4 ∧ (arg < 1 ∨ 3 < arg)) ∨ rsv ≠ 0)

/-- R180: the kinds a console sends. -/
def consoleKind (k : Nat) : Bool := decide ((1 ≤ k ∧ k ≤ 21) ∨ (24 ≤ k ∧ k ≤ 28))

def OddRequest.wf : OddRequest → Bool
  | .kind c => fits1 c && !consoleKind c
  | .silenceMode m r rsv => fits1 m && decide (m ≠ 1 ∧ m ≠ 2) && r.wf && fits1 rsv
  | .serviceState a x rsv => fits1 a && fits1 x && decide (x ≠ 1 ∧ x ≠ 2) && fits1 rsv
  | .decision t g d rsv => fits2 t && fits2 g && fits1 d && decide (d ≠ 1 ∧ d ≠ 2) && fits1 rsv
  | .writeTable t i => fits1 t && decide (t < 1 ∨ 4 < t) && fits2 i
  | .queryKind k => fits1 k && decide (k < 1 ∨ 8 < k)

/-- Every command of the table, field by field. -/
def WellFormed : Instr → Bool
  | .powerUp _ => true
  | .resetAssert _ => true
  | .resetDeassert _ => true
  | .powerLoss _ => true
  | .masterKeyLineChange _ => true
  | .keyAsserted => true
  | .keyReleased => true
  | .portAFrameDiscarded _ payload => decide (payload.length ≤ 1500)
  | .unknownKind h r => h.wf && r.wf
  | .beat h => h.wf
  | .consoleSilenceTimeout st => isStation st
  | .graceExpiry st => isStation st
  | .logon h badge rsv => h.wf && fits2 badge && fits1 rsv
  | .logoff h => h.wf
  | .claim h a rsv => h.wf && fits1 a && fits1 rsv
  | .release h a rsv => h.wf && fits1 a && fits1 rsv
  | .ack h r rsv => h.wf && r.wf && fits1 rsv
  | .silenceTop h r rsv => h.wf && r.wf && fits1 rsv
  | .silenceAll h rsv => h.wf && fits1 rsv
  | .serviceOut h a rsv => h.wf && fits1 a && fits1 rsv
  | .serviceIn h a rsv => h.wf && fits1 a && fits1 rsv
  | .shelve h t d r rsv => h.wf && fits2 t && fits2 d && fits1 r && fits1 rsv
  | .unshelve h t rsv => h.wf && fits2 t && fits1 rsv
  | .bypass h t d r rsv => h.wf && fits2 t && fits2 d && fits1 r && fits1 rsv
  | .unbypass h t rsv => h.wf && fits2 t && fits1 rsv
  | .overrideExpiry n => decide (n ≤ 63)
  | .command h t a _ rsv => h.wf && fits2 t && fits1 a && fits1 rsv
  | .countersignAgree h k t rsv => h.wf && fits2 k && fits2 t && fits1 rsv
  | .countersignDecline h k t rsv => h.wf && fits2 k && fits2 t && fits1 rsv
  | .withdraw h k rsv => h.wf && fits2 k && fits1 rsv
  | .countersignWindowExpiry k => isTicket k
  | .replyDone k t => fits2 k && fits2 t
  | .replyRefused k t c => fits2 k && fits2 t && fits2 c
  | .replyBusy k t => fits2 k && fits2 t
  | .replyExtend k t n => fits2 k && fits2 t && decide (1 ≤ n ∧ n ≤ 3)
  | .replyHoldOn k t => fits2 k && fits2 t
  | .reSend k => isTicket k
  | .replyDeadlineExpiry k => isTicket k
  | .offer h a b rsv => h.wf && fits1 a && fits2 b && fits1 rsv
  | .review h a f c rsv => h.wf && fits1 a && fits1 f && fits2 c && fits1 rsv
  | .accept h a rsv => h.wf && fits1 a && fits1 rsv
  | .recallOffer h a rsv => h.wf && fits1 a && fits1 rsv
  | .handoverLapse a => isArea a
  | .takeover h a rsv => h.wf && fits1 a && fits1 rsv
  | .queryUnitStatus h rsv => h.wf && fits1 rsv
  | .queryAreaStatus h a rsv => h.wf && fits1 a && fits1 rsv
  | .queryAlarmPage h a p f rsv => h.wf && fits1 a && fits2 p && fits1 f && fits1 rsv
  | .queryAlarmEntry h r rsv => h.wf && r.wf && fits1 rsv
  | .queryTransitList h rsv => h.wf && fits1 rsv
  | .queryOverrideList h rsv => h.wf && fits1 rsv
  | .queryHandoverList h a rsv => h.wf && fits1 a && fits1 rsv
  | .queryStationStatus h st rsv => h.wf && fits1 st && fits1 rsv
  | .stationWrite h i r rsv => h.wf && fits2 i && optionWf RawStation.wf r && fits1 rsv
  | .rosterWrite h i r rsv => h.wf && fits2 i && optionWf RawRoster.wf r && fits1 rsv
  | .areaWrite h i r rsv => h.wf && fits2 i && optionWf RawArea.wf r && fits1 rsv
  | .tagWrite h i r rsv => h.wf && fits2 i && optionWf RawTag.wf r && fits1 rsv
  | .readRecord h t i rsv => h.wf && fits1 t && fits2 i && fits1 rsv
  | .store h => h.wf
  | .storeComplete _ => true
  | .setClock h t rsv => h.wf && t.wf && fits1 rsv
  | .restart h => h.wf
  | .millTimeAdvance => true
  | .plantFrameDiscarded payload => decide (payload.length ≤ 1500)
  | .alarmNoticeRaise n => n.wf
  | .alarmNoticeReturn n => n.wf
  | .decayEvent a => isArea a
  | .releaseTimerExpiry a => isArea a
  | .stage1Expiry n => decide (n ≤ 511)
  | .stage2Expiry n => decide (n ≤ 511)
  | .plantBeat => true
  | .resyncEnd scope n => fits1 scope && fits2 n
  | .plantSilenceTimeout => true
  | .plantDegradedTimeout => true
  | .plantStartTimeout => true
  | .resyncTimerExpiry => true
  | .unitBeat => true
  | .malformedContent c => c.wf

end Sys2Proof
end

