-- ==== Sys2Proof/Tests/Slice0.lean ====
section
/-! SUPPORT. Tests: ill-formed commands are refused by `WellFormed`, well-formed ones are not; frames spell the commands
that R180 to R185 lay out; and single events on the small room of Tests/Room.lean, with results worked out by hand from the
rules named, or taken from the spec's own tables. -/

namespace Sys2Proof.Tests

open Sys2Proof.Machine

set_option Elab.async false

/-- A session of area 1 to the supervisor at station 3, where the area's alarm is silenced. -/
def silencedIncoming : State :=
  withAlarm standing ⟨[1, 3], [3], none⟩ (withHand (.offered { offer with inOp := 2, inStation := 3 }) room)

/-! ### Well-formedness -/

theorem test_wf_refuses_headers :
    ([.beat ⟨address 1, 256, 0, 0⟩, .logoff ⟨address 1, 1, 65536, 0⟩, .store ⟨address 1, 1, 0, 65536⟩,
      .restart ⟨address 1, 256, 0, 0⟩] : List Instr).all (fun i => !WellFormed i) = true := by decide +kernel

theorem test_wf_refuses_authority :
    ([.consoleSilenceTimeout 0, .graceExpiry 17, .logon (hdr 1) 65536 0, .logon (hdr 1) 1 256, .claim (hdr 1) 256 0,
      .claim (hdr 1) 1 256, .release (hdr 1) 256 0, .release (hdr 1) 1 256] : List Instr).all
      (fun i => !WellFormed i) = true := by decide +kernel

theorem test_wf_refuses_alarms :
    ([.ack (hdr 1) ⟨65536, 0⟩ 0, .ack (hdr 1) ⟨0, 65536⟩ 0, .ack (hdr 1) ⟨0, 0⟩ 256, .silenceTop (hdr 1) ⟨65536, 0⟩ 0,
      .silenceTop (hdr 1) ⟨0, 0⟩ 256, .silenceAll (hdr 1) 256, .serviceOut (hdr 1) 256 0, .serviceOut (hdr 1) 1 256,
      .serviceIn (hdr 1) 256 0, .serviceIn (hdr 1) 1 256, .decayEvent 13, .releaseTimerExpiry 0, .stage1Expiry 512,
      .stage2Expiry 512] : List Instr).all (fun i => !WellFormed i) = true := by decide +kernel

theorem test_wf_refuses_overrides :
    ([.shelve (hdr 1) 65536 0 0 0, .shelve (hdr 1) 0 65536 0 0, .shelve (hdr 1) 0 0 256 0, .shelve (hdr 1) 0 0 0 256,
      .unshelve (hdr 1) 65536 0, .unshelve (hdr 1) 0 256, .bypass (hdr 1) 65536 0 0 0, .bypass (hdr 1) 0 65536 0 0,
      .bypass (hdr 1) 0 0 256 0, .bypass (hdr 1) 0 0 0 256, .unbypass (hdr 1) 65536 0, .unbypass (hdr 1) 0 256,
      .overrideExpiry 64] : List Instr).all (fun i => !WellFormed i) = true := by decide +kernel

theorem test_wf_refuses_commands :
    ([.command (hdr 1) 65536 1 0 0, .command (hdr 1) 0 256 0 0, .command (hdr 1) 0 1 0 256,
      .countersignAgree (hdr 1) 65536 0 0, .countersignAgree (hdr 1) 1 65536 0, .countersignAgree (hdr 1) 1 0 256,
      .countersignDecline (hdr 1) 65536 0 0, .countersignDecline (hdr 1) 1 65536 0, .countersignDecline (hdr 1) 1 0 256,
      .withdraw (hdr 1) 65536 0, .withdraw (hdr 1) 1 256, .countersignWindowExpiry 0, .replyDone 65536 0,
      .replyDone 1 65536, .replyRefused 65536 0 0, .replyRefused 1 65536 0, .replyRefused 1 0 65536, .replyBusy 65536 0,
      .replyBusy 1 65536, .replyExtend 65536 0 1, .replyExtend 1 65536 1, .replyExtend 1 0 0, .replyExtend 1 0 4,
      .replyHoldOn 65536 0, .replyHoldOn 1 65536, .reSend 0, .replyDeadlineExpiry 65536] : List Instr).all
      (fun i => !WellFormed i) = true := by decide +kernel

theorem test_wf_refuses_handover :
    ([.offer (hdr 1) 256 1 0, .offer (hdr 1) 1 65536 0, .offer (hdr 1) 1 1 256, .review (hdr 1) 256 1 1 0,
      .review (hdr 1) 1 256 1 0, .review (hdr 1) 1 1 65536 0, .review (hdr 1) 1 1 1 256, .accept (hdr 1) 256 0,
      .accept (hdr 1) 1 256, .recallOffer (hdr 1) 256 0, .recallOffer (hdr 1) 1 256, .handoverLapse 0,
      .takeover (hdr 1) 256 0, .takeover (hdr 1) 1 256] : List Instr).all (fun i => !WellFormed i) = true := by
  decide +kernel

theorem test_wf_refuses_queries :
    ([.queryUnitStatus (hdr 1) 256, .queryAreaStatus (hdr 1) 256 0, .queryAreaStatus (hdr 1) 1 256,
      .queryAlarmPage (hdr 1) 256 0 1 0, .queryAlarmPage (hdr 1) 0 65536 1 0, .queryAlarmPage (hdr 1) 0 0 256 0,
      .queryAlarmPage (hdr 1) 0 0 1 256, .queryAlarmEntry (hdr 1) ⟨65536, 0⟩ 0, .queryAlarmEntry (hdr 1) ⟨0, 0⟩ 256,
      .queryTransitList (hdr 1) 256, .queryOverrideList (hdr 1) 256, .queryHandoverList (hdr 1) 256 0,
      .queryHandoverList (hdr 1) 1 256, .queryStationStatus (hdr 1) 256 0, .queryStationStatus (hdr 1) 1 256,
      .readRecord (hdr 1) 256 0 0, .readRecord (hdr 1) 1 65536 0, .readRecord (hdr 1) 1 1 256] : List Instr).all
      (fun i => !WellFormed i) = true := by decide +kernel

def rawStation : RawStation := ⟨1, address 5, [1, 12], 90⟩

def rawRoster : RawRoster := ⟨1, List.replicate 24 0x20, 1, true, levels 3 3, [1, 16]⟩

theorem test_wf_refuses_records :
    ([.stationWrite (hdr 1) 65536 none 0, .stationWrite (hdr 1) 1 none 256,
      .stationWrite (hdr 1) 1 (some { rawStation with kind := 256 }) 0,
      .stationWrite (hdr 1) 1 (some { rawStation with areas := [17] }) 0,
      .stationWrite (hdr 1) 1 (some { rawStation with areas := [2, 1] }) 0,
      .stationWrite (hdr 1) 1 (some { rawStation with grace := 65536 }) 0,
      .rosterWrite (hdr 1) 65536 none 0, .rosterWrite (hdr 1) 1 none 256,
      .rosterWrite (hdr 1) 1 (some { rawRoster with badge := 65536 }) 0,
      .rosterWrite (hdr 1) 1 (some { rawRoster with name := [] }) 0,
      .rosterWrite (hdr 1) 1 (some { rawRoster with role := 256 }) 0,
      .rosterWrite (hdr 1) 1 (some { rawRoster with levels := levels 256 0 }) 0,
      .rosterWrite (hdr 1) 1 (some { rawRoster with stations := [0] }) 0] : List Instr).all
      (fun i => !WellFormed i) = true := by decide +kernel

theorem test_wf_refuses_areas :
    ([.areaWrite (hdr 1) 65536 none 0, .areaWrite (hdr 1) 1 none 256,
      .areaWrite (hdr 1) 1 (some { rawArea with name := [] }) 0,
      .areaWrite (hdr 1) 1 (some { rawArea with stage1 := #v[65536, 1, 1, 1] }) 0,
      .areaWrite (hdr 1) 1 (some { rawArea with stage2 := 65536 }) 0,
      .areaWrite (hdr 1) 1 (some { rawArea with decay := 65536 }) 0,
      .areaWrite (hdr 1) 1 (some { rawArea with floodOn := 65536 }) 0,
      .areaWrite (hdr 1) 1 (some { rawArea with floodOff := 65536 }) 0,
      .areaWrite (hdr 1) 1 (some { rawArea with cut := 256 }) 0,
      .areaWrite (hdr 1) 1 (some { rawArea with release := 65536 }) 0,
      .areaWrite (hdr 1) 1 (some { rawArea with shelveMax := 65536 }) 0,
      .areaWrite (hdr 1) 1 (some { rawArea with bypassMax := 65536 }) 0,
      .areaWrite (hdr 1) 1 (some { rawArea with window := 65536 }) 0,
      .areaWrite (hdr 1) 1 (some { rawArea with handover := 65536 }) 0,
      .areaWrite (hdr 1) 1 (some { rawArea with fallback := [1, 2, 3] }) 0,
      .areaWrite (hdr 1) 1 (some { rawArea with fallback := [1, 2, 3, 256] }) 0] : List Instr).all
      (fun i => !WellFormed i) = true := by decide +kernel

def fullTag : RawTag := { rawTag with name := List.replicate 20 0x20 }

theorem test_wf_refuses_tags :
    ([.tagWrite (hdr 1) 65536 none 0, .tagWrite (hdr 1) 1 none 256,
      .tagWrite (hdr 1) 1 (some { fullTag with name := [] }) 0, .tagWrite (hdr 1) 1 (some { fullTag with area := 256 }) 0,
      .tagWrite (hdr 1) 1 (some { fullTag with prios := #v[256, 0, 0, 0, 0, 0, 0, 0] }) 0,
      .tagWrite (hdr 1) 1 (some { fullTag with parent := some (65536, 0) }) 0,
      .tagWrite (hdr 1) 1 (some { fullTag with blocker := some (65536, 0) }) 0,
      .tagWrite (hdr 1) 1 (some { fullTag with blocker := some (0, 256) }) 0,
      .tagWrite (hdr 1) 1 (some { fullTag with cls := 256 }) 0,
      .tagWrite (hdr 1) 1 (some { fullTag with base := 256 }) 0,
      .setClock (hdr 1) ⟨65536, 0⟩ 0, .setClock (hdr 1) ⟨0, 4294967296⟩ 0, .setClock (hdr 1) ⟨0, 0⟩ 256] : List Instr).all
      (fun i => !WellFormed i) = true := by decide +kernel

theorem test_wf_refuses_plant_frames :
    ([.portAFrameDiscarded (address 1) (List.replicate 1501 0), .plantFrameDiscarded (List.replicate 1501 0),
      .alarmNoticeRaise ⟨65536, 0, 0, false, ⟨0, 0⟩⟩, .alarmNoticeRaise ⟨0, 4096, 0, false, ⟨0, 0⟩⟩,
      .alarmNoticeReturn ⟨0, 0, 8, false, ⟨0, 0⟩⟩, .alarmNoticeReturn ⟨0, 0, 0, false, ⟨65536, 0⟩⟩, .resyncEnd 256 0,
      .resyncEnd 0 65536, .malformedContent (.notice 0 0 0 1 0 0 ⟨0, 0⟩), .malformedContent (.notice 65536 4096 0 1 0 0 ⟨0, 0⟩),
      .malformedContent (.notice 0 65536 0 1 0 0 ⟨0, 0⟩), .malformedContent (.notice 0 0 256 1 0 0 ⟨0, 0⟩),
      .malformedContent (.notice 0 0 0 256 0 0 ⟨0, 0⟩), .malformedContent (.notice 0 0 0 1 256 0 ⟨0, 0⟩),
      .malformedContent (.notice 0 0 0 1 0 256 ⟨0, 0⟩), .malformedContent (.notice 0 0 0 1 0 1 ⟨0, 4294967296⟩),
      .malformedContent (.reply 0 0 4 0 3), .malformedContent (.reply 65536 0 0 0 0),
      .malformedContent (.reply 0 65536 0 0 0), .malformedContent (.reply 0 0 256 0 0),
      .malformedContent (.reply 0 0 1 256 0), .malformedContent (.reply 0 0 4 0 65536)] : List Instr).all
      (fun i => !WellFormed i) = true := by decide +kernel

theorem test_wf_refuses_odd_requests :
    ([.unknownKind (hdr 256) (.kind 22), .unknownKind (hdr 1) (.kind 21), .unknownKind (hdr 1) (.kind 256),
      .unknownKind (hdr 1) (.silenceMode 1 ⟨0, 0⟩ 0), .unknownKind (hdr 1) (.silenceMode 256 ⟨0, 0⟩ 0),
      .unknownKind (hdr 1) (.silenceMode 3 ⟨65536, 0⟩ 0), .unknownKind (hdr 1) (.silenceMode 3 ⟨0, 0⟩ 256),
      .unknownKind (hdr 1) (.serviceState 256 3 0), .unknownKind (hdr 1) (.serviceState 1 2 0),
      .unknownKind (hdr 1) (.serviceState 1 256 0), .unknownKind (hdr 1) (.serviceState 1 3 256),
      .unknownKind (hdr 1) (.decision 65536 0 3 0), .unknownKind (hdr 1) (.decision 1 65536 3 0),
      .unknownKind (hdr 1) (.decision 1 0 2 0), .unknownKind (hdr 1) (.decision 1 0 256 0),
      .unknownKind (hdr 1) (.decision 1 0 3 256), .unknownKind (hdr 1) (.writeTable 4 0),
      .unknownKind (hdr 1) (.writeTable 256 0), .unknownKind (hdr 1) (.writeTable 5 65536),
      .unknownKind (hdr 1) (.queryKind 8), .unknownKind (hdr 1) (.queryKind 256)] : List Instr).all
      (fun i => !WellFormed i) = true := by decide +kernel

theorem test_wf_accepts :
    ([.powerUp ⟨true, true, true, true⟩, .storeComplete true, .unitBeat, .portAFrameDiscarded (address 1) [],
      .unknownKind (hdr 1) (.kind 255), .beat (hdr 255), .consoleSilenceTimeout 16, .graceExpiry 1, .logon (hdr 1) 65535 255,
      .ack (hdr 1) ⟨65535, 65535⟩ 0, .shelve (hdr 1) 65535 65535 255 0, .overrideExpiry 63, .command (hdr 1) 4095 8 (-1) 0,
      .withdraw (hdr 1) 0 0, .replyExtend 65535 4095 3, .handoverLapse 12, .review (hdr 1) 12 64 65535 0,
      .stationWrite (hdr 1) 16 (some rawStation) 0, .rosterWrite (hdr 1) 127 (some rawRoster) 0,
      .areaWrite (hdr 1) 12 (some rawArea) 0, .tagWrite (hdr 1) 4095 (some fullTag) 0, .setClock (hdr 1) ⟨65535, 86400⟩ 0,
      .alarmNoticeRaise ⟨65535, 4095, 7, true, ⟨0, 0⟩⟩, .stage1Expiry 511, .resyncEnd 255 65535, .reSend 65535,
      .malformedContent (.notice 0 4096 0 1 0 0 ⟨0, 0⟩), .malformedContent (.reply 0 0 4 0 4)] : List Instr).all WellFormed
      = true := by decide +kernel

/-! ### Frames (R180 to R185) -/

/-- A COMMAND frame: kind 13, station 3, request tag 258, body length 8; tag 4095, action 8 RESET TRIP, value -2. -/
theorem test_frame_command :
    readPortA (address 3) ([13, 3, 1, 2, 0, 8, 0, 0, 0x0F, 0xFF, 8, 0, 0xFF, 0xFF, 0xFF, 0xFE] ++ List.replicate 30 0)
      = .command ⟨address 3, 3, 258, 0⟩ 4095 8 (-2) 0 := by decide +kernel

/-- A COMMAND frame whose body length is 9 is discarded. -/
theorem test_frame_length :
    readPortA (address 3) ([13, 3, 1, 2, 0, 9, 0, 0] ++ List.replicate 38 0)
      = .portAFrameDiscarded (address 3) ([13, 3, 1, 2, 0, 9, 0, 0] ++ List.replicate 38 0) := by decide +kernel

/-- SILENCE ALL (mode 2), SERVICE OUT (state 2) of area 12, DECLINE (decision 2) of ticket 65535. -/
theorem test_frame_selectors :
    readPortA (address 1) ([7, 1, 0, 0, 0, 6, 0, 0, 2, 0, 0, 0, 0, 0] ++ List.replicate 32 0)
      = .silenceAll ⟨address 1, 1, 0, 0⟩ 0 ∧
    readPortA (address 1) ([8, 1, 0, 0, 0, 3, 0, 0, 12, 2, 0] ++ List.replicate 35 0)
      = .serviceOut ⟨address 1, 1, 0, 0⟩ 12 0 ∧
    readPortA (address 1) ([14, 1, 0, 0, 0, 6, 0, 0, 0xFF, 0xFF, 0, 9, 2, 0] ++ List.replicate 32 0)
      = .countersignDecline ⟨address 1, 1, 0, 0⟩ 65535 9 0 := by decide +kernel

/-- Kind 22 is no console request (R184); it is not checked for length (R183). -/
theorem test_frame_unknown :
    readPortA (address 1) ([22, 1, 0, 7, 0, 0, 0, 0] ++ List.replicate 38 0)
      = .unknownKind ⟨address 1, 1, 7, 0⟩ (.kind 22) := by decide +kernel

/-- A QUERY of kind 9, which is none, draws CODE whatever follows the kind (R185). -/
theorem test_query_unknown :
    readPortA (address 1) ([21, 1, 0, 7, 0, 1, 0, 0, 9] ++ List.replicate 37 0)
      = .unknownKind (hdr 1) (.queryKind 9) ∧
    Answered (after (.unknownKind (hdr 1) (.queryKind 9)) room) (hdr 1) (ans .code) := by
  unfold Answered
  decide +kernel

/-- ALARM NOTICE, kind 128, body length 14: sequence 258, tag 4095, condition 7, RETURN, resync flag 1, day 1, second 86399. -/
theorem test_frame_notice :
    readPortB ([128, 0, 0, 0, 0, 14, 0, 0, 1, 2, 0x0F, 0xFF, 7, 2, 1, 0, 0, 1, 0, 1, 0x51, 0x7F] ++ List.replicate 24 0)
      = .alarmNoticeReturn ⟨258, 4095, 7, true, ⟨1, 86399⟩⟩ := by decide +kernel

/-- REPLY, kind 129: ticket 65535, tag 9, outcome 4 EXTEND, argument 3; with argument 4 it is malformed content (R170). -/
theorem test_frame_reply :
    readPortB ([129, 0, 0, 0, 0, 8, 0, 0, 0xFF, 0xFF, 0, 9, 4, 0, 0, 3] ++ List.replicate 30 0) = .replyExtend 65535 9 3 ∧
    readPortB ([129, 0, 0, 0, 0, 8, 0, 0, 0xFF, 0xFF, 0, 9, 4, 0, 0, 4] ++ List.replicate 30 0)
      = .malformedContent (.reply 65535 9 4 0 4) := by decide +kernel

/-- ANNOUNCE of `standing` at number 0, generation 3 (R181): kind 65, station 1, body length 36. -/
theorem test_frame_announce :
    Out.payload (.console 1 (address 1) (.announce ⟨⟨0, 3⟩, false, standing⟩)) =
      [65, 1, 0, 0, 0, 36, 0, 0,
       0, 0, 0, 3, 0, 0, 0x0F, 0xFF, 1, 3, 3, 0, 0, 1, 0, 5, 0, 0, 0, 50, 0, 0, 0, 0, 0, 0, 0, 0, 0, 0, 0, 0, 255, 0, 0, 0,
       0, 0] := by decide +kernel

/-- An ANSWER ACCEPTED/DONE with detail 258: request tag 513 in the header, class 0, code and detail in the body; padded to 46
bytes (R180). -/
theorem test_frame_answer :
    (Out.payload (.console 2 (address 2) (.answer 513 (ans .done 258)))).take 12 = [64, 2, 2, 1, 0, 4, 0, 0, 0,
      0, 1, 2] ∧
    (Out.payload (.console 2 (address 2) (.answer 513 (ans .done 258)))).length = 46 := by decide +kernel

/-- The check value of the CRC of R17 (reflected polynomial 04C11DB7) over the digits 1 to 9. -/
theorem test_crc : crc32 [0x31, 0x32, 0x33, 0x34, 0x35, 0x36, 0x37, 0x38, 0x39] = 0xCBF43926#32 := by decide +kernel

/-! ### The step and reset -/

/-- A step runs the front command and leaves the rest waiting. -/
theorem test_step_runs_front :
    (match step { room with pending := [.claim (hdr 2) 12 0, .unitBeat] } with
      | .next t => decide (t.ownerOf 12 = some (1, 2) ∧ t.pending = [.unitBeat])
      | _ => false) = true := by decide +kernel

/-- No row of the table has bits, so no word spells a command. -/
theorem test_no_words : decodeTableWord 0 0 = none ∧ room.withFetchWord 16 5 = room := ⟨rfl, rfl⟩

/-- R40, R65, R189: after reset the 12 areas are orphans in service, nothing is staffed, the plant link is START. -/
theorem test_reset :
    State.reset.plant.link = .start ∧ State.reset.auth.logon = [] ∧ areaNumbers.all State.reset.isOrphan = true ∧
      areaNumbers.all State.reset.inService = true ∧ State.reset.pending = [] := by decide +kernel

/-! ### The Authority Unit -/

/-- R28: LOGON at a staffed station is refused, and at station 5 staffs it with roster index 127. -/
theorem test_logon :
    (after (.logon (hdr 5) 65535 0) room).logonAt 5 = some 127 ∧
      Answered (after (.logon (hdr 1) 65535 0) room) (hdr 1) (ans .stationOccupied 0) := by
  unfold Answered; decide +kernel

/-- R29, R36: after LOGOFF at station 2 area 12 has no cover and is an orphan. -/
theorem test_logoff :
    (after (.logoff (hdr 2)) room).coverOf 12 = none ∧ (after (.logoff (hdr 2)) room).isOrphan 12 = true := by
  decide +kernel

/-- R29: an owner cannot log off. -/
theorem test_logoff_owner : (after (.logoff (hdr 1)) room).logonAt 1 = some 0 := by decide +kernel

/-- R35: station 5 stands before station 2 in area 12's fallback list and takes the cover when it is staffed. -/
theorem test_cover_moves : (after (.logon (hdr 5) 65535 0) room).coverOf 12 = some 5 := by decide +kernel

/-- R22, R34: a silent staffed station is LOST with a grace timer of 90 s; a frame ends both. -/
theorem test_silence_timeout :
    (after (.consoleSilenceTimeout 2) room).link 2 = .lost ∧
      (after (.consoleSilenceTimeout 2) room).auth.grace = [(2, 19000)] ∧
      (after (.beat (hdr 2)) (after (.consoleSilenceTimeout 2) room)).auth.grace = [] := by decide +kernel

/-- R34: at the end of the grace the operator is logged off and the area is an orphan. -/
theorem test_grace :
    (after (.graceExpiry 1) lost).ownerOf 1 = none ∧ (after (.graceExpiry 1) lost).isOrphan 1 = true := by decide +kernel

/-- R34, R88, R104, R163: the owner's grace ends with a session to the supervisor at station 3. The area is an orphan, so
station 3 stays on the route of its alarm: the silence there is kept and only ORPHAN AREA (516) is presented. -/
theorem test_grace_keeps_supervisor :
    let t := after (.graceExpiry 1)
      { silencedIncoming with console := lost.console, auth := { silencedIncoming.auth with grace := [(1, 10000)] } }
    t.isOrphan 1 = true ∧ t.session? 1 = none ∧ t.annRec 0 = ⟨[3], [3], none⟩ ∧ t.stack 3 = [516] := by decide +kernel

/-! ### Alarms -/

/-- R48: a RAISE for a RETURNED entry makes it ACTIVE again, with its raise count one higher and its weight added. -/
theorem test_reraise :
    ((after (.alarmNoticeRaise high0) returned).entry? 0).map (fun e => (e.active, e.raiseCount)) = some (true, 2) ∧
      (after (.alarmNoticeRaise high0) returned).load 1 = 32 := by decide +kernel

/-- R47: a RAISE for an ACTIVE entry changes neither entry nor load. -/
theorem test_duplicate_raise :
    (after (.alarmNoticeRaise high0) alarmed).entry? 0 = some standing ∧
      (after (.alarmNoticeRaise high0) alarmed).load 1 = 0 := by decide +kernel

/-- R49: tag 1 has tag 4095 as parent with conditions 0 and 7 in its mask. -/
theorem test_suppressed :
    ((after (.alarmNoticeRaise alarm1) alarmed).entry? 1).map (·.disp) = some .suppressed := by decide +kernel

/-- R55: an ACK by an operator who is not responsible changes nothing. -/
theorem test_ack_not_responsible : (after (.ack (hdr 2) ⟨0, 0⟩ 0) alarmed).entry? 0 = some standing := by decide +kernel

/-- R57: the owner's ACK stands in the entry with the mill time and the operator's index. -/
theorem test_ack : ((after (.ack (hdr 1) ⟨0, 0⟩ 0) alarmed).entry? 0).map (·.ack) = some (some ⟨⟨5, 100⟩, 0⟩) := by
  decide +kernel

/-- R59, R60: SERVICE OUT of area 1 removes its entry, whose generation goes up. -/
theorem test_service_out :
    (after (.serviceOut (hdr 3) 1 0) alarmed).entry? 0 = none ∧ (after (.serviceOut (hdr 3) 1 0) alarmed).gen 0 = 1 := by
  decide +kernel

/-- R101, R102: an overdue entry raises OVERDUE ALARM with the count 1. -/
theorem test_overdue :
    ((after (.stage2Expiry 0) { escalated with time := ⟨10000, ⟨5, 100⟩, false⟩ }).entry? 518).map (·.subject)
      = some (.count 1) := by decide +kernel

/-! ### The flood load -/

/-- The room with a load and a decay constant in area 1. -/
def loaded (load decay : Nat) : State :=
  { room with
    tables := { room.tables with areas := [(1, { AreaRec.default 1 with decay := decay })] }
    flood := { FloodMon.initial with load := [(1, load)] } }

/-- The rows of R68's table, and chapter 4.6's decay at T + 18: 103 falls by 11. -/
theorem test_decay :
    (after (.decayEvent 1) (loaded 65535 4095)).load 1 = 15 ∧ (after (.decayEvent 1) (loaded 15 4095)).load 1 = 0 ∧
      (after (.decayEvent 1) (loaded 65535 1)).load 1 = 65519 ∧ (after (.decayEvent 1) (loaded 4095 1)).load 1 = 4094 ∧
      (after (.decayEvent 1) (loaded 1 4095)).load 1 = 0 ∧ (after (.decayEvent 1) (loaded 103 410)).load 1 = 92 := by
  decide +kernel

/-- R67: an addition that reaches the flood-on threshold floods the area; the last unit below it does not. -/
theorem test_flood_entry :
    (after (.alarmNoticeRaise alarm0) (loaded ((AreaRec.default 1).floodOn - 8) 1)).flooded 1 = true ∧
      (after (.alarmNoticeRaise alarm0) (loaded ((AreaRec.default 1).floodOn - 9) 1)).flooded 1 = false := by
  decide +kernel

/-- R78: the deferred HIGH entry is annunciated at the release, with weight 32. -/
theorem test_release :
    ((after (.releaseTimerExpiry 1) held).entry? 0).map (·.disp) = some .annunciated ∧
      (after (.releaseTimerExpiry 1) held).load 1 = 512 := by decide +kernel

/-! ### Silence and escalation -/

/-- R96: SILENCE TOP takes the alarm out of the station's stack. -/
theorem test_silence : (after (.silenceTop (hdr 1) ⟨0, 0⟩ 0) alarmed).stack 1 = [] := by decide +kernel

/-- R85, R100: at stage 1 a HIGH alarm is URGENT and is at the supervisor's station too. -/
theorem test_escalation :
    ((after (.stage1Expiry 0) alarmed).entry? 0).map (fun e => (e.stage, e.cur)) = some (1, .urgent) ∧
      (after (.stage1Expiry 0) alarmed).stack 3 = [0] := by decide +kernel

/-! ### Overrides -/

/-- R108: a shelf of 65535 s is cut to the area's maximum and the ACTIVE entry is shelved. -/
theorem test_shelve :
    ((after (.shelve (hdr 1) 4095 65535 9 0) alarmed).entry? 0).map (·.disp) = some .shelved ∧
      Answered (after (.shelve (hdr 1) 4095 65535 9 0) alarmed) (hdr 1) (ans .clamped (AreaRec.default 1).shelveMax) := by
  unfold Answered; decide +kernel

/-- R111, R115: UNSHELVE and UNBYPASS free the entry. -/
theorem test_unshelve :
    (after (.unshelve (hdr 1) 4095 0) shelved).overrides = [] ∧ (after (.unbypass (hdr 1) 4095 0) bypassed).overrides = [] := by
  decide +kernel

/-- R116: a shelf ends at its expiry. -/
theorem test_override_expiry : (after (.overrideExpiry 0) shelved).overrides = [] := by decide +kernel

/-! ### The Command Gate -/

/-- R126: tag 2 is blocked while tag 4095 has an ACTIVE alarm of LOW or above, and not under a bypass or without alarm. -/
theorem test_command_blocked :
    (after (.command (hdr 1) 2 1 7#32 0) alarmed).gate.transit = [] ∧
      (after (.command (hdr 1) 2 1 7#32 0) room).gate.transit.length = 1 := by decide +kernel

/-- R121: after 65535 the ticket counter goes on at 1. -/
theorem test_ticket_wraps : nextTicket 65535 = 1 ∧ nextTicket 1 = 2 := by decide

/-- R131: a first BUSY at 100 s: re-send after 250 ms, window of 2 s, deadline moved on to the re-send and the base time of 20
tenths. -/
theorem test_busy :
    (after (.replyBusy 65535 4095) flying).gate.transit.look 65535 = some { flight with
      state := .repeatWait, windowEnd := some 10200, resend := some 10025, deadline := 10225 } := by decide +kernel

/-- R133: at an extension count of 8 EXTEND 3 grants nothing; from 6 it grants two base times. -/
theorem test_extend :
    (after (.replyExtend 65535 4095 3) flying).gate.transit.look 65535 = some flight ∧
      (after (.replyExtend 65535 4095 3) (withTransit { flight with extensions := 6 } room)).gate.transit.look 65535
        = some { flight with extensions := 8, deadline := 10400 } := by decide +kernel

/-- R129: a REPLY for a tag other than the entry's is late. -/
theorem test_late_reply :
    (after (.replyDone 65535 0) flying).gate.counters.late = 1 ∧
      (after (.replyDone 65535 0) flying).gate.transit = flying.gate.transit := by decide +kernel

/-- R144: the second operator's AGREE forwards the waiting command; the originator's own does not. -/
theorem test_agree :
    ((after (.countersignAgree (hdr 2) 65535 0 0) waiting1).gate.transit.look 65535).map (·.state) = some .forwarded ∧
      ((after (.countersignAgree (hdr 1) 65535 0 0) waiting1).gate.transit.look 65535).map (·.state) = some .awaiting := by
  decide +kernel

/-! ### The Handover Controller -/

/-- R154: an OFFER of an area with no work outstanding lists no item. -/
theorem test_offer : ((after (.offer (hdr 1) 1 101 0) room).session? 1).map (·.items.length) = some 0 := by decide +kernel

/-- R158, R159: an ACCEPT before the review is refused, after it the area passes to operator 1. -/
theorem test_accept :
    let unreviewed := withHand (.offered { offer with items := [⟨.standingAlarm ⟨3, 0⟩, some .low, false, false⟩] }) room
    (after (.accept (hdr 2) 1 0) unreviewed).ownerOf 1 = some (0, 1) ∧
      (after (.accept (hdr 2) 1 0) (after (.review (hdr 2) 1 1 1 0) unreviewed)).ownerOf 1 = some (1, 2) := by
  decide +kernel

/-- R160, R161: with a command in flight the owner stays until its DONE, which passes the area. -/
theorem test_quiescing :
    (after (.accept (hdr 2) 1 0) offeredFlying).ownerOf 1 = some (0, 1) ∧
      (after (.replyDone 65535 4095) (after (.accept (hdr 2) 1 0) offeredFlying)).ownerOf 1 = some (1, 2) := by
  decide +kernel

/-- R162, R164: RECALL and the lapse close the offer. -/
theorem test_recall : (after (.recallOffer (hdr 1) 1 0) offered1).hand = [] ∧ (after (.handoverLapse 1) offered1).hand = [] := by
  decide +kernel

/-- R166, R167: the supervisor takes the area at once, or waits for the command in flight. -/
theorem test_takeover :
    (after (.takeover (hdr 3) 1 0) room).ownerOf 1 = some (2, 3) ∧ (after (.takeover (hdr 3) 1 0) flying).ownerOf 1 = some (0, 1) := by
  decide +kernel

/-! ### The order of one event's messages -/

/-- The sorts of a list of messages, with the sort of a NOTICE (R182) and the entry of an ANNOUNCE. -/
def sorts (l : List Out) (st : Nat) : List (Nat × Nat) :=
  l.filterMap (fun o =>
    match o with
    | .console st' _ (.notice n) => if st' = st then some (68, (n.bytes.headD 0).toNat) else none
    | .console st' _ (.announce a) => if st' = st then some (65, a.ref.num) else none
    | .console st' _ m => if st' = st then some (m.kind, 0) else none
    | .plant _ => none)

/-- R23, R36: station 2 covers area 12 again when it comes back; NOTICE AREA goes before NOTICE RESUME. -/
theorem test_resume_after_area :
    (sorts (after (.beat (hdr 2)) (after (.consoleSilenceTimeout 2) room)).sent 2).take 2 = [(68, 4), (68, 2)] := by
  decide +kernel

/-- R59, R62: SERVICE OUT of an overdue entry: OVERDUE ALARM returns before the entry is removed. -/
theorem test_overdue_removed :
    let overdue := after (.stage2Expiry 0) escalated
    (sorts (after (.serviceOut (hdr 3) 1 0) overdue).sent 1).take 2 = [(65, 518), (65, 0)] := by decide +kernel

/-- R166, R163: a TAKEOVER closes the session first: its notice goes before the RESULT of the withdrawn command, and its
incoming station leaves the route before it joins as the owner's, so that an alarm silenced there is presented afresh. -/
theorem test_takeover_closes_first :
    ((sorts (after (.takeover (hdr 3) 1 0) (withHand (.offered offer) waiting1)).sent 1).take 2) = [(68, 14), (67, 0)] ∧
      (after (.takeover (hdr 3) 1 0) silencedIncoming).stack 3 = [0] ∧
      ((after (.takeover (hdr 3) 1 0) silencedIncoming).annRec 0).silenced = [] := by decide +kernel

/-- R134, R136: the loss of the link ends the commands of area 1, which passes, and then that of area 12. -/
theorem test_endings_in_turn :
    let two := { degradedFlying with
      gate := { degradedFlying.gate with transit := [(1, flight), (2, { flight with tag := 2, area := 12 })] }
      hand := [(1, .quiescing { offer with lapse := none })] }
    ((sorts (after .plantDegradedTimeout two).sent 1).filter (fun p => p = (67, 0) ∨ p = (68, 13)))
      = [(67, 0), (68, 13), (67, 0)] := by decide +kernel

/-- R118, R136: an earlier ending's NOTICE OVERRIDE (sort 7) goes after the event's ATTENTION (kind 66), before the link's own
notice (sort 8). -/
theorem test_holder_change_after_attention :
    let two := { degradedFlying with
      gate := { degradedFlying.gate with transit := [(1, flight), (2, { flight with tag := 2, area := 12 })] }
      overrides := shelved.overrides
      hand := [(1, .quiescing { offer with lapse := none })] }
    ((sorts (after .plantDegradedTimeout two).sent 3).filter (fun p => p ∈ [(66, 0), (68, 7), (68, 8)]))
      = [(66, 0), (68, 7), (68, 8)] := by decide +kernel

/-- R53, R62, R73: what a re-decision sets of an UNACKED entry at stage 0 is what stands there, so the entry is not changed by
it. -/
theorem test_redecision_changes_nothing : (alarmed.resetForDecision 0).ev.touched = [] := by decide +kernel

/-- R109: a SUPPRESSED entry that is ACKED already is ACKED by the shelf's holder. -/
theorem test_shelve_suppressed :
    let e := { standing with disp := .suppressed, ack := some ⟨⟨5, 60⟩, 2⟩ }
    ((after (.shelve (hdr 1) 4095 600 9 0) (withAlarm e ⟨[], [], none⟩ room)).entry? 0).map (·.ack)
      = some (some ⟨⟨5, 100⟩, 0⟩) := by decide +kernel

/-- R118, R106: OVERRIDE LIST shows the expiry beside the seconds remaining; 100 s of unit time, seen at 96 s. -/
theorem test_override_list_expiry :
    (({ shelved with time := ⟨9600, ⟨5, 96⟩, false⟩ } : State).overrideViews).map (fun o => (o.expiry, o.remaining))
      = [(10000, 4)] := by decide +kernel

/-- R118, R184: an OVERRIDE LIST of 53 entries carries all fields; one of every entry and a HANDOVER LIST of every item fit
an ANSWER's 1,488 bytes. -/
theorem test_lists_fit :
    let o : OverrideView := ⟨.shelve, 4095, 127, 16, 2 ^ 48 - 1, ⟨65535, 86399⟩, 2 ^ 48 - 1, 255, 65535, 65535⟩
    let x := { offer with items := List.replicate 64 ⟨.bypass 63 4095 255, none, true, true⟩ }
    (Payload.overrideList (List.replicate 53 o)).bytes = byteList (List.replicate 53 o.bytes) ∧
      (Payload.overrideList (List.replicate 53 o)).bytes.length = 1486 ∧
      (Payload.overrideList (List.replicate 64 o)).bytes.length = 1410 ∧
      (Payload.handoverList (.session 2 12 x 65535)).bytes.length = 1112 := by decide +kernel

/-! ### Management, power and the plant link -/

/-- R8: a grace of 65535 s is brought to 600. -/
theorem test_station_write :
    ((after (.stationWrite (hdr 16) 5 (some { rawStation with grace := 65535 }) 0) room).stationRec? 5).map (·.grace)
      = some 600 := by decide +kernel

/-- R12: a level of 0 in the area takes it from the owner, who stays logged on. -/
theorem test_roster_write :
    let t := after (.rosterWrite (hdr 16) 0 (some { rawRoster with badge := 100, levels := levels 0 3 }) 0) room
    t.ownerOf 1 = none ∧ t.logonAt 1 = some 0 := by decide +kernel

/-- R11, R148: one write sets two areas to 0; their waiting commands end in ticket order, 5 of area 12 before 7 of area 1. -/
theorem test_roster_tickets :
    let s := { room with
      auth := { room.auth with owner := [(1, (0, 1)), (12, (0, 1))], cover := [] }
      gate := { room.gate with transit := [(5, { awaitingSign with area := 12 }), (7, awaitingSign)] } }
    (after (.rosterWrite (hdr 16) 0 (some { rawRoster with badge := 100, levels := levels 0 0 }) 0) s).sent.filterMap
      (fun o => match o with | .console _ _ (.result k _ _ _ _ _) => some k | _ => none) = [5, 7] := by decide +kernel

/-- R187: SET CLOCK refuses second 86400. -/
theorem test_set_clock :
    (after (.setClock (hdr 16) ⟨6, 86400⟩ 0) room).time.mill = ⟨5, 100⟩ ∧
      (after (.setClock (hdr 16) ⟨6, 86399⟩ 0) room).time.mill = ⟨6, 86399⟩ := by decide +kernel

/-- R18: a verified STORE clears the store activity; the image agrees with its CRC. -/
theorem test_store :
    (after (.storeComplete true) storing).store.job = none ∧ (after (.storeComplete true) storing).store.image.tables = room.tables := by
  decide +kernel

/-- R20: power lost in the read-back of a STORE leaves the new image; nothing runs. -/
theorem test_power_loss :
    (after (.powerLoss .readBack) storing).store.image.tables = room.tables ∧
      (after (.powerLoss .readBack) storing).running = false ∧ (after (.resetAssert .readBack) storing).running = false := by
  decide +kernel

/-- R189: power coming up while RESET is held starts nothing; RESET released without power starts nothing. -/
theorem test_power_up :
    (after (.powerUp ⟨true, false, false, true⟩) { room with pins := ⟨false, true, 0⟩ }).running = false ∧
      (after (.resetDeassert ⟨true, false, false, true⟩) { room with pins := ⟨false, true, 0⟩ }).pins.reset = false := by
  decide +kernel

/-- R188: RESTART keeps the tables and the resync number. -/
theorem test_restart :
    (after (.restart (hdr 16)) alarmed).tables = room.tables ∧ (after (.restart (hdr 16)) alarmed).plant.resync = 65535 ∧
      (after (.restart (hdr 16)) alarmed).entry? 0 = none := by decide +kernel

/-- R171, R172: silence makes the link DEGRADED, a frame brings it back. -/
theorem test_plant_watch :
    (after .plantSilenceTimeout room).plant.link = .degraded ∧
      (after .plantBeat (after .plantSilenceTimeout room)).plant.link = .up := by decide +kernel

/-- R136, R173: 5 s in DEGRADED lose the link and the command in flight. -/
theorem test_plant_loss :
    (after .plantDegradedTimeout degradedFlying).plant.link = .lost ∧
      (after .plantDegradedTimeout degradedFlying).gate.transit = [] := by decide +kernel

/-- R174, R175: a frame in LOST begins resync 0 after 65535; the matching end brings the link UP. -/
theorem test_resync :
    (after .plantBeat (withLink .lost room)).plant.resync = 0 ∧
      (after (.resyncEnd 0 0) (after .plantBeat (withLink .lost room))).plant.link = .up := by decide +kernel

/-- R176: a gap begins a resync; the same sequence again does not. -/
theorem test_sequence :
    (after (.alarmNoticeRaise { alarm0 with seq := 1 }) room).plant.link = .resync ∧
      (after (.alarmNoticeRaise { alarm0 with seq := 65535 }) room).plant.link = .up := by decide +kernel

/-- R187: midnight after day 65535 is day 0. -/
theorem test_midnight : (after .millTimeAdvance midnight).time.mill = ⟨0, 0⟩ := by decide +kernel

/-- R38: the contact's change starts an interval; the key follows 50 ms later. -/
theorem test_master_key :
    (after (.masterKeyLineChange true) room).auth.key = false ∧ (after .keyAsserted keyed).auth.key = true := by
  decide +kernel

end Sys2Proof.Tests
end

section
/-! PROOFS. The cover scan of R35: what its walk reads, what each of its passes writes, and so the cover station and the
orphan standing it leaves for every area. -/

namespace Sys2Proof.Machine

theorem mem_areaNumbers {a : Nat} : a ∈ areaNumbers ↔ 1 ≤ a ∧ a ≤ 12 := by
  simp [areaNumbers]
  omega

/-! ### What is read of a part that an operation did not touch -/

namespace Touches

variable {l : List Part} {s t : State}

theorem stationRec?_eq (h : Touches l s t) (hl : .stations ∉ l) (st : Nat) : t.stationRec? st = s.stationRec? st :=
  congrArg (Tbl.look · st) (h .stations hl)

theorem permits_eq (h : Touches l s t) (hl : .stations ∉ l) (st a : Nat) : t.permits st a = s.permits st a :=
  congrArg (fun r => (r.map (fun r => decide (a ∈ r.areas))).getD false) (h.stationRec?_eq hl st)

theorem rosterRec?_eq (h : Touches l s t) (hl : .roster ∉ l) (op : Nat) : t.rosterRec? op = s.rosterRec? op :=
  congrArg (Tbl.look · op) (h .roster hl)

theorem levelOf_eq (h : Touches l s t) (hl : .roster ∉ l) (op a : Nat) : t.levelOf op a = s.levelOf op a := by
  rw [State.levelOf, State.levelOf, h.rosterRec?_eq hl]

theorem areaRec_eq (h : Touches l s t) (hl : .areas ∉ l) (a : Nat) : t.areaRec a = s.areaRec a :=
  congrArg (Tbl.getD · a (AreaRec.default a)) (h .areas hl)

theorem isUp_eq (h : Touches l s t) (hl : .link ∉ l) (st : Nat) : t.isUp st = s.isUp st :=
  congrArg (fun k : Tbl LinkState => decide (k.getD st .absent = .up)) (h .link hl)

theorem logonAt_eq (h : Touches l s t) (hl : .logon ∉ l) (st : Nat) : t.logonAt st = s.logonAt st :=
  congrArg (Tbl.look · st) (h .logon hl)

theorem ownerOf_eq (h : Touches l s t) (hl : .owner ∉ l) (a : Nat) : t.ownerOf a = s.ownerOf a :=
  congrArg (Tbl.look · a) (h .owner hl)

theorem coverOf_eq (h : Touches l s t) (hl : .cover ∉ l) (a : Nat) : t.coverOf a = s.coverOf a :=
  congrArg (Tbl.look · a) (h .cover hl)

theorem isOrphan_eq (h : Touches l s t) (hl : .orphans ∉ l) (a : Nat) : t.isOrphan a = s.isOrphan a :=
  congrArg (fun o : NSet => decide (a ∈ o)) (h .orphans hl)

theorem inService_eq (h : Touches l s t) (hl : .outAreas ∉ l) (a : Nat) : t.inService a = s.inService a :=
  congrArg (fun o : NSet => decide (a ∉ o)) (h .outAreas hl)

end Touches

namespace State

/-! ### What the walk reads -/

/-- The four conditions of R35. -/
theorem covers_iff (s : State) (a st : Nat) :
    s.covers a st = true ↔ (s.stationRec? st).isSome = true ∧ s.isUp st = true ∧
      (∃ op, s.logonAt st = some op ∧ 1 ≤ s.levelOf op a) ∧ s.permits st a = true := by
  unfold covers
  split <;> simp_all [and_assoc]

/-- The parts that the cover walk reads. The cover stations are not among them: the former cover does not enter. -/
def walkParts : List Part := [.stations, .areas, .roster, .link, .logon, .owner]

theorem coverWalk_of_touches {s t : State} {l : List Part} (h : Touches l s t) (hl : ∀ p ∈ walkParts, p ∉ l)
    (a : Nat) : t.coverWalk a = s.coverWalk a := by
  have walked : t.covers a = s.covers a := by
    funext st
    rw [Bool.eq_iff_iff, covers_iff, covers_iff, h.stationRec?_eq (hl _ (by decide)), h.isUp_eq (hl _ (by decide)),
      h.logonAt_eq (hl _ (by decide)), h.permits_eq (hl _ (by decide))]
    simp only [h.levelOf_eq (hl _ (by decide))]
  rw [coverWalk, coverWalk, h.ownerOf_eq (hl _ (by decide)), h.areaRec_eq (hl _ (by decide)), walked]

/-! ### What each pass writes -/

theorem coverOf_setCover (s : State) (a b : Nat) :
    (s.setCover a).coverOf b = if b = a then s.coverWalk a else s.coverOf b := by
  unfold setCover
  dsimp only
  split
  case isTrue unchanged =>
    split
    · subst_vars; exact unchanged
    · rfl
  case isFalse =>
    cases s.coverWalk a with
    | none => exact Tbl.look_del _ _ _
    | some st => exact Tbl.look_put _ _ _ _

/-- The walk does not read what `setCover` writes, so the pass gives each area the walk of the state before. -/
theorem coverOf_foldl_setCover (as : List Nat) (s : State) (b : Nat) :
    (as.foldl setCover s).coverOf b = if b ∈ as then s.coverWalk b else s.coverOf b := by
  induction as generalizing s with
  | nil => rfl
  | cons a as ih =>
    have walk : (s.setCover a).coverWalk b = s.coverWalk b :=
      coverWalk_of_touches (s.setCover_touches a) (by decide) b
    rw [List.foldl_cons, ih, walk, coverOf_setCover]
    by_cases hb : b = a
    · subst hb; simp
    · simp [hb]

theorem foldl_setCover_touches (as : List Nat) (s : State) : Touches [.cover] s (as.foldl setCover s) :=
  Touches.foldl (fun s a => s.setCover_touches a) as s

theorem isOrphan_setOrphans (s : State) {a : Nat} (h1 : 1 ≤ a) (h12 : a ≤ 12) :
    s.setOrphans.isOrphan a = true ↔ s.ownerOf a = none ∧ s.inService a = true ∧ s.coverOf a = none := by
  simp [isOrphan, mem_areaNumbers, h1, h12, orphanNow, and_assoc]

/-- What a scan does once the cover stations and orphans stand: NOTICE AREA, routes, ORPHAN AREA (R36, R37, R87). -/
theorem coverScan_touches_setOrphans (s : State) :
    Touches (.said .notice :: sysParts) (areaNumbers.foldl setCover s).setOrphans s.coverScan :=
  .after (sysFollow_touches _ 516 _ _ _) (by decide) (.after (reroute_touches _) (by decide)
    ((sayAreas_touches _).mono (by decide)))

/-! ### What a scan leaves -/

theorem coverOf_coverScan_eq_foldl (s : State) (a : Nat) :
    s.coverScan.coverOf a = (areaNumbers.foldl setCover s).coverOf a :=
  (s.coverScan_touches_setOrphans.coverOf_eq (by decide) a).trans
    ((setOrphans_touches _).coverOf_eq (by decide) a)

theorem coverOf_coverScan (s : State) {a : Nat} (h1 : 1 ≤ a) (h12 : a ≤ 12) :
    s.coverScan.coverOf a = s.coverWalk a := by
  rw [coverOf_coverScan_eq_foldl, coverOf_foldl_setCover, if_pos (mem_areaNumbers.mpr ⟨h1, h12⟩)]

theorem isOrphan_coverScan (s : State) {a : Nat} (h1 : 1 ≤ a) (h12 : a ≤ 12) :
    s.coverScan.isOrphan a = true ↔ s.ownerOf a = none ∧ s.inService a = true ∧ s.coverScan.coverOf a = none := by
  have pass := s.foldl_setCover_touches areaNumbers
  rw [s.coverScan_touches_setOrphans.isOrphan_eq (by decide), isOrphan_setOrphans _ h1 h12,
    pass.ownerOf_eq (by decide), pass.inService_eq (by decide), coverOf_coverScan_eq_foldl]

end State

end Sys2Proof.Machine

open Sys2Proof.Machine.State in
/-- Settles O20: a scan leaves each area the cover station of its walk, and the orphan set as these give it. -/
theorem coverScanWalksFallback : Obligations.CoverScanWalksFallback := by
  unfold Obligations.CoverScanWalksFallback
  intro s a h1 h12
  refine ⟨?_, s.isOrphan_coverScan h1 h12, s.coverScan_touches⟩
  rw [s.coverOf_coverScan h1 h12, coverWalk]
  congr 2
  funext st
  rw [Bool.eq_iff_iff, covers_iff]
  simp [and_assoc]
end

section
/-! PROOFS. An extension of a reply deadline (R133): what the Gate makes of a REPLY EXTEND that matches its entry, what a
frame on a standing link leaves alone, and what the end of an event says when nothing was noted in it. -/

namespace Sys2Proof.Machine

/-- R133: the entry once an extension of `n` is taken, `base` being its tag's base time: what is left of eight extensions
bounds what is granted. -/
def Transit.extendedBy (x : Transit) (n base : Nat) : Transit :=
  { x with
    deadline := x.deadline + min n (8 - x.extensions) * base
    extensions := x.extensions + min n (8 - x.extensions) }

theorem Transit.extendedBy_of_exhausted {x : Transit} (h : 8 ≤ x.extensions) (n base : Nat) :
    x.extendedBy n base = x := by
  simp [extendedBy, Nat.sub_eq_zero_of_le h]

/-! ### What is read of a part that an operation did not touch -/

namespace Touches

variable {l : List Part} {s t : State}

theorem lookTransit_eq (h : Touches l s t) (hl : .transit ∉ l) (k : Nat) :
    t.gate.transit.look k = s.gate.transit.look k :=
  congrArg (Tbl.look · k) (h .transit hl)

theorem baseTime_eq (h : Touches l s t) (hl : .tags ∉ l) (tag : Nat) : t.baseTime tag = s.baseTime tag :=
  congrArg (fun tags : Tbl TagRec => 10 * ((tags.look tag).map (·.base)).getD 0) (h .tags hl)

end Touches

namespace State

/-! ### The Gate's part -/

theorem replyEntry?_of_look {s : State} {k : Nat} {x : Transit} (h : s.gate.transit.look k = some x)
    (hx : x.state ≠ .awaiting) : s.replyEntry? k x.tag = some x := by
  simp [replyEntry?, h, hx]

theorem extendReply_of_look {s : State} {k : Nat} {x : Transit} (h : s.gate.transit.look k = some x)
    (hx : x.state ≠ .awaiting) (n : Nat) :
    s.extendReply k x.tag n = s.updTransit k (fun _ => x.extendedBy n (s.baseTime x.tag)) := by
  simp [extendReply, replyEntry?_of_look h hx, updTransit, Tbl.upd, h, Transit.extendedBy, Config.maxExtensions]

/-! ### The link's part -/

/-- In UP and RESYNC a frame sets the last-heard time, starts the watch afresh and does nothing else (R170, R171). -/
theorem serveLink_of_standing {s : State} (h : s.plant.link = .up ∨ s.plant.link = .resync) :
    s.serveLink = (s.setPlant (fun p => { p with heard := some s.now })).markSilence := by
  rcases h with h | h <;> simp [serveLink, h]

theorem setPlantHeard_touches (s : State) (x : Option Nat) :
    Touches [.plantHeard] s (s.setPlant (fun p => { p with heard := x })) := by
  intro p hp; cases p <;> first | rfl | exact ⟨rfl, rfl⟩ | exact absurd (by decide) hp

theorem serveLink_touches_of_standing {s : State} (h : s.plant.link = .up ∨ s.plant.link = .resync) :
    Touches [.plantHeard, .plantMark] s s.serveLink := by
  rw [serveLink_of_standing h]
  exact .after (markSilence_touches _) (by decide) ((s.setPlantHeard_touches _).mono (by decide))

theorem serveLink_ev_of_standing {s : State} (h : s.plant.link = .up ∨ s.plant.link = .resync) :
    s.serveLink.ev = s.ev := by
  rw [serveLink_of_standing h]; simp

/-! ### The end of an event in which nothing was noted -/

theorem finish_sent_of_quiet {s : State} (h : s.ev = EvBuf.empty) :
    s.finish.sent = s.sent ++ s.reroute.refillAll.attentions := by
  simp [finish, announces, updateNotices, h, EvBuf.empty]

/-- With nothing noted there is no entry to ANNOUNCE and no NOTICE to send: an ATTENTION that was due is all that is said. -/
theorem finish_touches_of_quiet {s : State} (h : s.ev = EvBuf.empty) :
    Touches [.recs, .attnStacks, .shown, .unitAlarm, .said .attention] s s.finish := by
  intro p hp
  cases p with
  | said k =>
    have attended : s.reroute.refillAll.attentions.filter (fun o => decide (o.kind = k)) = [] :=
      filter_kind_nil (fun o ho e => hp (by simp [← e, kind_attentions _ o ho]))
    have emptied : s.finish.ev = EvBuf.empty := rfl
    simp [Part.same, saidOf, finish_sent_of_quiet h, emptied, h, EvBuf.empty, attended]
  | _ => exact s.finish_touches _ (fun ending => hp (by revert ending; decide))

/-! ### The two commands -/

theorem plantEvent_of_running {s : State} (h : s.running = true) (f : State → State) :
    plantEvent f s = .next (f s.fresh).finish := by
  simp [plantEvent, event, h]

theorem exec_replyExtend {s : State} (h : s.running = true) (k tag : Nat) {n : Nat} (h1 : 1 ≤ n) (h3 : n ≤ 3) :
    exec (.replyExtend k tag n) s = .next (s.fresh.serveLink.extendReply k tag n).finish := by
  have sound : replyFaulty 4 0 n = false := by simp [replyFaulty]; omega
  calc exec (.replyExtend k tag n) s
      = .next (s.fresh.replyFrame k tag 4 0 n).finish :=
          plantEvent_of_running h (fun s => s.replyFrame k tag 4 0 n)
    _ = .next (s.fresh.serveLink.extendReply k tag n).finish := by simp [replyFrame, sound, takeReply]

/-- R133: HOLD ON is taken as EXTEND 1. -/
theorem exec_replyHoldOn {s : State} (h : s.running = true) (k tag : Nat) :
    exec (.replyHoldOn k tag) s = .next (s.fresh.serveLink.extendReply k tag 1).finish := by
  have sound : replyFaulty 5 0 0 = false := by decide
  calc exec (.replyHoldOn k tag) s
      = .next (s.fresh.replyFrame k tag 5 0 0).finish :=
          plantEvent_of_running h (fun s => s.replyFrame k tag 5 0 0)
    _ = .next (s.fresh.serveLink.extendReply k tag 1).finish := by simp [replyFrame, sound, takeReply]

/-! ### What an extension leaves -/

section

variable {s : State} {k : Nat} {x : Transit} (look : s.gate.transit.look k = some x) (flying : x.state ≠ .awaiting)
include look flying

theorem serveLink_extendReply_of_look (n : Nat) :
    s.serveLink.extendReply k x.tag n =
      s.serveLink.updTransit k (fun _ => x.extendedBy n (s.baseTime x.tag)) := by
  have served := s.serveLink_touches
  rw [extendReply_of_look ((served.lookTransit_eq (by decide) k).trans look) flying,
    served.baseTime_eq (by decide)]

theorem lookTransit_extension (n j : Nat) :
    (s.serveLink.extendReply k x.tag n).finish.gate.transit.look j =
      if j = k then some (x.extendedBy n (s.baseTime x.tag)) else s.gate.transit.look j := by
  have served := s.serveLink_touches
  rw [(finish_touches _).lookTransit_eq (by decide), serveLink_extendReply_of_look look flying,
    updTransit_transit, Tbl.look_upd, served.lookTransit_eq (by decide), served.lookTransit_eq (by decide), look]
  rfl

theorem extension_touches (n : Nat) :
    Touches (.transit :: plantArrivalParts) s (s.serveLink.extendReply k x.tag n).finish := by
  rw [serveLink_extendReply_of_look look flying]
  exact .after (finish_touches _) (by decide) (.after (updTransit_touches _ _ _) (by decide)
    (s.serveLink_touches.mono (by decide)))

/-- On a standing link, and with nothing noted before it, an extension says nothing of its own. -/
theorem extension_touches_of_standing (standing : s.plant.link = .up ∨ s.plant.link = .resync)
    (quiet : s.ev = EvBuf.empty) (n : Nat) :
    Touches [.transit, .plantHeard, .plantMark, .recs, .attnStacks, .shown, .unitAlarm, .said .attention] s
      (s.serveLink.extendReply k x.tag n).finish := by
  rw [serveLink_extendReply_of_look look flying]
  have stillQuiet : s.serveLink.ev = EvBuf.empty := (serveLink_ev_of_standing standing).trans quiet
  exact .after (finish_touches_of_quiet stillQuiet) (by decide) (.after (updTransit_touches _ _ _) (by decide)
    ((serveLink_touches_of_standing standing).mono (by decide)))

end

end State

end Sys2Proof.Machine

open Sys2Proof.Machine Sys2Proof.Machine.State in
/-- Settles O43: both commands take the same extension, EXTEND with its own number and HOLD ON with 1. -/
theorem extensionMovesDeadline : Obligations.ExtensionMovesDeadline := by
  unfold Obligations.ExtensionMovesDeadline
  intro s k n x running look flying h1 h3 granted extended
  have taken (m : Nat) : extended m (s.fresh.serveLink.extendReply k x.tag m).finish := by
    have after (j : Nat) := lookTransit_extension (s := s.fresh) look flying m j
    have entry := (after k).trans (if_pos rfl)
    refine ⟨entry, fun used => ?_, fun j other => (after j).trans (if_neg other),
      fun standing => extension_touches_of_standing (s := s.fresh) look flying standing rfl m,
      extension_touches (s := s.fresh) look flying m⟩
    rw [entry, Transit.extendedBy_of_exhausted used]
  exact ⟨⟨_, exec_replyExtend running k x.tag h1 h3, taken n⟩, ⟨_, exec_replyHoldOn running k x.tag, taken 1⟩⟩
end

section
/-! PROOFS. The shape of a command: what each way of taking one comes to while the unit runs, and so what every command
leaves alone. -/

namespace Sys2Proof.Machine

/-! ### The ways of taking a command -/

section

variable {s : State} (on : s.running = true)
include on

theorem event_of_running (f : State → State) : event f s = .next (f s.fresh) := by simp [event, on]

theorem timerEvent_of_due {due : State → Bool} (h : due s.fresh = true) (f : State → State) :
    timerEvent due f s = .next (f s.fresh).finish := by
  rw [timerEvent, event_of_running on, if_pos h]

theorem timerEvent_of_not_due {due : State → Bool} (h : due s.fresh = false) (f : State → State) :
    timerEvent due f s = .next s.fresh := by
  rw [timerEvent, event_of_running on, if_neg (by simp [h])]

end

theorem event_of_off {s : State} (off : s.running = false) (f : State → State) : event f s = .next s.fresh := by
  simp [event, off]

/-- R189: of the command's two outcomes, one is the event's own. -/
theorem event_cases (f : State → State) (s : State) :
    event f s = .next s.fresh ∧ s.running = false ∨ event f s = .next (f s.fresh) ∧ s.running = true := by
  cases h : s.running
  · exact .inl ⟨event_of_off h f, rfl⟩
  · exact .inr ⟨event_of_running h f, rfl⟩

/-! ### Frames at Port A -/

namespace State

/-- R183: a frame is a stranger's and is counted, or it is admitted. -/
theorem receive_cases (s : State) (h : Hdr) (f : State → State) :
    (∃ c, s.receive h f = s.countA c) ∨ s.receive h f = f (s.admitFrame h.station) := by
  unfold receive
  split
  · exact .inl ⟨_, rfl⟩
  · split
    · exact .inl ⟨_, rfl⟩
    · exact .inr rfl

theorem receive_of_unknown {s : State} {h : Hdr}
    (unknown : h.station < 1 ∨ 16 < h.station ∨ s.stationRec? h.station = none) (f : State → State) :
    s.receive h f = s.countA (fun c => { c with unknown := bump c.unknown }) := by
  have absent : (if 1 ≤ h.station ∧ h.station ≤ 16 then s.stationRec? h.station else none) = none := by
    split
    · rcases unknown with h | h | h
      · omega
      · omega
      · exact h
    · rfl
  simp only [receive, absent]

theorem receive_of_present {s : State} {h : Hdr} {r : StationRec} (low : 1 ≤ h.station) (high : h.station ≤ 16)
    (present : s.stationRec? h.station = some r) (f : State → State) :
    s.receive h f = if r.addr ≠ h.src then s.countA (fun c => { c with mismatch := bump c.mismatch })
      else f (s.admitFrame h.station) := by
  simp only [receive, if_pos (And.intro low high), present]

/-- Where an event starts with nothing half done, its frame leaves nothing half done: a change of link state ends an event
of its own (R23). -/
theorem serveWatch_ev {s : State} (quiet : s.ev = EvBuf.empty) (st : Nat) : (s.serveWatch st).ev = EvBuf.empty := by
  unfold serveWatch
  dsimp only
  split
  · exact quiet
  · rfl
  · rfl

theorem serveRestarted_ev (s : State) (st : Nat) : (s.serveRestarted st).ev = s.ev := by
  unfold serveRestarted
  split <;> rfl

theorem admitFrame_ev {s : State} (quiet : s.ev = EvBuf.empty) (st : Nat) : (s.admitFrame st).ev = EvBuf.empty :=
  (serveRestarted_ev _ st).trans (serveWatch_ev (s := s.countA _) quiet st)

theorem handle_of_changes {s u : State} {h : Hdr} {f : State → State × Ans} {a : Ans} (taken : f s = (u, a))
    (changes : a.code.changes = true) : s.handle h f = u.finish.answer h a := by
  simp [handle, taken, changes]

theorem handle_of_unchanged {s u : State} {h : Hdr} {f : State → State × Ans} {a : Ans} (taken : f s = (u, a))
    (changes : a.code.changes = false) : s.handle h f = u.answer h a := by
  simp [handle, taken, changes]

theorem handle_cases (s : State) (h : Hdr) (f : State → State × Ans) :
    (s.handle h f = (f s).1.finish.answer h (f s).2 ∧ (f s).2.code.changes = true) ∨
      (s.handle h f = (f s).1.answer h (f s).2 ∧ (f s).2.code.changes = false) := by
  cases changes : (f s).2.code.changes
  · exact .inr ⟨handle_of_unchanged rfl changes, rfl⟩
  · exact .inl ⟨handle_of_changes rfl changes, rfl⟩

end State

theorem receive_of_accepted {s : State} {h : Hdr} (accepted : Accepted s h) (f : State → State) :
    s.fresh.receive h f = f (arrived s h) := by
  obtain ⟨-, low, high, addr⟩ := accepted
  obtain ⟨r, present, same⟩ := Option.map_eq_some_iff.mp addr
  rw [State.receive_of_present low high (s := s.fresh) (r := r) present, if_neg (by simp [same])]
  rfl

theorem request_of_taken {s : State} {h : Hdr} (taken : Taken s h) (f : State → State) :
    s.fresh.request h f = f (arrived s h) := by
  rw [State.request, receive_of_accepted taken.1, if_neg (by simp [taken.2])]

theorem requestEvent_of_taken {s : State} {h : Hdr} (taken : Taken s h) (f : State → State × Ans) :
    requestEvent h f s = .next ((arrived s h).handle h f) := by
  rw [requestEvent, event_of_running taken.1.1, request_of_taken taken]

/-- R184: a request that is carried out: its effect, the end of its event, and its ANSWER. -/
theorem requestEvent_of_done {s u : State} {h : Hdr} {f : State → State × Ans} {a : Ans} (taken : Taken s h)
    (done : f (arrived s h) = (u, a)) (changes : a.code.changes = true) :
    requestEvent h f s = .next (u.finish.answer h a) := by
  rw [requestEvent_of_taken taken, State.handle_of_changes done changes]

theorem requestEvent_of_refused {s : State} {h : Hdr} {f : State → State × Ans} {a : Ans} (taken : Taken s h)
    (refused : f (arrived s h) = (arrived s h, a)) (unchanged : a.code.changes = false) :
    requestEvent h f s = .next ((arrived s h).answer h a) := by
  rw [requestEvent_of_taken taken, State.handle_of_unchanged refused unchanged]

theorem askEvent_of_taken {s : State} {h : Hdr} (taken : Taken s h) (f : State → Ans) :
    askEvent h f s = .next ((arrived s h).answer h (f (arrived s h))) := by
  rw [askEvent, event_of_running taken.1.1, request_of_taken taken]

theorem answered_answer (s : State) (h : Hdr) (a : Ans) : Answered (s.answer h a) h a := by simp [Answered]

/-- What the end of a request's event and its ANSWER touch. -/
theorem State.finish_answer_touches (s : State) (h : Hdr) (a : Ans) :
    Touches (.said .answer :: endParts) s (s.finish.answer h a) :=
  .after (State.answer_touches _ h a) (by decide) (s.finish_touches.mono (by decide))

theorem arrived_touches (s : State) (h : Hdr) : Touches arrivalParts s.fresh (arrived s h) :=
  s.fresh.admitFrame_touches h.station

theorem arrived_ev (s : State) (h : Hdr) : (arrived s h).ev = EvBuf.empty := State.admitFrame_ev rfl h.station

/-! ### What each way of taking a command touches -/

/-- The command is taken and touches no part but those listed. -/
def KeepsTo (l : List Part) (s : State) (o : Host.Outcome State Fault Refusal) : Prop :=
  ∃ t, o = .next t ∧ Touches l s.fresh t

theorem keepsTo_event {l : List Part} {f : State → State} (h : ∀ s, Touches l s (f s)) (s : State) :
    KeepsTo l s (event f s) := by
  rcases event_cases f s with ⟨off, -⟩ | ⟨on, -⟩
  · exact ⟨_, off, .refl _ _⟩
  · exact ⟨_, on, h _⟩

theorem State.receive_touches {l : List Part} {f : State → State} (hl : arrivalParts ⊆ l) (h : ∀ s, Touches l s (f s))
    (s : State) (hd : Hdr) : Touches l s (s.receive hd f) := by
  rcases s.receive_cases hd f with ⟨c, stranger⟩ | admitted
  · rw [stranger]
    exact (s.countA_touches c).mono (List.Subset.trans (by decide) hl)
  · rw [admitted]
    exact ((s.admitFrame_touches hd.station).mono hl).trans (h _)

theorem State.request_touches {l : List Part} {f : State → State} (hl : requestParts ⊆ l)
    (h : ∀ s, Touches l s (f s)) (s : State) (hd : Hdr) : Touches l s (s.request hd f) :=
  State.receive_touches (List.Subset.trans (by decide) hl)
    (fun s => .ite ((s.answer_touches hd _).mono (List.Subset.trans (by decide) hl)) (h s)) s hd

theorem State.handle_touches {l : List Part} {f : State → State × Ans} (hl : requestParts ⊆ l)
    (h : ∀ s, Touches l s (f s).1) (s : State) (hd : Hdr) : Touches l s (s.handle hd f) := by
  rcases s.handle_cases hd f with ⟨done, -⟩ | ⟨refused, -⟩
  · rw [done]
    exact (h s).trans ((State.finish_answer_touches _ hd _).mono (List.Subset.trans (by decide) hl))
  · rw [refused]
    exact (h s).trans ((State.answer_touches _ hd _).mono (List.Subset.trans (by decide) hl))

theorem keepsTo_requestEvent {l l' : List Part} {h : Hdr} {f : State → State × Ans} (hf : ∀ s, Touches l s (f s).1)
    (s : State) (hl : l ⊆ l') (hr : requestParts ⊆ l') : KeepsTo l' s (requestEvent h f s) :=
  keepsTo_event (fun s => State.request_touches hr
    (fun s => State.handle_touches hr (fun s => (hf s).mono hl) s h) s h) s

theorem keepsTo_askEvent (h : Hdr) (f : State → Ans) (s : State) : KeepsTo requestParts s (askEvent h f s) :=
  keepsTo_event (fun s => State.request_touches (List.Subset.refl _)
    (fun s => (s.answer_touches h _).mono (by decide)) s h) s

theorem keepsTo_plantEvent {l l' : List Part} {f : State → State} (h : ∀ s, Touches l s (f s)) (s : State)
    (hl : l ⊆ l') (he : endParts ⊆ l') : KeepsTo l' s (plantEvent f s) :=
  keepsTo_event (fun s => ((h s).mono hl).trans ((State.finish_touches _).mono he)) s

theorem keepsTo_timerEvent {l l' : List Part} {due : State → Bool} {f : State → State} (h : ∀ s, Touches l s (f s))
    (s : State) (hl : l ⊆ l') (he : endParts ⊆ l') : KeepsTo l' s (timerEvent due f s) :=
  keepsTo_event (fun s => .ite (((h s).mono hl).trans ((State.finish_touches _).mono he)) (.refl _ s)) s

end Sys2Proof.Machine

/-- Settles O1: the front of the queue is what `step` takes. -/
theorem stepRunsFrontCommand : Obligations.StepRunsFrontCommand := by
  unfold Obligations.StepRunsFrontCommand
  intro c rest s front
  simp only [Sys2Proof.Machine.step, front]
end

section
/-! PROOFS. What every command touches: the footprint of each row. -/

namespace Sys2Proof.Machine

namespace State

/-! ### Start-up says nothing: no station is UP (R189) -/

theorem upStations_of_link_nil {s : State} (deaf : s.console.link = []) : s.upStations = [] := by
  have absent : ∀ st, s.isUp st = false := fun st => by simp [isUp, State.link, deaf, Tbl.getD]
  simp [upStations, absent]

theorem toUp_of_link_nil {s : State} (deaf : s.console.link = []) (n : Notice) : s.toUp n = [] := by
  simp [toUp, upStations_of_link_nil deaf]

theorem heardBy_of_link_nil {s : State} (deaf : s.console.link = []) (st : Nat) (m : ConsoleMsg) :
    s.heardBy st m = [] := by simp [heardBy, State.link, deaf, Tbl.getD]

theorem say_nil (s : State) : s.say [] = s := by simp [say]

theorem areaNotices_of_link_nil {s : State} (deaf : s.console.link = []) : s.areaNotices = [] := by
  simp [areaNotices, toUp_of_link_nil deaf]

theorem sayAreas_touches_of_link_nil {s : State} (deaf : s.console.link = []) : Touches [] s s.sayAreas := by
  unfold sayAreas
  rw [areaNotices_of_link_nil deaf, say_nil]
  intro p _
  cases p <;> first | rfl | exact ⟨rfl, rfl⟩

/-- What a cover scan touches where no station hears it. -/
def unheardParts : List Part := [.cover, .orphans] ++ sysParts

theorem coverScan_touches_of_link_nil {s : State} (deaf : s.console.link = []) :
    Touches unheardParts s s.coverScan := by
  have scanned : Touches unheardParts s (areaNumbers.foldl setCover s).setOrphans :=
    .after (setOrphans_touches _) (by decide) (.foldl (fun s a => (s.setCover_touches a).mono (by decide)) _ s)
  have unsaid := sayAreas_touches_of_link_nil ((scanned .link (by decide)).trans deaf)
  exact .after (sysFollow_touches _ 516 _ _ _) (by decide) (.after (reroute_touches _) (by decide)
    (.after unsaid (by simp) scanned))

theorem startUpAlarms_touches_of_link_nil {s : State} (deaf : s.console.link = []) :
    Touches unheardParts s s.startUpAlarms := by
  have scanned := coverScan_touches_of_link_nil deaf
  have stored : Touches unheardParts s (if s.coverScan.store.fault then s.coverScan.sysRaise 520 .none else s.coverScan) :=
    .ite (.after (sysRaise_touches _ 520 _) (by decide) scanned) scanned
  exact .ite (.after (sysRaise_touches _ 519 _) (by decide) stored) stored

theorem unsaid_iff {s : State} : (∀ k, s.saidOf k = []) ↔ s.sent = [] ∧ s.ev.pre = [] ∧ s.ev.post = [] := by
  constructor
  · intro unsaid
    have none : s.sent ++ s.ev.pre ++ s.ev.post = [] := by
      refine List.eq_nil_iff_forall_not_mem.mpr (fun o ho => ?_)
      have : o ∈ s.saidOf o.kind := List.mem_filter.mpr ⟨ho, by simp⟩
      simp [unsaid] at this
    simpa [and_assoc] using none
  · rintro ⟨sent, pre, post⟩ k
    simp [saidOf, sent, pre, post]

theorem finish_sent_of_link_nil {s : State} (deaf : s.console.link = []) (unsaid : ∀ k, s.saidOf k = []) :
    s.finish.sent = [] := by
  obtain ⟨sent, pre, post⟩ := unsaid_iff.mp unsaid
  have ends : Touches [.recs, .attnStacks] s s.reroute.refillAll :=
    .after (refillAll_touches _) (by decide) (s.reroute_touches.mono (by decide))
  have down : ∀ st, s.reroute.refillAll.isUp st = false := fun st => by
    rw [ends.isUp_eq (by decide)]; simp [isUp, State.link, deaf, Tbl.getD]
  have updates : s.updateNotices = [] := by
    simp only [updateNotices, List.flatMap_eq_nil_iff]
    intro a _
    split
    · rfl
    · exact heardBy_of_link_nil deaf _ _
  simp [finish, sent, pre, post, announces, upStations_of_link_nil deaf, attentions, attentionDue, down, updates]

/-- The state that start-up makes before its cover scan (R189). -/
def woken (s : State) (p : Straps) : State :=
  { s.dark true false s.store.image with
    pins := ⟨true, false, strapValue p⟩
    tables := (loaded s.store.image).1
    store := ⟨none, (loaded s.store.image).2, s.store.image, s.store.misreads⟩ }

theorem startUp_eq (s : State) (p : Straps) : s.startUp p = (s.woken p).startUpAlarms.finish := rfl

theorem startUp_touches_woken (s : State) (p : Straps) : Touches (coverParts ++ endParts) (s.woken p) (s.startUp p) :=
  .after (finish_touches _) (by decide) ((startUpAlarms_touches _).mono (by decide))

theorem startUp_sent (s : State) (p : Straps) : (s.startUp p).sent = [] := by
  have alarmed := startUpAlarms_touches_of_link_nil (s := s.woken p) rfl
  rw [startUp_eq]
  refine finish_sent_of_link_nil (alarmed .link (by decide)) (fun k => ?_)
  exact alarmed (.said k) (by simp [unheardParts, sysParts])

/-! ### The footprints of power and RESET -/

theorem dark_touches (s : State) (power reset : Bool) (image : Image) :
    Touches startParts s.fresh (s.dark power reset image) := by
  intro p hp
  cases p <;> first | rfl | exact absurd (by decide) hp

theorem woken_touches (s : State) (p : Straps) : Touches startParts s.fresh (s.woken p) := by
  intro p hp
  cases p <;> first | rfl | exact absurd (by decide) hp

theorem startUp_touches (s : State) (p : Straps) : Touches startParts s.fresh (s.startUp p) := by
  intro q hq
  cases q with
  | said k =>
    have unsaid : (s.startUp p).saidOf k = [] := unsaid_iff.mpr ⟨s.startUp_sent p, rfl, rfl⟩ k
    exact unsaid.trans (unsaid_iff.mpr ⟨rfl, rfl, rfl⟩ k).symm
  | _ =>
    exact Touches.same_trans (s.woken_touches p _ hq)
      (s.startUp_touches_woken p _ (fun h => hq (by revert h; decide)))

theorem powerOn_touches (s : State) (p : Straps) : Touches startParts s.fresh (s.powerOn p) :=
  .ite (s.dark_touches _ _ _) (s.startUp_touches p)

/-! ### The footprint of RESTART (R188) -/

theorem cleared_touches {s : State} (quiet : s.ev = EvBuf.empty) : Touches restartParts s s.cleared := by
  intro p hp
  cases p with
  | said k => simp [Part.same, saidOf, cleared, quiet, EvBuf.empty]
  | _ => first | rfl | exact ⟨rfl, rfl⟩ | exact absurd (by decide) hp

theorem takeRestart_touches {s : State} (quiet : s.ev = EvBuf.empty) (st : Nat) :
    Touches (restartParts ++ requestParts) s (s.takeRestart st).1 := by
  have cleared := (cleared_touches quiet).mono (l' := restartParts ++ requestParts) (by decide)
  unfold takeRestart
  split
  · exact .refl _ s
  · split
    · exact .refl _ s
    · dsimp only
      exact .after (startUpAlarms_touches _) (by decide) cleared

/-! ### The footprints of frames -/

theorem countStranger_touches (s : State) (h : Hdr) : Touches [.countersA] s (s.countStranger h) := by
  unfold countStranger
  split
  · exact s.countA_touches _
  · exact .ite (s.countA_touches _) (.refl _ s)

theorem discardPortA_touches (s : State) (src : LinkAddr) (payload : List Byte) :
    Touches [.countersA] s (s.discardPortA src payload) := by
  unfold discardPortA
  split
  · exact s.countA_touches _
  · exact s.countStranger_touches _

theorem discardPortB_touches (s : State) (payload : List Byte) : Touches [.countersB] s (s.discardPortB payload) := by
  unfold discardPortB
  split
  · exact s.countB_touches _
  · exact .refl _ s

theorem unknownRequest_touches (s : State) (h : Hdr) (r : OddRequest) : Touches requestParts s (s.unknownRequest h r) := by
  have answers (s : State) (a : Ans) : Touches requestParts s (s.answer h a) :=
    (s.answer_touches h a).mono (by decide)
  unfold unknownRequest
  split
  · exact receive_touches (by decide) (fun s => answers s _) s h
  · exact request_touches (List.Subset.refl _) (fun s => answers s _) s h

/-! ### The footprints of frames from the plant, by what they carry -/

theorem noticeFrame_touches_of_faulty {tag cond transition flag rsv : Nat}
    (faulty : noticeFaulty tag cond transition flag rsv = true) (s : State) (seq : Nat) (time : MillTime) :
    Touches (.countersB :: watchParts) s (s.noticeFrame seq tag cond transition flag rsv time) := by
  have content (s : State) : Touches [.countersB] s (s.takeContent tag cond transition flag rsv time) := by
    rw [takeContent, if_pos faulty]
    exact s.countB_touches _
  exact .after (takeSequenced_touches _ seq _ content (by decide)) (by decide) (s.serveLink_touches.mono (by decide))

theorem noticeFrame_return_touches {tag cond flag : Nat} (s : State) (seq : Nat) (time : MillTime) :
    Touches ([.countersB, .discarded, .duplicates] ++ alarmParts ++ watchParts) s
      (s.noticeFrame seq tag cond 2 flag 0 time) := by
  have content (s : State) :
      Touches ([.countersB, .discarded, .duplicates] ++ alarmParts) s (s.takeContent tag cond 2 flag 0 time) :=
    .ite ((s.countB_touches _).mono (by decide)) (s.takeNotice_return_touches tag cond _ time)
  exact .after (takeSequenced_touches _ seq _ content (by decide)) (by decide) (s.serveLink_touches.mono (by decide))

theorem replyFrame_touches_of_faulty {outcome rsv arg : Nat} (faulty : replyFaulty outcome rsv arg = true) (s : State)
    (k tag : Nat) : Touches (.countersB :: watchParts) s (s.replyFrame k tag outcome rsv arg) := by
  rw [replyFrame, if_pos faulty]
  exact .after (countB_touches _ _) (by decide) (s.serveLink_touches.mono (by decide))

theorem replyFrame_touches_of_sound {outcome rsv arg : Nat} (sound : replyFaulty outcome rsv arg = false) (s : State)
    (k tag : Nat) : Touches (.countersG :: endingParts ++ watchParts) s (s.replyFrame k tag outcome rsv arg) := by
  rw [replyFrame, if_neg (by simp [sound])]
  exact .after (takeReply_touches _ _ _ _ _) (by decide) (s.serveLink_touches.mono (by decide))

theorem replyFrame_extend_touches (s : State) (k tag n : Nat) :
    Touches ([.countersG, .transit, .countersB] ++ watchParts) s (s.replyFrame k tag 4 0 n) :=
  .ite (.after (countB_touches _ _) (by decide) (s.serveLink_touches.mono (by decide)))
    (.after (extendReply_touches _ k tag n) (by decide) (s.serveLink_touches.mono (by decide)))

theorem replyFrame_holdOn_touches (s : State) (k tag : Nat) :
    Touches ([.countersG, .transit] ++ watchParts) s (s.replyFrame k tag 5 0 0) := by
  rw [replyFrame, if_neg (by decide)]
  exact .after (extendReply_touches _ k tag 1) (by decide) (s.serveLink_touches.mono (by decide))

end State

theorem keepsTo_restart (h : Hdr) (s : State) : KeepsTo (restartParts ++ requestParts) s (execRestart h s) := by
  rcases event_cases (fun s => s.request h (fun s => s.handle h (fun s => s.takeRestart h.station))) s with
    ⟨off, -⟩ | ⟨on, -⟩
  · exact ⟨_, off, .refl _ _⟩
  · refine ⟨_, on, ?_⟩
    rcases s.fresh.receive_cases h _ with ⟨c, stranger⟩ | admitted
    · rw [State.request, stranger]
      exact (s.fresh.countA_touches c).mono (by decide)
    · rw [State.request, admitted]
      have quiet : (s.fresh.admitFrame h.station).ev = EvBuf.empty := State.admitFrame_ev rfl h.station
      have answered := State.answer_touches (s.fresh.admitFrame h.station) h (ans .reserved)
      have arrival := (s.fresh.admitFrame_touches h.station).mono (l' := restartParts ++ requestParts) (by decide)
      refine arrival.trans (.ite (answered.mono (by decide)) ?_)
      have taken := State.takeRestart_touches quiet h.station
      rcases (s.fresh.admitFrame h.station).handle_cases h (fun s => s.takeRestart h.station) with
        ⟨done, -⟩ | ⟨refused, -⟩
      · rw [done]
        exact taken.trans ((State.finish_answer_touches _ h _).mono (by decide))
      · rw [refused]
        exact taken.trans ((State.answer_touches _ h _).mono (by decide))

theorem keepsTo_malformedContent (c : PlantContent) (s : State) :
    KeepsTo (footprint (.malformedContent c)) s (execMalformedContent c s) := by
  cases c with
  | notice seq tag cond transition flag rsv time =>
    simp only [footprint]
    split
    case isTrue faulty =>
      exact keepsTo_plantEvent (fun s => s.noticeFrame_touches_of_faulty faulty seq time) s (by decide) (by decide)
    case isFalse =>
      exact keepsTo_plantEvent (fun s => s.noticeFrame_touches seq tag cond transition flag rsv time) s (by decide)
        (by decide)
  | reply k tag outcome rsv arg =>
    simp only [footprint]
    split
    case isTrue faulty =>
      exact keepsTo_plantEvent (fun s => s.replyFrame_touches_of_faulty faulty k tag) s (by decide) (by decide)
    case isFalse sound =>
      exact keepsTo_plantEvent (fun s => s.replyFrame_touches_of_sound (by simpa using sound) k tag) s (by decide)
        (by decide)

end Sys2Proof.Machine

open Sys2Proof.Machine in
/-- Settles O3: each row goes through one of the ways of taking a command, with the frame of its own operation. -/
theorem commandsKeepToTheirFootprint : Obligations.CommandsKeepToTheirFootprint := by
  unfold Obligations.CommandsKeepToTheirFootprint
  intro i s
  change KeepsTo (footprint i) s (exec i s)
  cases i with
  | powerUp straps => exact ⟨_, rfl, s.powerOn_touches straps⟩
  | resetAssert moment => exact ⟨_, rfl, s.dark_touches _ _ _⟩
  | resetDeassert straps => exact ⟨_, rfl, .ite (s.startUp_touches straps) (s.dark_touches _ _ _)⟩
  | powerLoss moment => exact ⟨_, rfl, s.dark_touches _ _ _⟩
  | masterKeyLineChange closed => exact ⟨_, rfl, s.fresh.setKeyLine_touches closed⟩
  | keyAsserted =>
    exact keepsTo_timerEvent (l' := .key :: sysParts ++ endParts) (fun s => s.assertKey_touches) s (by decide) (by decide)
  | keyReleased =>
    exact keepsTo_timerEvent (l' := .key :: sysParts ++ endParts) (fun s => s.releaseKey_touches) s (by decide) (by decide)
  | portAFrameDiscarded src payload => exact keepsTo_event (fun s => s.discardPortA_touches src payload) s
  | unknownKind h r => exact keepsTo_event (fun s => s.unknownRequest_touches h r) s
  | beat h => exact keepsTo_event (fun s => s.receive_touches (List.Subset.refl _) (fun s => .refl _ s) h) s
  | consoleSilenceTimeout st =>
    exact keepsTo_timerEvent (due := fun s => s.silenceDue st) (l' := [.link, .grace] ++ coverParts ++ endParts) (fun s => s.stationLost_touches st) s (by decide) (by decide)
  | graceExpiry st =>
    exact keepsTo_timerEvent (due := fun s => s.graceDue st) (l' := [.logon, .grace] ++ endingParts ++ endParts) (fun s => s.graceEnds_touches st) s (by decide) (by decide)
  | logon h badge rsv =>
    exact keepsTo_requestEvent (l' := .logon :: requestParts) (fun s => s.takeLogon_touches _ badge rsv) s (by decide)
      (by decide)
  | logoff h =>
    exact keepsTo_requestEvent (l' := [.logon, .transit, .handover, .said .result] ++ requestParts)
      (fun s => s.takeLogoff_touches _) s (by decide) (by decide)
  | claim h a rsv =>
    exact keepsTo_requestEvent (l' := .owner :: requestParts) (fun s => s.takeClaim_touches _ a rsv) s (by decide)
      (by decide)
  | release h a rsv =>
    exact keepsTo_requestEvent (l' := .owner :: requestParts) (fun s => s.takeRelease_touches _ a rsv) s (by decide)
      (by decide)
  | ack h r rsv =>
    exact keepsTo_requestEvent (l' := [.countersB, .said .relay] ++ alarmParts ++ requestParts)
      (fun s => s.takeAck_touches _ r rsv) s (by decide) (by decide)
  | silenceTop h r rsv =>
    exact keepsTo_requestEvent (l' := requestParts) (fun s => s.takeSilenceTop_touches _ r rsv) s (by decide) (by decide)
  | silenceAll h rsv =>
    exact keepsTo_requestEvent (l' := requestParts) (fun s => s.takeSilenceAll_touches _ rsv) s (by decide) (by decide)
  | serviceOut h a rsv =>
    exact keepsTo_requestEvent (l' := .outAreas :: alarmParts ++ requestParts)
      (fun s => s.takeServiceOut_touches _ a rsv) s (by decide) (by decide)
  | serviceIn h a rsv =>
    exact keepsTo_requestEvent (l' := [.outAreas, .plantResync, .plantExpected, .said .resync] ++ requestParts)
      (fun s => s.takeServiceIn_touches _ a rsv) s (by decide) (by decide)
  | shelve h tag d r rsv =>
    exact keepsTo_requestEvent (l' := .overrides :: alarmParts ++ requestParts)
      (fun s => s.takeOverride_touches .shelve _ tag d r rsv) s (by decide) (by decide)
  | unshelve h tag rsv =>
    exact keepsTo_requestEvent (l' := .overrides :: alarmParts ++ requestParts)
      (fun s => s.takeEnding_touches .shelve _ tag rsv) s (by decide) (by decide)
  | bypass h tag d r rsv =>
    exact keepsTo_requestEvent (l' := [.overrides, .handover] ++ requestParts)
      (fun s => s.takeBypass_touches _ tag d r rsv) s (by decide) (by decide)
  | unbypass h tag rsv =>
    exact keepsTo_requestEvent (l' := [.overrides, .handover] ++ requestParts)
      (fun s => s.takeUnbypass_touches _ tag rsv) s (by decide) (by decide)
  | overrideExpiry n =>
    exact keepsTo_timerEvent (due := fun s => s.overrideDue n) (l' := .overrides :: alarmParts ++ endParts) (fun s => s.overrideExpires_touches n) s (by decide) (by decide)
  | command h tag act v rsv =>
    exact keepsTo_requestEvent (l' := [.transit, .ticket, .handover, .said .countersign, .said .forward] ++ requestParts)
      (fun s => s.takeCommand_touches _ tag act v rsv) s (by decide) (by decide)
  | countersignAgree h k tag rsv =>
    exact keepsTo_requestEvent (l' := [.transit, .handover, .said .result, .said .forward] ++ requestParts)
      (fun s => s.takeAgree_touches _ k tag rsv) s (by decide) (by decide)
  | countersignDecline h k tag rsv =>
    exact keepsTo_requestEvent (l' := [.transit, .handover, .said .result] ++ requestParts)
      (fun s => s.takeDecline_touches _ k tag rsv) s (by decide) (by decide)
  | withdraw h k rsv =>
    exact keepsTo_requestEvent (l' := [.transit, .handover, .said .result] ++ requestParts)
      (fun s => s.takeWithdraw_touches _ k rsv) s (by decide) (by decide)
  | countersignWindowExpiry k =>
    exact keepsTo_timerEvent (due := fun s => s.windowDue k) (l' := [.transit, .handover, .said .result] ++ endParts) (fun s => s.windowEnds_touches k) s (by decide) (by decide)
  | replyDone k tag =>
    exact keepsTo_plantEvent (l' := replyParts) (fun s => s.replyFrame_touches_of_sound (by decide) k tag) s (by decide) (by decide)
  | replyRefused k tag code =>
    exact keepsTo_plantEvent (l' := replyParts) (fun s => s.replyFrame_touches_of_sound (by simp [replyFaulty]) k tag) s (by decide)
      (by decide)
  | replyBusy k tag =>
    exact keepsTo_plantEvent (l' := replyParts) (fun s => s.replyFrame_touches_of_sound (by decide) k tag) s (by decide) (by decide)
  | replyExtend k tag n =>
    exact keepsTo_plantEvent (l' := [.countersG, .transit, .countersB] ++ plantArrivalParts) (fun s => s.replyFrame_extend_touches k tag n) s (by decide) (by decide)
  | replyHoldOn k tag =>
    exact keepsTo_plantEvent (l' := [.countersG, .transit] ++ plantArrivalParts) (fun s => s.replyFrame_holdOn_touches k tag) s (by decide) (by decide)
  | reSend k =>
    exact keepsTo_timerEvent (due := fun s => s.resendDue k) (l' := [.transit, .said .forward] ++ endParts) (fun s => s.resend_touches k) s (by decide) (by decide)
  | replyDeadlineExpiry k =>
    exact keepsTo_timerEvent (due := fun s => s.replyDeadlineDue k) (l' := .countersG :: endingParts ++ endParts) (fun s => s.replyMissing_touches k) s (by decide) (by decide)
  | offer h a b rsv =>
    exact keepsTo_requestEvent (l' := .handover :: requestParts) (fun s => s.takeOffer_touches _ a b rsv) s (by decide)
      (by decide)
  | review h a first count rsv =>
    exact keepsTo_requestEvent (l' := .handover :: requestParts) (fun s => s.takeReview_touches _ a first count rsv) s
      (by decide) (by decide)
  | accept h a rsv =>
    exact keepsTo_requestEvent (l' := endingParts ++ requestParts) (fun s => s.takeAccept_touches _ a rsv) s (by decide)
      (by decide)
  | recallOffer h a rsv =>
    exact keepsTo_requestEvent (l' := .handover :: requestParts) (fun s => s.takeRecall_touches _ a rsv) s (by decide)
      (by decide)
  | handoverLapse a =>
    exact keepsTo_timerEvent (due := fun s => s.lapseDue a) (l' := .handover :: endParts) (fun s => s.closeSession_touches a .lapsed) s (by decide) (by decide)
  | takeover h a rsv =>
    exact keepsTo_requestEvent (l' := endingParts ++ requestParts) (fun s => s.takeTakeover_touches _ a rsv) s (by decide)
      (by decide)
  | queryUnitStatus h rsv => exact keepsTo_askEvent h _ s
  | queryAreaStatus h a rsv => exact keepsTo_askEvent h _ s
  | queryAlarmPage h a page f rsv => exact keepsTo_askEvent h _ s
  | queryAlarmEntry h r rsv => exact keepsTo_askEvent h _ s
  | queryTransitList h rsv => exact keepsTo_askEvent h _ s
  | queryOverrideList h rsv => exact keepsTo_askEvent h _ s
  | queryHandoverList h a rsv => exact keepsTo_askEvent h _ s
  | queryStationStatus h st rsv => exact keepsTo_askEvent h _ s
  | stationWrite h i r rsv =>
    exact keepsTo_requestEvent (l' := .stations :: requestParts) (fun s => s.takeStationWrite_touches _ i r rsv) s
      (by decide) (by decide)
  | rosterWrite h i r rsv =>
    exact keepsTo_requestEvent (l' := [.roster, .logon] ++ endingParts ++ requestParts)
      (fun s => s.takeRosterWrite_touches _ i r rsv) s (by decide) (by decide)
  | areaWrite h i r rsv =>
    exact keepsTo_requestEvent (l' := [.areas, .flooded, .release] ++ requestParts)
      (fun s => s.takeAreaWrite_touches _ i r rsv) s (by decide) (by decide)
  | tagWrite h i r rsv =>
    exact keepsTo_requestEvent (l' := .tags :: requestParts) (fun s => s.takeTagWrite_touches _ i r rsv) s (by decide)
      (by decide)
  | readRecord h table index rsv => exact keepsTo_askEvent h _ s
  | store h =>
    exact keepsTo_event (fun s => s.request_touches (l := .storeJob :: requestParts) (by decide)
      (fun s => (s.takeStore_touches h).mono (by decide)) h) s
  | storeComplete matched =>
    exact keepsTo_event (fun s => (s.storeDone_touches matched).mono (l' := [.storeJob, .storeFault, .image, .misreads, .said .answer] ++ sysParts ++ endParts) (by decide)) s
  | setClock h time rsv =>
    exact keepsTo_requestEvent (l' := [.millTime, .clockUnset] ++ requestParts)
      (fun s => s.takeSetClock_touches _ time rsv) s (by decide) (by decide)
  | restart h => exact keepsTo_restart h s
  | millTimeAdvance => exact keepsTo_event (fun s => s.advanceMill_touches) s
  | plantFrameDiscarded payload => exact keepsTo_event (fun s => s.discardPortB_touches payload) s
  | alarmNoticeRaise n =>
    exact keepsTo_plantEvent (l' := noticeParts) (fun s => s.noticeFrame_touches n.seq n.tag n.cond 1 _ 0 n.time) s (by decide) (by decide)
  | alarmNoticeReturn n =>
    exact keepsTo_plantEvent (l' := [.countersB, .discarded, .duplicates] ++ alarmParts ++ plantArrivalParts) (fun s => s.noticeFrame_return_touches n.seq n.time) s (by decide) (by decide)
  | decayEvent a =>
    exact keepsTo_timerEvent (due := fun s => s.decayDue a) (l' := [.load, .flooded, .release] ++ endParts) (fun s => s.decay_touches a) s (by decide) (by decide)
  | releaseTimerExpiry a =>
    exact keepsTo_timerEvent (due := fun s => s.releaseDue a) (l' := alarmParts ++ endParts) (fun s => s.releaseOldest_touches a) s (by decide) (by decide)
  | stage1Expiry n =>
    exact keepsTo_timerEvent (due := fun s => s.deadlineDue n 1) (l' := .handover :: sysParts ++ endParts) (fun s => s.escalate_touches n) s (by decide) (by decide)
  | stage2Expiry n =>
    exact keepsTo_timerEvent (due := fun s => s.deadlineDue n 2) (l' := .overdue :: sysParts ++ endParts) (fun s => s.fallOverdue_touches n) s (by decide) (by decide)
  | plantBeat =>
    exact keepsTo_plantEvent (l' := plantArrivalParts) (fun s => s.serveLink_touches) s (by decide) (by decide)
  | resyncEnd scope n =>
    exact keepsTo_plantEvent (l' := .countersB :: alarmParts ++ plantArrivalParts) (l := .countersB :: alarmParts ++ plantArrivalParts)
      (fun s => .after (State.takeResyncEnd_touches _ scope n) (by decide) (s.serveLink_touches.mono (by decide))) s (by decide)
      (by decide)
  | plantSilenceTimeout =>
    exact keepsTo_timerEvent (l' := [.plantLink, .plantReturn, .plantMark] ++ sysParts ++ endParts) (fun s => s.enterDegraded_touches) s (by decide) (by decide)
  | plantDegradedTimeout =>
    exact keepsTo_timerEvent (l' := [.plantLink, .plantExpected, .plantTimer, .countersB, .countersG] ++ endingParts ++ endParts) (fun s => s.enterLost_touches) s (by decide) (by decide)
  | plantStartTimeout =>
    exact keepsTo_timerEvent (l' := [.plantLink, .plantExpected, .plantTimer, .countersB, .countersG] ++ endingParts ++ endParts) (fun s => s.enterLost_touches) s (by decide) (by decide)
  | resyncTimerExpiry =>
    exact keepsTo_timerEvent (l' := [.plantLink, .plantReturn, .plantTimer, .countersB] ++ sysParts ++ endParts) (fun s => s.resyncTimesOut_touches) s (by decide) (by decide)
  | unitBeat => exact keepsTo_event (fun s => s.unitBeat_touches) s
  | malformedContent c => exact keepsTo_malformedContent c s
end

section
/-! PROOFS. Requests at Port A: how each row that is one is taken, and that a refusal leaves the state as the arrival of its
frame left it. -/

namespace Sys2Proof.Machine

/-- What a request comes to leaves the state alone where its answer is a refusal or ALREADY. -/
def Unmoved (s : State) (r : State × Ans) : Prop := r.2.code.changes = false → r.1 = s

namespace Unmoved

variable {s t : State} {a : Ans}

theorem refused : Unmoved s (s, a) := fun _ => rfl

theorem changed (h : a.code.changes = true) : Unmoved s (t, a) := fun unchanged => by simp [h] at unchanged

end Unmoved

theorem writeAnswer_changes (field : Nat) : (State.writeAnswer field).code.changes = true := by
  unfold State.writeAnswer
  split <;> rfl

namespace State

variable (s : State)

/-! ### The requests of each block -/

theorem takeLogon_unmoved (st badge rsv : Nat) : Unmoved s (s.takeLogon st badge rsv) := by
  unfold takeLogon
  repeat' split
  all_goals first | with_reducible exact .refused | exact .changed rfl

theorem takeLogoff_unmoved (st : Nat) : Unmoved s (s.takeLogoff st) := by
  unfold takeLogoff
  repeat' split
  all_goals first | with_reducible exact .refused | exact .changed rfl

theorem takeClaim_unmoved (st a rsv : Nat) : Unmoved s (s.takeClaim st a rsv) := by
  unfold takeClaim
  repeat' split
  all_goals first | with_reducible exact .refused | exact .changed rfl

theorem takeRelease_unmoved (st a rsv : Nat) : Unmoved s (s.takeRelease st a rsv) := by
  unfold takeRelease
  repeat' split
  all_goals first | with_reducible exact .refused | exact .changed rfl

theorem takeAck_unmoved (st : Nat) (r : Ref) (rsv : Nat) : Unmoved s (s.takeAck st r rsv) := by
  unfold takeAck
  repeat' split
  all_goals first | with_reducible exact .refused | exact .changed rfl

theorem takeSilenceTop_unmoved (st : Nat) (r : Ref) (rsv : Nat) : Unmoved s (s.takeSilenceTop st r rsv) := by
  unfold takeSilenceTop
  repeat' split
  all_goals first | with_reducible exact .refused | exact .changed rfl

theorem takeSilenceAll_unmoved (st rsv : Nat) : Unmoved s (s.takeSilenceAll st rsv) := by
  unfold takeSilenceAll
  repeat' split
  all_goals first | with_reducible exact .refused | exact .changed rfl

theorem takeServiceOut_unmoved (st a rsv : Nat) : Unmoved s (s.takeServiceOut st a rsv) := by
  unfold takeServiceOut
  repeat' split
  all_goals first | with_reducible exact .refused | exact .changed rfl

theorem takeServiceIn_unmoved (st a rsv : Nat) : Unmoved s (s.takeServiceIn st a rsv) := by
  unfold takeServiceIn
  repeat' split
  all_goals first | with_reducible exact .refused | exact .changed rfl

theorem grantOverride_unmoved (k : OverrideKind) (op st tag a d r : Nat) :
    Unmoved s (s.grantOverride k op st tag a d r) := by
  unfold grantOverride
  dsimp only
  repeat' split
  all_goals first | with_reducible exact .refused | exact .changed rfl

theorem takeOverride_unmoved (k : OverrideKind) (st tag d r rsv : Nat) : Unmoved s (s.takeOverride k st tag d r rsv) := by
  unfold takeOverride
  repeat' split
  all_goals first | with_reducible exact .refused | exact s.grantOverride_unmoved _ _ _ _ _ _ _

theorem takeEnding_unmoved (k : OverrideKind) (st tag rsv : Nat) : Unmoved s (s.takeEnding k st tag rsv) := by
  unfold takeEnding
  repeat' split
  all_goals first | with_reducible exact .refused | exact .changed rfl

theorem takeCommand_unmoved (st tag act : Nat) (v : BitVec 32) (rsv : Nat) : Unmoved s (s.takeCommand st tag act v rsv) := by
  unfold takeCommand
  repeat' split
  all_goals first | with_reducible exact .refused | exact .changed rfl

theorem takeAgree_unmoved (st k tag rsv : Nat) : Unmoved s (s.takeAgree st k tag rsv) := by
  unfold takeAgree
  repeat' split
  all_goals first | with_reducible exact .refused | exact .changed rfl

theorem takeDecline_unmoved (st k tag rsv : Nat) : Unmoved s (s.takeDecline st k tag rsv) := by
  unfold takeDecline
  repeat' split
  all_goals first | with_reducible exact .refused | exact .changed rfl

theorem takeWithdraw_unmoved (st k rsv : Nat) : Unmoved s (s.takeWithdraw st k rsv) := by
  unfold takeWithdraw
  repeat' split
  all_goals first | with_reducible exact .refused | exact .changed rfl

theorem takeOffer_unmoved (st a b rsv : Nat) : Unmoved s (s.takeOffer st a b rsv) := by
  unfold takeOffer
  repeat' split
  all_goals first | with_reducible exact .refused | exact .changed rfl

theorem takeReview_unmoved (st a first count rsv : Nat) : Unmoved s (s.takeReview st a first count rsv) := by
  unfold takeReview
  repeat' split
  all_goals first | with_reducible exact .refused | exact .changed rfl

theorem acceptSession_unmoved (a : Nat) (x : Session) : Unmoved s (s.acceptSession a x) := by
  unfold acceptSession
  dsimp only
  split <;> exact .changed rfl

theorem takeAccept_unmoved (st a rsv : Nat) : Unmoved s (s.takeAccept st a rsv) := by
  unfold takeAccept
  repeat' split
  all_goals first | with_reducible exact .refused | exact s.acceptSession_unmoved _ _

theorem takeRecall_unmoved (st a rsv : Nat) : Unmoved s (s.takeRecall st a rsv) := by
  unfold takeRecall
  repeat' split
  all_goals first | with_reducible exact .refused | exact .changed rfl

theorem takeFromOwner_unmoved (a op st owner ost : Nat) : Unmoved s (s.takeFromOwner a op st owner ost) := by
  unfold takeFromOwner
  dsimp only
  split <;> exact .changed rfl

theorem takeoverBy_unmoved (a op st : Nat) : Unmoved s (s.takeoverBy a op st) := by
  unfold takeoverBy
  repeat' split
  all_goals first
    | with_reducible exact .refused
    | with_reducible exact s.takeFromOwner_unmoved _ _ _ _ _
    | ((with_reducible refine .changed ?_); rfl)

theorem takeTakeover_unmoved (st a rsv : Nat) : Unmoved s (s.takeTakeover st a rsv) := by
  unfold takeTakeover
  repeat' split
  all_goals first | with_reducible exact .refused | exact s.takeoverBy_unmoved _ _ _

theorem takeStationWrite_unmoved (st i : Nat) (r : Option RawStation) (rsv : Nat) :
    Unmoved s (s.takeStationWrite st i r rsv) := by
  unfold takeStationWrite
  repeat' split
  all_goals first | with_reducible exact .refused | exact .changed (writeAnswer_changes _) | exact .changed rfl

theorem takeRosterWrite_unmoved (st i : Nat) (r : Option RawRoster) (rsv : Nat) :
    Unmoved s (s.takeRosterWrite st i r rsv) := by
  unfold takeRosterWrite
  repeat' split
  all_goals first | with_reducible exact .refused | exact .changed (writeAnswer_changes _) | exact .changed rfl

theorem takeAreaWrite_unmoved (st i : Nat) (r : Option RawArea) (rsv : Nat) :
    Unmoved s (s.takeAreaWrite st i r rsv) := by
  unfold takeAreaWrite
  repeat' split
  all_goals first | with_reducible exact .refused | exact .changed (writeAnswer_changes _)

theorem takeTagWrite_unmoved (st i : Nat) (r : Option RawTag) (rsv : Nat) : Unmoved s (s.takeTagWrite st i r rsv) := by
  unfold takeTagWrite
  repeat' split
  all_goals first | with_reducible exact .refused | exact .changed (writeAnswer_changes _) | exact .changed rfl

theorem takeSetClock_unmoved (st : Nat) (time : MillTime) (rsv : Nat) : Unmoved s (s.takeSetClock st time rsv) := by
  unfold takeSetClock
  repeat' split
  all_goals first | with_reducible exact .refused | exact .changed rfl

theorem takeRestart_unmoved (st : Nat) : Unmoved s (s.takeRestart st) := by
  unfold takeRestart
  split_ifs
  all_goals first | with_reducible exact .refused | exact .changed rfl

end State

/-! ### Rows with a way of their own -/

theorem exec_beat {s : State} {h : Hdr} (accepted : Accepted s h) : exec (.beat h) s = .next (arrived s h) :=
  (event_of_running accepted.1 (fun s => s.receive h (fun s => s))).trans
    (congrArg _ (receive_of_accepted accepted _))

theorem exec_unknownKind {s : State} {h : Hdr} (accepted : Accepted s h) (c : Nat) :
    exec (.unknownKind h (.kind c)) s = .next ((arrived s h).answer h (ans .code)) :=
  (event_of_running accepted.1 (fun s => s.unknownRequest h (.kind c))).trans
    (congrArg _ (receive_of_accepted accepted (fun s => s.answer h (s.oddAnswer h (.kind c)))))

theorem exec_unknownSelector {s : State} {h : Hdr} (taken : Taken s h) {r : OddRequest} (known : ∀ c, r ≠ .kind c) :
    exec (.unknownKind h r) s = .next ((arrived s h).answer h ((arrived s h).oddAnswer h r)) := by
  refine (event_of_running taken.1.1 (fun s => s.unknownRequest h r)).trans (congrArg _ ?_)
  cases r with
  | kind c => exact absurd rfl (known c)
  | _ => exact request_of_taken taken _

/-- R184: the header's reserved field is tested before the request goes to its block. -/
theorem request_of_reserved {s : State} {h : Hdr} (accepted : Accepted s h) (rsv : h.rsv ≠ 0) (f : State → State) :
    s.fresh.request h f = (arrived s h).answer h (ans .reserved) := by
  rw [State.request, receive_of_accepted accepted, if_pos rsv]

/-! ### How each row is taken -/

/-- The ways in which an accepted frame of a request is taken. -/
inductive RequestShape (h : Hdr) : Instr → Prop where
  | beat : RequestShape h (.beat h)
  | unknown (r : OddRequest) : RequestShape h (.unknownKind h r)
  | ask (i : Instr) (f : State → Ans) (taken : ∀ s, exec i s = askEvent h f s) : RequestShape h i
  | change (i : Instr) (f : State → State × Ans) (taken : ∀ s, exec i s = requestEvent h f s)
      (unmoved : ∀ s, Unmoved s (f s)) : RequestShape h i
  | store : RequestShape h (.store h)

open State in
theorem requestShape_of_header {i : Instr} {h : Hdr} (header : requestHeader? i = some h) : RequestShape h i := by
  cases i <;> first | (simp only [requestHeader?, reduceCtorEq] at header; done) | skip
  all_goals obtain rfl := Option.some.inj header
  case unknownKind r => exact .unknown r
  case beat => exact .beat
  case store => exact .store
  case queryUnitStatus => exact .ask _ _ (fun _ => rfl)
  case queryAreaStatus => exact .ask _ _ (fun _ => rfl)
  case queryAlarmPage => exact .ask _ _ (fun _ => rfl)
  case queryAlarmEntry => exact .ask _ _ (fun _ => rfl)
  case queryTransitList => exact .ask _ _ (fun _ => rfl)
  case queryOverrideList => exact .ask _ _ (fun _ => rfl)
  case queryHandoverList => exact .ask _ _ (fun _ => rfl)
  case queryStationStatus => exact .ask _ _ (fun _ => rfl)
  case readRecord => exact .ask _ _ (fun _ => rfl)
  case logon => exact .change _ _ (fun _ => rfl) (fun s => s.takeLogon_unmoved _ _ _)
  case logoff => exact .change _ _ (fun _ => rfl) (fun s => s.takeLogoff_unmoved _)
  case claim => exact .change _ _ (fun _ => rfl) (fun s => s.takeClaim_unmoved _ _ _)
  case release => exact .change _ _ (fun _ => rfl) (fun s => s.takeRelease_unmoved _ _ _)
  case ack => exact .change _ _ (fun _ => rfl) (fun s => s.takeAck_unmoved _ _ _)
  case silenceTop => exact .change _ _ (fun _ => rfl) (fun s => s.takeSilenceTop_unmoved _ _ _)
  case silenceAll => exact .change _ _ (fun _ => rfl) (fun s => s.takeSilenceAll_unmoved _ _)
  case serviceOut => exact .change _ _ (fun _ => rfl) (fun s => s.takeServiceOut_unmoved _ _ _)
  case serviceIn => exact .change _ _ (fun _ => rfl) (fun s => s.takeServiceIn_unmoved _ _ _)
  case shelve => exact .change _ _ (fun _ => rfl) (fun s => s.takeOverride_unmoved _ _ _ _ _ _)
  case unshelve => exact .change _ _ (fun _ => rfl) (fun s => s.takeEnding_unmoved _ _ _ _)
  case bypass => exact .change _ _ (fun _ => rfl) (fun s => s.takeOverride_unmoved _ _ _ _ _ _)
  case unbypass => exact .change _ _ (fun _ => rfl) (fun s => s.takeEnding_unmoved _ _ _ _)
  case command => exact .change _ _ (fun _ => rfl) (fun s => s.takeCommand_unmoved _ _ _ _ _)
  case countersignAgree => exact .change _ _ (fun _ => rfl) (fun s => s.takeAgree_unmoved _ _ _ _)
  case countersignDecline => exact .change _ _ (fun _ => rfl) (fun s => s.takeDecline_unmoved _ _ _ _)
  case withdraw => exact .change _ _ (fun _ => rfl) (fun s => s.takeWithdraw_unmoved _ _ _)
  case offer => exact .change _ _ (fun _ => rfl) (fun s => s.takeOffer_unmoved _ _ _ _)
  case review => exact .change _ _ (fun _ => rfl) (fun s => s.takeReview_unmoved _ _ _ _ _)
  case accept => exact .change _ _ (fun _ => rfl) (fun s => s.takeAccept_unmoved _ _ _)
  case recallOffer => exact .change _ _ (fun _ => rfl) (fun s => s.takeRecall_unmoved _ _ _)
  case takeover => exact .change _ _ (fun _ => rfl) (fun s => s.takeTakeover_unmoved _ _ _)
  case stationWrite => exact .change _ _ (fun _ => rfl) (fun s => s.takeStationWrite_unmoved _ _ _ _)
  case rosterWrite => exact .change _ _ (fun _ => rfl) (fun s => s.takeRosterWrite_unmoved _ _ _ _)
  case areaWrite => exact .change _ _ (fun _ => rfl) (fun s => s.takeAreaWrite_unmoved _ _ _ _)
  case tagWrite => exact .change _ _ (fun _ => rfl) (fun s => s.takeTagWrite_unmoved _ _ _ _)
  case setClock => exact .change _ _ (fun _ => rfl) (fun s => s.takeSetClock_unmoved _ _ _)
  case restart => exact .change _ _ (fun _ => rfl) (fun s => s.takeRestart_unmoved _)

end Sys2Proof.Machine
open Sys2Proof.Machine in
/-- Settles O4: the last message of the event is its ANSWER, so the one it names is the one the request came to. -/
theorem refusedRequestChangesNothing : Obligations.RefusedRequestChangesNothing := by
  unfold Obligations.RefusedRequestChangesNothing
  intro i h s t a header accepted taken answered unchanged
  have on := accepted.1
  have answers (u : State) (b : Ans) : Touches [.said .answer] u (u.answer h b) := u.answer_touches h b
  have requested {f : State → State} (same : f (arrived s h) = t → Touches [.said .answer] (arrived s h) t)
      (taken : event (fun s => s.request h f) s = .next t) : Touches [.said .answer] (arrived s h) t := by
    rw [event_of_running on, State.request, receive_of_accepted accepted] at taken
    injection taken with taken
    split at taken
    · exact taken ▸ answers _ _
    · exact same taken
  cases requestShape_of_header header with
  | beat =>
    obtain rfl : arrived s h = t := by
      rw [exec_beat accepted] at taken
      injection taken
    exact .refl _ _
  | unknown r =>
    cases r with
    | kind c =>
      rw [exec_unknownKind accepted] at taken
      injection taken with taken
      exact taken ▸ answers _ _
    | _ => exact requested (fun same => same ▸ answers _ _) taken
  | ask _ f shape =>
    rw [shape] at taken
    exact requested (fun same => same ▸ answers _ _) taken
  | change _ f shape unmoved =>
    rw [shape] at taken
    refine requested (fun same => ?_) taken
    rcases (arrived s h).handle_cases h f with ⟨done, changes⟩ | ⟨refused, stays⟩
    · have : (f (arrived s h)).2 = a := by
        simpa [Answered, ← same, done] using answered
      simp [← this, changes] at unchanged
    · rw [← same, refused, unmoved _ stays]
      exact answers _ _
  | store =>
    refine requested (fun same => ?_) taken
    unfold State.takeStore at same
    split at same
    · exact same ▸ answers _ _
    · split at same
      · exact same ▸ answers _ _
      · have silent : (arrived s h).saidOf .answer = [] := arrived_touches s h (.said .answer) (by decide)
        have said : .console h.station h.src (.answer h.rtag a) ∈ (arrived s h).sent :=
          List.mem_of_getLast? (by rw [← same] at answered; exact answered)
        have : Out.console h.station h.src (.answer h.rtag a) ∈ (arrived s h).saidOf .answer :=
          List.mem_filter.mpr ⟨by simp [said], rfl⟩
        simp [silent] at this
end

section
/-! PROOFS. What the functions that read the state read: each gives the same in two states that agree on the parts it
reads. -/

namespace Sys2Proof.Machine.Touches

variable {l : List Part} {s t : State}

/-! ### The unit and its clock -/

theorem running_eq (h : Touches l s t) (hl : .pins ∉ l) : t.running = s.running :=
  congrArg (fun p : Pins => p.power && !p.reset) (h .pins hl)

theorem now_eq (h : Touches l s t) (hl : .unitTime ∉ l) : t.now = s.now := h .unitTime hl

theorem second_eq (h : Touches l s t) (hl : .unitTime ∉ l) : t.second = s.second :=
  congrArg (· / Config.ticksPerSecond) (h .unitTime hl)

theorem secondsAhead_eq (h : Touches l s t) (hl : .unitTime ∉ l) (n : Nat) : t.secondsAhead n = s.secondsAhead n := by
  rw [State.secondsAhead, State.secondsAhead, h.second_eq hl]

theorem secondsLeft_eq (h : Touches l s t) (hl : .unitTime ∉ l) (n : Nat) : t.secondsLeft n = s.secondsLeft n := by
  rw [State.secondsLeft, State.secondsLeft, h.second_eq hl]

theorem mill_eq (h : Touches l s t) (hl : .millTime ∉ l) : t.time.mill = s.time.mill := h .millTime hl

/-! ### The tables -/

theorem tagRec?_eq (h : Touches l s t) (hl : .tags ∉ l) (tag : Nat) : t.tagRec? tag = s.tagRec? tag :=
  congrArg (Tbl.look · tag) (h .tags hl)

theorem badgeOf_eq (h : Touches l s t) (hl : .roster ∉ l) (op : Nat) : t.badgeOf op = s.badgeOf op := by
  rw [State.badgeOf, State.badgeOf, h.rosterRec?_eq hl]

theorem isSupervisorRole_eq (h : Touches l s t) (hl : .roster ∉ l) (op : Nat) :
    t.isSupervisorRole op = s.isSupervisorRole op := by
  rw [State.isSupervisorRole, State.isSupervisorRole, h.rosterRec?_eq hl]

theorem isSupervisorStation_eq (h : Touches l s t) (hl : .stations ∉ l) (st : Nat) :
    t.isSupervisorStation st = s.isSupervisorStation st := by
  rw [State.isSupervisorStation, State.isSupervisorStation, h.stationRec?_eq hl]

theorem outTo_eq (h : Touches l s t) (hl : .stations ∉ l) (st : Nat) (m : ConsoleMsg) : t.outTo st m = s.outTo st m := by
  rw [State.outTo, State.outTo, h.stationRec?_eq hl]

/-! ### The Console Port and the Authority Unit -/

theorem link_eq (h : Touches l s t) (hl : .link ∉ l) (st : Nat) : t.link st = s.link st :=
  congrArg (fun k : Tbl LinkState => k.getD st .absent) (h .link hl)

theorem upStations_eq (h : Touches l s t) (hl : .link ∉ l) : t.upStations = s.upStations :=
  congrArg (stationNumbers.filter ·) (funext (h.isUp_eq hl))

theorem staffed_eq (h : Touches l s t) (hl : .logon ∉ l) (st : Nat) : t.staffed st = s.staffed st := by
  rw [State.staffed, State.staffed, h.logonAt_eq hl]

theorem stationOf_eq (h : Touches l s t) (hl : .logon ∉ l) (op : Nat) : t.stationOf op = s.stationOf op :=
  congrArg (fun g : Tbl Nat => (g.find? (fun p : Nat × Nat => decide (p.2 = op))).map Prod.fst) (h .logon hl)

theorem isOwnerStation_eq (h : Touches l s t) (hl : .owner ∉ l) (st a : Nat) :
    t.isOwnerStation st a = s.isOwnerStation st a := by
  rw [State.isOwnerStation, State.isOwnerStation, h.ownerOf_eq hl]

theorem keySupervisor_eq (h : Touches l s t) (hk : .key ∉ l) (hr : .roster ∉ l) (hs : .stations ∉ l) (hl : .logon ∉ l)
    (op st : Nat) : t.keySupervisor op st = s.keySupervisor op st := by
  have key : t.auth.key = s.auth.key := h .key hk
  rw [State.keySupervisor, State.keySupervisor, key, h.isSupervisorRole_eq hr, h.isSupervisorStation_eq hs,
    h.logonAt_eq hl]

theorem ownerConditions_eq (h : Touches l s t) (hr : .roster ∉ l) (hs : .stations ∉ l) (hl : .logon ∉ l) (op a : Nat) :
    t.ownerConditions op a = s.ownerConditions op a := by
  unfold State.ownerConditions
  simp only [h.stationOf_eq hl, h.permits_eq hs, h.levelOf_eq hr]

theorem entitled_eq (h : Touches l s t) (hp : .pins ∉ l) (hk : .key ∉ l) (hs : .stations ∉ l) (hl : .logon ∉ l)
    (st : Nat) : t.entitled st = s.entitled st := by
  have key : t.auth.key = s.auth.key := h .key hk
  have pins : t.pins = s.pins := h .pins hp
  rw [State.entitled, State.entitled, key, pins, h.stationRec?_eq hs, h.staffed_eq hl]

/-! ### The alarm blocks -/

theorem entry?_eq (h : Touches l s t) (hl : .entries ∉ l) (n : Nat) : t.entry? n = s.entry? n :=
  congrArg (Tbl.look · n) (h .entries hl)

theorem gen_eq (h : Touches l s t) (hl : .gens ∉ l) (n : Nat) : t.gen n = s.gen n :=
  congrArg (fun g : Tbl Nat => if n < Config.ordinaryEntries then g.getD n 0 else 0) (h .gens hl)

theorem refOf_eq (h : Touches l s t) (hl : .gens ∉ l) (n : Nat) : t.refOf n = s.refOf n := by
  rw [State.refOf, State.refOf, h.gen_eq hl]

theorem ordinary_eq (h : Touches l s t) (hl : .entries ∉ l) : t.ordinary = s.ordinary :=
  congrArg (fun e : Tbl Entry => e.keys.filter (fun n => decide (n < Config.ordinaryEntries))) (h .entries hl)

theorem entryOf?_eq (h : Touches l s t) (hl : .entries ∉ l) (tag cond : Nat) : t.entryOf? tag cond = s.entryOf? tag cond :=
  congrArg (fun e : Tbl Entry => e.find? (fun p : Nat × Entry => decide (p.2.tag = some tag ∧ p.2.cond = some cond))) (h .entries hl)

theorem freeEntry?_eq (h : Touches l s t) (hl : .entries ∉ l) : t.freeEntry? = s.freeEntry? :=
  congrArg (fun e : Tbl Entry => let k := lowestGap 0 e.keys; if k < Config.ordinaryEntries then some k else none)
    (h .entries hl)

theorem suppressed_eq (h : Touches l s t) (he : .entries ∉ l) (ht : .tags ∉ l) (tag : Nat) :
    t.suppressed tag = s.suppressed tag := by
  have entries : t.alarm.entries = s.alarm.entries := h .entries he
  unfold State.suppressed State.parentActive
  rw [h.tagRec?_eq ht, entries]

theorem override?_eq (h : Touches l s t) (hl : .overrides ∉ l) (k : OverrideKind) (tag : Nat) :
    t.override? k tag = s.override? k tag :=
  congrArg (fun o : Tbl Override => o.find? (fun p : Nat × Override => decide (p.2.kind = k ∧ p.2.tag = tag))) (h .overrides hl)

theorem overrideArea_eq (h : Touches l s t) (hl : .tags ∉ l) (o : Override) : t.overrideArea o = s.overrideArea o := by
  rw [State.overrideArea, State.overrideArea, h.tagRec?_eq hl]

theorem load_eq (h : Touches l s t) (hl : .load ∉ l) (a : Nat) : t.load a = s.load a :=
  congrArg (Tbl.getD · a 0) (h .load hl)

theorem flooded_eq (h : Touches l s t) (hl : .flooded ∉ l) (a : Nat) : t.flooded a = s.flooded a :=
  congrArg (fun f : NSet => decide (a ∈ f)) (h .flooded hl)

theorem deferredOf_eq (h : Touches l s t) (hl : .deferred ∉ l) (a : Nat) : t.deferredOf a = s.deferredOf a :=
  congrArg (fun d : List DeferredItem => d.filter (fun d : DeferredItem => decide (d.area = a))) (h .deferred hl)

theorem annRec_eq (h : Touches l s t) (hl : .recs ∉ l) (n : Nat) : t.annRec n = s.annRec n :=
  congrArg (fun r : Tbl AnnRec => r.getD n ⟨[], [], none⟩) (h .recs hl)

theorem stack_eq (h : Touches l s t) (hl : .attnStacks ∉ l) (st : Nat) : t.stack st = s.stack st :=
  congrArg (fun k : Tbl (List Nat) => k.getD st []) (h .attnStacks hl)

/-! ### The Command Gate and the Handover Controller -/

theorem transitWhere_eq (h : Touches l s t) (hl : .transit ∉ l) (p : Transit → Bool) :
    t.transitWhere p = s.transitWhere p :=
  congrArg (fun g : Tbl Transit => (g.filter (fun q : Nat × Transit => p q.2)).map Prod.fst) (h .transit hl)

theorem inFlight_eq (h : Touches l s t) (hl : .transit ∉ l) (a : Nat) : t.inFlight a = s.inFlight a :=
  h.transitWhere_eq hl _

theorem lookHand_eq (h : Touches l s t) (hl : .handover ∉ l) (a : Nat) : t.hand.look a = s.hand.look a :=
  congrArg (Tbl.look · a) (h .handover hl)

theorem session?_eq (h : Touches l s t) (hl : .handover ∉ l) (a : Nat) : t.session? a = s.session? a := by
  unfold State.session?
  rw [h.lookHand_eq hl]

theorem isQuiescing_eq (h : Touches l s t) (hl : .handover ∉ l) (a : Nat) : t.isQuiescing a = s.isQuiescing a := by
  unfold State.isQuiescing
  rw [h.lookHand_eq hl]

end Sys2Proof.Machine.Touches
end

section
/-! PROOFS. What every operation keeps of the tables: entries sound (R41, R43, R100), capacities (R72, R89, R106, R120),
and no route held for an entry that is not in use. One lemma an operation, in the order of the model. -/

namespace Sys2Proof.Machine

namespace State

/-! ### What is kept -/

/-- `EntriesSound` but for the entries excepted, which an operation is about to remove. -/
def SoundBut (X : Nat → Prop) (s : State) : Prop :=
  Tbl.wf s.alarm.entries ∧ ∀ n e, s.entry? n = some e → ¬ X n → EntrySound n e

/-- R94, R59: an entry that is not in use is on no route. -/
def IdleRoutes (s : State) : Prop := ∀ n, s.entry? n = none → (s.annRec n).route = []

def StackRoom (s : State) : Prop := ∀ st, (s.stack st).length ≤ Config.stackDepth

def DeferredRoom (s : State) : Prop := s.flood.deferred.length ≤ Config.deferredCapacity

def OverrideRoom (s : State) : Prop := Tbl.wf s.overrides ∧ ∀ p ∈ s.overrides, p.1 < Config.overrideEntries

def TransitRoom (s : State) : Prop := Tbl.wf s.gate.transit ∧ s.gate.transit.length ≤ Config.transitEntries

theorem soundBut_of_entriesSound {s : State} (h : s.EntriesSound) (X : Nat → Prop) : s.SoundBut X :=
  ⟨h.1, fun n e he _ => h.2 (n, e) (Tbl.mem_of_look he)⟩

theorem entriesSound_iff {s : State} : s.EntriesSound ↔ s.SoundBut (fun _ => False) :=
  ⟨fun h => soundBut_of_entriesSound h _,
    fun h => ⟨h.1, fun p hp => h.2 p.1 p.2 (Tbl.look_of_mem h.1 hp) (fun f => f)⟩⟩

/-- Distinct numbers below a bound are at most as many as the bound. -/
theorem length_le_of_wf_of_lt {α : Type} {t : Tbl α} {b : Nat} (wf : Tbl.wf t) (low : ∀ p ∈ t, p.1 < b) :
    t.length ≤ b := by
  have nodup : (t.map Prod.fst).Nodup := List.Pairwise.map _ (fun _ _ h => Nat.ne_of_lt h) wf
  have sub : t.map Prod.fst ⊆ List.range b := fun k hk => by
    obtain ⟨p, hp, rfl⟩ := List.mem_map.mp hk
    exact List.mem_range.mpr (low p hp)
  simpa using (List.subperm_of_subset nodup sub).length_le

theorem withinCapacity_iff {s : State} :
    s.WithinCapacity ↔ s.StackRoom ∧ s.DeferredRoom ∧ s.OverrideRoom ∧ s.TransitRoom := by
  constructor
  · rintro ⟨room, deferred, ⟨wf, low, -⟩, transit⟩
    exact ⟨room, deferred, ⟨wf, low⟩, transit⟩
  · rintro ⟨room, deferred, ⟨wf, low⟩, transit⟩
    exact ⟨room, deferred, ⟨wf, low, length_le_of_wf_of_lt wf low⟩, transit⟩

end State

/-- The second session is the first one with another list. -/
def Session.Relisted (x y : Session) : Prop := y = { x with items := y.items, remainder := y.remainder }

/-- What becomes of what an area waits for where nobody offers, accepts or takes over: it stays, but for a session's list,
or it ends. -/
def Handover.Lessens : Option Handover → Option Handover → Prop
  | _, none => True
  | some (.offered x), some (.offered y) => x.Relisted y
  | some (.quiescing x), some (.quiescing y) => x.Relisted y
  | some (.takingOver x), some (.takingOver y) => y = x
  | _, _ => False

theorem Handover.Lessens.refl (x : Option Handover) : Lessens x x := by
  rcases x with _ | x
  · trivial
  · cases x <;> exact rfl

theorem Handover.Lessens.trans {x y z : Option Handover} (h : Lessens x y) (k : Lessens y z) : Lessens x z := by
  have relisted {x y z : Session} (h : x.Relisted y) (k : y.Relisted z) : x.Relisted z := by
    rw [Session.Relisted] at h k ⊢
    rw [k, h]
  rcases z with _ | z
  · exact trivial
  · rcases y with _ | y
    · cases z <;> exact k.elim
    · rcases x with _ | x
      · cases y <;> exact h.elim
      · cases x <;> cases y <;> cases z <;>
          first | exact relisted h k | exact (show _ = _ from k).trans h | exact (show False from h).elim | exact (show False from k).elim

/-- From `s` to `t` no area comes to wait for a transfer. -/
def Hands (s t : State) : Prop := ∀ a, Handover.Lessens (s.hand.look a) (t.hand.look a)

theorem Hands.refl (s : State) : Hands s s := fun _ => .refl _

theorem Hands.of_eq {s t : State} (h : t.hand = s.hand) : Hands s t := fun _ => h ▸ .refl _

/-- From `s` to `t` the tables stay sound and within their capacities. -/
structure Bounded (s t : State) : Prop where
  sound : ∀ X, s.SoundBut X → t.SoundBut X
  room : s.StackRoom → t.StackRoom
  deferred : s.DeferredRoom → t.DeferredRoom
  overrides : s.OverrideRoom → t.OverrideRoom
  transit : s.TransitRoom → t.TransitRoom
  hands : Hands s t

/-- And no entry that is not in use comes to hold a route. -/
structure Keeps (s t : State) : Prop extends Bounded s t where
  routes : s.IdleRoutes → t.IdleRoutes

/-- Of what is kept, all but what the areas wait for. -/
structure Kept (s t : State) : Prop where
  sound : ∀ X, s.SoundBut X → t.SoundBut X
  room : s.StackRoom → t.StackRoom
  deferred : s.DeferredRoom → t.DeferredRoom
  overrides : s.OverrideRoom → t.OverrideRoom
  transit : s.TransitRoom → t.TransitRoom
  routes : s.IdleRoutes → t.IdleRoutes

theorem Keeps.kept {s t : State} (h : Keeps s t) : Kept s t :=
  ⟨h.sound, h.room, h.deferred, h.overrides, h.transit, h.routes⟩

theorem Kept.trans {s t u : State} (h : Kept s t) (k : Kept t u) : Kept s u :=
  ⟨fun X hx => k.sound X (h.sound X hx), fun hx => k.room (h.room hx), fun hx => k.deferred (h.deferred hx),
    fun hx => k.overrides (h.overrides hx), fun hx => k.transit (h.transit hx), fun hx => k.routes (h.routes hx)⟩

/-- The parts that hold what is kept. -/
def keptParts : List Part := [.entries, .recs, .attnStacks, .deferred, .overrides, .transit, .handover]

namespace Bounded

theorem refl (s : State) : Bounded s s := ⟨fun _ h => h, fun h => h, fun h => h, fun h => h, fun h => h, .refl s⟩

theorem trans {s t u : State} (h : Bounded s t) (k : Bounded t u) : Bounded s u :=
  ⟨fun X hx => k.sound X (h.sound X hx), fun hx => k.room (h.room hx), fun hx => k.deferred (h.deferred hx),
    fun hx => k.overrides (h.overrides hx), fun hx => k.transit (h.transit hx), fun a => (h.hands a).trans (k.hands a)⟩

end Bounded

namespace Keeps

variable {s t u : State}

theorem refl (s : State) : Keeps s s := ⟨.refl s, fun h => h⟩

theorem trans (h : Keeps s t) (k : Keeps t u) : Keeps s u :=
  ⟨h.toBounded.trans k.toBounded, fun hx => k.routes (h.routes hx)⟩

/-- The last operation of a sequence, and what the operations before it keep. -/
theorem after (k : Keeps t u) (h : Keeps s t) : Keeps s u := h.trans k

theorem ite {c : Prop} [Decidable c] (h : Keeps s t) (k : Keeps s u) : Keeps s (if c then t else u) := by
  split
  · exact h
  · exact k

theorem foldl {α : Type} {f : State → α → State} (xs : List α) (h : ∀ s, ∀ x ∈ xs, Keeps s (f s x)) (s : State) :
    Keeps s (xs.foldl f s) := by
  induction xs generalizing s with
  | nil => exact refl s
  | cons x xs ih => exact (h s x (by simp)).trans (ih (fun s y hy => h s y (by simp [hy])) (f s x))

/-- An operation that leaves the parts keeps what they hold. -/
theorem of_touches {l : List Part} (h : Touches l s t) (hl : ∀ p ∈ keptParts, p ∉ l) : Keeps s t := by
  have entries : t.alarm.entries = s.alarm.entries := h .entries (hl _ (by decide))
  have entry := h.entry?_eq (hl .entries (by decide))
  have rec_ := h.annRec_eq (hl .recs (by decide))
  have stack := h.stack_eq (hl .attnStacks (by decide))
  have deferred : t.flood.deferred = s.flood.deferred := h .deferred (hl _ (by decide))
  have overrides : t.overrides = s.overrides := h .overrides (hl _ (by decide))
  have transit : t.gate.transit = s.gate.transit := h .transit (hl _ (by decide))
  refine ⟨⟨fun X hx => ?_, fun hx => ?_, fun hx => ?_, fun hx => ?_, fun hx => ?_, .of_eq (h .handover (hl _ (by decide)))⟩,
    fun hx => ?_⟩
  · exact ⟨entries ▸ hx.1, fun n e he => hx.2 n e (entry n ▸ he)⟩
  · exact fun st => stack st ▸ hx st
  · rwa [State.DeferredRoom, deferred]
  · rwa [State.OverrideRoom, overrides]
  · rwa [State.TransitRoom, transit]
  · exact fun n hn => by rw [rec_]; exact hx n (entry n ▸ hn)

/-- An operation that writes the entries alone, a number that stands keeping to it. -/
theorem of_entries (h : Touches [.entries] s t) (sound : ∀ X, s.SoundBut X → t.SoundBut X)
    (routes : s.IdleRoutes → t.IdleRoutes) : Keeps s t := by
  have stack := h.stack_eq (by decide)
  have deferred : t.flood.deferred = s.flood.deferred := h .deferred (by decide)
  have overrides : t.overrides = s.overrides := h .overrides (by decide)
  have transit : t.gate.transit = s.gate.transit := h .transit (by decide)
  refine ⟨⟨sound, fun hx => fun st => stack st ▸ hx st, fun hx => ?_, fun hx => ?_, fun hx => ?_,
    .of_eq (h .handover (by decide))⟩, routes⟩
  · rwa [State.DeferredRoom, deferred]
  · rwa [State.OverrideRoom, overrides]
  · rwa [State.TransitRoom, transit]

/-- An operation that writes the stacks alone. -/
theorem of_stacks (h : Touches [.attnStacks] s t) (room : s.StackRoom → t.StackRoom) : Keeps s t := by
  have entries : t.alarm.entries = s.alarm.entries := h .entries (by decide)
  have entry := h.entry?_eq (by decide)
  have rec_ := h.annRec_eq (by decide)
  have deferred : t.flood.deferred = s.flood.deferred := h .deferred (by decide)
  have overrides : t.overrides = s.overrides := h .overrides (by decide)
  have transit : t.gate.transit = s.gate.transit := h .transit (by decide)
  refine ⟨⟨fun X hx => ⟨entries ▸ hx.1, fun n e he => hx.2 n e (entry n ▸ he)⟩, room, fun hx => ?_, fun hx => ?_,
    fun hx => ?_, .of_eq (h .handover (by decide))⟩, fun hx n hn => by rw [rec_]; exact hx n (entry n ▸ hn)⟩
  · rwa [State.DeferredRoom, deferred]
  · rwa [State.OverrideRoom, overrides]
  · rwa [State.TransitRoom, transit]

end Keeps

namespace State

variable (s : State)

/-! ### Entries -/

theorem touch_keeps (n : Nat) : Keeps s (s.touch n) := .of_touches (s.touch_touches n) (by decide)

/-- An entry is written where it is sound if what stood there was. -/
theorem setEntry_keeps {n : Nat} {e : Entry} (h : (∀ e', s.entry? n = some e' → EntrySound n e') → EntrySound n e) :
    Keeps s (s.setEntry n e) := by
  refine .of_entries (s.setEntry_touches n e) (fun X sound => ⟨Tbl.wf_put sound.1 n e, fun m e' he hm => ?_⟩)
    (fun idle m hm => ?_)
  · rw [entry_setEntry] at he
    split at he
    · obtain rfl := Option.some.inj he
      subst_vars
      exact h (fun e' he' => sound.2 _ e' he' hm)
    · exact sound.2 m e' he hm
  · rw [entry_setEntry] at hm
    split at hm
    · simp at hm
    · exact (s.setEntry_touches n e).annRec_eq (by decide) m ▸ idle m hm

theorem setEntry_keeps_of_look {n : Nat} {e e' : Entry} (he : s.entry? n = some e) (h : EntrySound n e → EntrySound n e') :
    Keeps s (s.setEntry n e') := s.setEntry_keeps (fun sound => h (sound e he))

theorem updEntry_keeps {n : Nat} {f : Entry → Entry}
    (h : ∀ e, s.entry? n = some e → EntrySound n e → EntrySound n (f e)) : Keeps s (s.updEntry n f) := by
  unfold updEntry
  split
  · exact .refl s
  case h_2 e he => exact s.setEntry_keeps_of_look he (h e he)

theorem entry?_dropEntry (n m : Nat) : (s.dropEntry n).entry? m = if m = n then none else s.entry? m := by
  unfold dropEntry
  split
  case h_1 none_ =>
    split
    · subst_vars; exact none_
    · rfl
  case h_2 => exact Tbl.look_del _ _ _

/-- An exception that is removed is no exception any more. -/
theorem soundBut_dropEntry {X : Nat → Prop} {n : Nat} (h : s.SoundBut (fun m => X m ∨ m = n)) :
    (s.dropEntry n).SoundBut X := by
  refine ⟨?_, fun m e he hm => ?_⟩
  · unfold dropEntry
    split
    · exact h.1
    · exact Tbl.wf_del h.1 n
  · rw [entry?_dropEntry] at he
    split at he
    · simp at he
    · exact h.2 m e he (by simp_all)

theorem SoundBut.mono {s : State} {X Y : Nat → Prop} (h : s.SoundBut X) (hXY : ∀ n, X n → Y n) : s.SoundBut Y :=
  ⟨h.1, fun n e he hn => h.2 n e he (fun hx => hn (hXY n hx))⟩

/-- An entry is dropped once it is on no route. -/
theorem dropEntry_keeps {n : Nat} (h : (s.annRec n).route = []) : Keeps s (s.dropEntry n) := by
  refine .of_entries (s.dropEntry_touches n) (fun X sound => s.soundBut_dropEntry (sound.mono (fun _ => .inl)))
    (fun idle m hm => ?_)
  rw [(s.dropEntry_touches n).annRec_eq (by decide)]
  rw [entry?_dropEntry] at hm
  split at hm
  · subst_vars; exact h
  · exact idle m hm

/-! ### Stacks and routes -/

theorem setStack_keeps {st : Nat} {l : List Nat} (h : s.StackRoom → l.length ≤ Config.stackDepth) :
    Keeps s (s.setStack st l) := by
  refine .of_stacks (s.setStack_touches st l) (fun room st' => ?_)
  rw [stack_setStack]
  split
  · exact h room
  · exact room st'

theorem push_keeps (st n : Nat) : Keeps s (s.push st n) := by
  refine s.setStack_keeps (fun room => ?_)
  have := room st
  simp only [Config.stackDepth] at this ⊢
  by_cases full : 3 ≤ (s.stack st).length
  · simp [full]; omega
  · simp [full]; omega

theorem present_keeps (st n : Nat) : Keeps s (s.present st n) := .ite (.refl s) (.ite (s.push_keeps st n) (.refl s))

theorem presentAt_keeps (sts : List Nat) (n : Nat) : Keeps s (s.presentAt sts n) :=
  .foldl sts (fun s st _ => s.present_keeps st n) s

theorem unstack_keeps (st n : Nat) : Keeps s (s.unstack st n) := by
  refine .ite ?_ (.refl s)
  refine Keeps.trans (s.setStack_keeps (fun room => ?_)) (.of_touches (refill_touches _ _) (by decide))
  exact (List.length_filter_le _ _).trans (room st)

theorem unstackAll_keeps (n : Nat) : Keeps s (s.unstackAll n) := .foldl _ (fun s st _ => s.unstack_keeps st n) s

/-- A record is written where no route comes to an entry that is not in use. -/
theorem setAnnRec_keeps {n : Nat} {r : AnnRec}
    (h : s.entry? n = none → (s.annRec n).route = [] → r.route = []) : Keeps s (s.setAnnRec n r) := by
  have touched := s.setAnnRec_touches n r
  have entries : (s.setAnnRec n r).alarm.entries = s.alarm.entries := rfl
  have stack := touched.stack_eq (by decide)
  refine ⟨⟨fun X sound => ⟨sound.1, fun m e he => sound.2 m e he⟩, fun room st => stack st ▸ room st, fun h => h,
    fun h => h, fun h => h, .refl s⟩, fun idle m hm => ?_⟩
  rw [annRec_setAnnRec]
  split
  · subst_vars; exact h hm (idle _ hm)
  · exact idle m hm

theorem updAnnRec_keeps {n : Nat} {f : AnnRec → AnnRec}
    (h : s.entry? n = none → (s.annRec n).route = [] → (f (s.annRec n)).route = []) : Keeps s (s.updAnnRec n f) :=
  s.setAnnRec_keeps h

theorem routeNow_of_none {n : Nat} (h : s.entry? n = none) : s.routeNow n = [] := by simp [routeNow, h]

theorem announceAt_keeps (n : Nat) : Keeps s (s.announceAt n) :=
  (s.updAnnRec_keeps (fun h _ => s.routeNow_of_none h)).trans (presentAt_keeps _ _ n)

theorem represent_keeps (n : Nat) : Keeps s (s.represent n) := by
  have unsilenced := s.updAnnRec_keeps (n := n) (f := fun a => { a with silenced := [] }) (fun _ h => h)
  have presented := unsilenced.trans
    (presentAt_keeps _ ((s.updAnnRec n (fun a => { a with silenced := [] })).annRec n).route n)
  refine presented.trans (.of_touches (l := []) ?_ (by decide))
  intro p _
  cases p <;> first | rfl | exact ⟨rfl, rfl⟩

theorem withdrawStacks_keeps (n : Nat) : Keeps s (s.withdrawStacks n) :=
  (s.unstackAll_keeps n).trans (setAnnRec_keeps _ (fun _ _ => rfl))

theorem leaveRoute_keeps (st n : Nat) : Keeps s (s.leaveRoute st n) :=
  (s.unstack_keeps st n).trans (updAnnRec_keeps _ (fun _ h => h))

theorem rerouteAt_keeps (news : List (Nat × NSet)) (st : Nat) : Keeps s (s.rerouteAt news st) :=
  Keeps.trans (.foldl _ (fun s p _ => s.leaveRoute_keeps st p.1) s) (.foldl _ (fun s p _ => s.present_keeps st p.1) _)

theorem look_isSome_of_mem_keys {α : Type} {t : Tbl α} {k : Nat} (h : k ∈ t.keys) : (t.look k).isSome = true := by
  induction t with
  | nil => simp [Tbl.keys] at h
  | cons p r ih =>
    obtain ⟨k', v⟩ := p
    simp only [Tbl.look]
    split
    · rfl
    · exact ih (by simpa [Tbl.keys, *] using h)

theorem reroute_keeps : Keeps s s.reroute := by
  unfold reroute
  dsimp only
  have presented := Keeps.foldl stationNumbers (f := fun (s' : State) st => s'.rerouteAt
    (s.alarm.entries.keys.map (fun n => (n, s.routeNow n))) st) (fun s' st _ => s'.rerouteAt_keeps _ st) s
  have touched := Touches.foldl (f := fun (s' : State) st => s'.rerouteAt
    (s.alarm.entries.keys.map (fun n => (n, s.routeNow n))) st) (fun s' st => s'.rerouteAt_touches _ st) stationNumbers s
  refine presented.trans ?_
  generalize stationNumbers.foldl _ s = u at touched
  have inUse : ∀ p ∈ s.alarm.entries.keys.map (fun n => (n, s.routeNow n)), u.entry? p.1 ≠ none := fun p hp => by
    obtain ⟨n, hn, rfl⟩ := List.mem_map.mp hp
    have := look_isSome_of_mem_keys hn
    rw [touched.entry?_eq (by decide)]
    exact Option.isSome_iff_ne_none.mp this
  clear touched presented
  generalize s.alarm.entries.keys.map (fun n => (n, s.routeNow n)) = news at inUse
  induction news generalizing u with
  | nil => exact .refl u
  | cons p news ih =>
    refine (u.updAnnRec_keeps (fun h _ => absurd h (inUse p (by simp)))).trans (ih _ (fun q hq => ?_))
    exact (u.updAnnRec_touches p.1 (fun a => { a with route := p.2 })).entry?_eq (by decide) q.1 ▸
      inUse q (by simp [hq])

theorem refillAt_keeps (st : Nat) : Keeps s (s.refillAt st) := by
  unfold refillAt
  split
  · exact .refl s
  · exact .ite (s.push_keeps st _) (.refl s)

theorem refillAll_keeps : Keeps s s.refillAll := .foldl _ (fun s st _ => s.refillAt_keeps st) s

/-- The end of an event takes routes and stacks from the refilled state and leaves the entries. -/
theorem finish_keeps : Keeps s s.finish := by
  have ends := s.reroute_keeps.trans (refillAll_keeps _)
  have touched : Touches [.recs, .attnStacks] s s.reroute.refillAll :=
    .after (refillAll_touches _) (by decide) (s.reroute_touches.mono (by decide))
  have entry := touched.entry?_eq (by decide)
  refine ⟨⟨fun X h => h, fun h => ends.room h, fun h => h, fun h => h, fun h => h, .refl s⟩, fun idle n hn => ?_⟩
  exact ends.routes idle n ((entry n).trans hn)

/-! ### System alarms and the overdue count -/

theorem systemAtReset_sound {n : Nat} (h : Config.ordinaryEntries ≤ n) (p : Priority) (x : Subject) (m : MillTime) :
    EntrySound n { Entry.systemAtReset p x with raiseTime := m } := by
  simp [EntrySound, Entry.systemAtReset, Config.raiseCountMax, h]

/-- R41, R44: the raise count of an entry that is raised again. -/
theorem raiseCount_again (k : Nat) :
    1 ≤ min (k + 1) Config.raiseCountMax ∧ min (k + 1) Config.raiseCountMax ≤ Config.raiseCountMax := by
  simp [Config.raiseCountMax]

theorem sysRaise_keeps {n : Nat} (hn : Config.ordinaryEntries ≤ n) (x : Subject) : Keeps s (s.sysRaise n x) := by
  unfold sysRaise
  split
  · exact (s.setEntry_keeps (fun _ => systemAtReset_sound hn _ x _)).trans (announceAt_keeps _ n)
  case h_2 e he =>
    obtain ⟨low, high⟩ := raiseCount_again e.raiseCount
    refine .ite (s.setEntry_keeps_of_look he (fun h => ?_)) ((s.setEntry_keeps_of_look he (fun h => ?_)).trans
      (represent_keeps _ n))
    · obtain ⟨acked, stage, -, -, cur, tag⟩ := h
      exact ⟨acked, stage, low, high, cur, tag⟩
    · obtain ⟨-, stage, -, -, cur, tag⟩ := h
      exact ⟨.inl rfl, stage, low, high, cur, tag⟩

theorem sysUpdate_keeps (n : Nat) (x : Subject) : Keeps s (s.sysUpdate n x) := by
  unfold sysUpdate
  split
  · exact .refl s
  case h_2 e he => exact .ite (s.setEntry_keeps_of_look he (fun h => h)) (.refl s)

theorem annRec_withdrawStacks (n m : Nat) :
    (s.withdrawStacks n).annRec m = if m = n then ⟨[], [], none⟩ else s.annRec m := by
  rw [withdrawStacks, annRec_setAnnRec, (s.unstackAll_touches n).annRec_eq (by decide)]

theorem sysRemove_keeps (n : Nat) : Keeps s (s.sysRemove n) :=
  (s.withdrawStacks_keeps n).trans (dropEntry_keeps _ (by simp [annRec_withdrawStacks]))

theorem sysReturn_keeps (n : Nat) : Keeps s (s.sysReturn n) := by
  unfold sysReturn
  split
  · exact .refl s
  case h_2 e he =>
    refine .ite (.refl s) ?_
    split
    · exact s.sysRemove_keeps n
    case isFalse unacked =>
      refine s.setEntry_keeps_of_look he (fun h => ?_)
      obtain ⟨-, rest⟩ := h
      exact ⟨.inr (by simpa using unacked), rest⟩

theorem sysFollow_keeps {n : Nat} (hn : Config.ordinaryEntries ≤ n) (before after : NSet) (x : Subject) :
    Keeps s (s.sysFollow n before after x) :=
  .ite (.refl s) (.ite (s.sysRaise_keeps hn x) (.ite (s.sysReturn_keeps n) (s.sysUpdate_keeps n x)))

/-- The state with another overdue count (R102). -/
def withOverdue (k : Nat) : State := { s with ann := { s.ann with overdue := k } }

theorem overdueUp_eq : s.overdueUp = (s.withOverdue (s.ann.overdue + 1)).sysRaise 518 (.count (s.ann.overdue + 1)) := rfl

theorem overdueDown_eq : s.overdueDown = if s.ann.overdue - 1 = 0 then (s.withOverdue (s.ann.overdue - 1)).sysReturn 518
    else (s.withOverdue (s.ann.overdue - 1)).sysUpdate 518 (.count (s.ann.overdue - 1)) := rfl

theorem withOverdue_touches (k : Nat) : Touches [.overdue] s (s.withOverdue k) := s.setOverdue_touches k

theorem withOverdue_keeps (k : Nat) : Keeps s (s.withOverdue k) := .of_touches (s.withOverdue_touches k) (by decide)

theorem overdueUp_keeps : Keeps s s.overdueUp := (s.withOverdue_keeps _).trans (sysRaise_keeps _ (by decide) _)

theorem overdueDown_keeps : Keeps s s.overdueDown :=
  .ite ((s.withOverdue_keeps _).trans (sysReturn_keeps _ 518)) ((s.withOverdue_keeps _).trans (sysUpdate_keeps _ 518 _))

theorem withdraw_keeps (n : Nat) : Keeps s (s.withdraw n) := by
  unfold withdraw
  split
  · exact .refl s
  · exact .ite ((s.withdrawStacks_keeps n).trans (overdueDown_keeps _)) (s.withdrawStacks_keeps n)

end State

end Sys2Proof.Machine
end

section
/-! PROOFS. What the operations of the Flood Monitor, the Alarm Processor and the blocks behind them keep of the tables. -/

namespace Sys2Proof.Machine

namespace State

variable (s : State)

/-! ### Sessions and loads hold nothing of what is kept -/

theorem hands_setHand {a : Nat} {x : Handover} (h : Handover.Lessens (s.hand.look a) (some x)) :
    Hands s { s with hand := s.hand.put a x } := fun b => by
  change Handover.Lessens _ (Tbl.look (s.hand.put a x) b)
  rw [Tbl.look_put]
  split
  · subst_vars; exact h
  · exact .refl _

theorem updSession_hands {f : Session → Session} (h : ∀ x : Session, x.Relisted (f x)) (a : Nat) : Hands s (s.updSession a f) := by
  unfold updSession
  split
  case h_1 x found => exact s.hands_setHand (found ▸ h x)
  case h_2 x found => exact s.hands_setHand (found ▸ h x)
  · exact .refl s

/-- What is kept of the other tables by an operation that writes sessions. -/
theorem keeps_but_hands {l : List Part} {t : State} (h : Touches l s t) (hl : ∀ p ∈ keptParts, p ≠ .handover → p ∉ l) :
    Keeps s { t with hand := s.hand } :=
  .of_touches (l := l.filter (fun p => decide (p ≠ .handover))) (fun p hp => by
    by_cases ho : p = .handover
    · subst ho; rfl
    · have := h p (fun hm => hp (List.mem_filter.mpr ⟨hm, by simp [ho]⟩))
      cases p <;> first | exact this | exact absurd rfl ho)
    (fun p hp hm => by
      have := List.mem_filter.mp hm
      exact hl p hp (by simpa using this.2) this.1)

theorem keeps_of_hands {l : List Part} {t : State} (h : Touches l s t) (hl : ∀ p ∈ keptParts, p ≠ .handover → p ∉ l)
    (hands : Hands s t) : Keeps s t :=
  have rest := s.keeps_but_hands h hl
  ⟨⟨rest.sound, rest.room, rest.deferred, rest.overrides, rest.transit, hands⟩, rest.routes⟩

theorem kept_of_touches {l : List Part} {t : State} (h : Touches l s t) (hl : ∀ p ∈ keptParts, p ≠ .handover → p ∉ l) :
    Kept s t :=
  have rest := s.keeps_but_hands h hl
  ⟨rest.sound, rest.room, rest.deferred, rest.overrides, rest.transit, rest.routes⟩

theorem updSession_keeps {f : Session → Session} (h : ∀ x : Session, x.Relisted (f x)) (a : Nat) : Keeps s (s.updSession a f) :=
  s.keeps_of_hands (s.updSession_touches a f) (by decide) (s.updSession_hands h a)

theorem listItem_relisted (i : Item) (x : Session) : x.Relisted (listItem x i) := by
  unfold listItem
  split <;> rfl

theorem appendItem_keeps (a : Nat) (r : ItemRef) (p : Option Priority) : Keeps s (s.appendItem a r p) :=
  .ite (.after (.of_touches (noteItems_touches _ a) (by decide)) (s.updSession_keeps (listItem_relisted _) a)) (.refl s)

theorem resolveItems_keeps (a : Nat) (p : ItemRef → Bool) : Keeps s (s.resolveItems a p) := by
  unfold resolveItems
  split
  · exact .refl s
  · exact .ite (.after (.of_touches (noteItems_touches _ a) (by decide)) (s.updSession_keeps (by intro _; rfl) a)) (.refl s)

theorem repriceItems_keeps (a : Nat) (r : Ref) (p : Priority) : Keeps s (s.repriceItems a r p) :=
  s.updSession_keeps (by intro _; rfl) a

theorem setRelease_keeps (a : Nat) (x : Option Nat) : Keeps s (s.setRelease a x) :=
  .of_touches (s.setRelease_touches a x) (by decide)

theorem addCounted_keeps (a : Nat) (p : Priority) : Keeps s (s.addCounted a p) :=
  .of_touches (s.addCounted_touches a p) (by decide)

/-! ### The Flood Monitor -/

theorem overflowTest_keeps : Keeps s s.overflowTest := by
  refine .ite (Keeps.trans (.of_touches (l := [.overflow, .overflowSubject]) ?_ (by decide)) (sysReturn_keeps _ 515))
    (.refl s)
  intro p hp
  cases p <;> first | rfl | exact ⟨rfl, rfl⟩ | exact absurd (by decide) hp

/-- The Deferred List is written alone. -/
theorem setDeferred_keeps {l : List DeferredItem} (h : s.DeferredRoom → l.length ≤ Config.deferredCapacity) :
    Keeps s { s with flood := { s.flood with deferred := l } } :=
  ⟨⟨fun _ h => h, fun h => h, h, fun h => h, fun h => h, .refl s⟩, fun h => h⟩

theorem undefer_keeps (n : Nat) : Keeps s (s.undefer n) := by
  unfold undefer
  split
  · exact .refl s
  · have shorter := (s.setDeferred_keeps (l := s.flood.deferred.filter (fun x => decide (x.ref.num ≠ n)))
      (fun room => (List.length_filter_le _ _).trans room)).trans (overflowTest_keeps _)
    exact .ite (shorter.trans ((setRelease_keeps _ _ none).trans (resolveItems_keeps _ _ _))) shorter

theorem defer_keeps {n : Nat} (h : s.flood.deferred.length < Config.deferredCapacity) (a : Nat) :
    Keeps s (s.defer n a) :=
  (s.setDeferred_keeps (fun _ => by simpa using h)).trans (updEntry_keeps _ (fun _ _ h => h))

theorem annunciate_keeps (n : Nat) : Keeps s (s.annunciate n) := by
  unfold annunciate
  split
  · exact .refl s
  case h_2 e he =>
    dsimp only
    exact .after (appendItem_keeps _ _ _ _) (.after (announceAt_keeps _ n) (.after (updAnnRec_keeps _ (fun _ h => h))
      (s.setEntry_keeps_of_look he (fun h => h))))

theorem noteOverflow_keeps (a : Nat) : Keeps s (s.noteOverflow a) := by
  refine Keeps.trans (.of_touches (l := [.overflow, .overflowSubject, .overflows]) ?_ (by decide))
    (sysRaise_keeps _ (by decide) _)
  intro p hp
  cases p <;> first | rfl | exact ⟨rfl, rfl⟩ | exact absurd (by decide) hp

theorem admitEntry_keeps (n : Nat) (counted : Bool) : Keeps s (s.admitEntry n counted) := by
  unfold admitEntry
  split
  · exact .refl s
  case h_2 e _ =>
    have weighed : Keeps s (if counted then s.addCounted e.area e.cur else s) :=
      .ite (s.addCounted_keeps _ _) (.refl s)
    dsimp only
    split
    · split
      case isTrue room => exact s.defer_keeps room _
      case isFalse => exact weighed.trans ((noteOverflow_keeps _ _).trans (annunciate_keeps _ n))
    · exact weighed.trans (annunciate_keeps _ n)

theorem releaseOldest_keeps (a : Nat) : Keeps s (s.releaseOldest a) := by
  unfold releaseOldest
  split
  · exact s.setRelease_keeps a none
  case h_2 d _ _ =>
    dsimp only
    split
    · exact s.undefer_keeps _
    case h_2 e _ =>
      have released : Keeps s ((((s.undefer d.ref.num).updEntry d.ref.num
          (fun e => { e with disp := .annunciated })).addCounted a e.cur).annunciate d.ref.num) :=
        .after (annunciate_keeps _ _) (.after (addCounted_keeps _ a _) (.after (updEntry_keeps _ (fun _ _ h => h))
          (s.undefer_keeps _)))
      exact .ite released (.ite (.after (setRelease_keeps _ a _) released) (.after (setRelease_keeps _ a _) released))

/-! ### The Alarm Processor -/

theorem decideUnshelved_keeps (n : Nat) (counted : Bool) : Keeps s (s.decideUnshelved n counted) := by
  unfold decideUnshelved
  split
  · exact .refl s
  case h_2 e he => exact .ite (s.setEntry_keeps_of_look he (fun h => h)) (s.admitEntry_keeps n counted)

/-- A shelf acknowledges what it finds, so only an ACTIVE entry may be decided (R49 step 1). -/
theorem decideEntry_keeps {n : Nat} (active : ∀ e, s.entry? n = some e → e.active = true) (counted : Bool) :
    Keeps s (s.decideEntry n counted) := by
  unfold decideEntry
  split
  · exact .refl s
  case h_2 e he =>
    split
    · exact s.setEntry_keeps_of_look he (fun h => ⟨.inl (active e he), h.2⟩)
    · exact s.decideUnshelved_keeps n counted

theorem resetForDecision_keeps (n : Nat) : Keeps s (s.resetForDecision n) := by
  refine (s.updEntry_keeps (fun e _ h => ?_)).trans (updAnnRec_keeps _ (fun _ h => h))
  obtain ⟨-, -, low, high, -, tag⟩ := h
  exact ⟨.inr rfl, Nat.zero_le _, low, high, .inl rfl, tag⟩

theorem entry?_updEntry (n : Nat) (f : Entry → Entry) (m : Nat) :
    (s.updEntry n f).entry? m = if m = n then (s.entry? n).map f else s.entry? m := by
  unfold updEntry
  split
  case h_1 none_ =>
    split
    · subst_vars; simp [none_]
    · rfl
  case h_2 e he => rw [entry_setEntry, he, Option.map_some]

/-- R53: a re-decision starts UNACKED, at the configured priority and stage 0. -/
theorem entry?_resetForDecision (n m : Nat) : (s.resetForDecision n).entry? m =
    if m = n then (s.entry? n).map (fun e => { e with ack := none, cur := e.cfg, stage := 0 }) else s.entry? m := by
  rw [resetForDecision, (updAnnRec_touches _ n _).entry?_eq (by decide), entry?_updEntry]

theorem active_of_freedChild {tag n : Nat} (h : s.freedChild tag n = true) :
    ∃ e, s.entry? n = some e ∧ e.active = true := by
  unfold freedChild at h
  split at h
  · simp at h
  · simp_all

theorem parentDeparted_keeps (tag : Nat) : Keeps s (s.parentDeparted tag) := by
  refine .foldl _ (fun s n _ => ?_) s
  split
  case isTrue child =>
    obtain ⟨e, he, active⟩ := s.active_of_freedChild child
    refine (s.resetForDecision_keeps n).trans (decideEntry_keeps _ (fun e' he' => ?_) true)
    rw [entry?_resetForDecision, if_pos rfl, he] at he'
    obtain rfl := Option.some.inj he'
    exact active
  case isFalse => exact .refl s

theorem tableFullTest_keeps : Keeps s s.tableFullTest := by
  refine .ite (Keeps.trans (.of_touches (l := [.tableFull]) ?_ (by decide)) (sysReturn_keeps _ 514)) (.refl s)
  intro p hp
  cases p <;> first | rfl | exact ⟨rfl, rfl⟩ | exact absurd (by decide) hp

theorem setGens_keeps (g : Tbl Nat) : Keeps s { s with alarm := { s.alarm with gens := g } } := by
  refine .of_touches (l := [.gens]) ?_ (by decide)
  intro p hp
  cases p <;> first | rfl | exact ⟨rfl, rfl⟩ | exact absurd (by decide) hp

theorem freeOrdinary_keeps {n : Nat} (h : (s.annRec n).route = []) : Keeps s (s.freeOrdinary n) :=
  (s.dropEntry_keeps h).trans ((setGens_keeps _ _).trans (tableFullTest_keeps _))

/-- An entry that is withdrawn is on no route, whatever alarm the overdue count moves. -/
theorem route_withdraw {n : Nat} (idle : s.IdleRoutes) : ((s.withdraw n).annRec n).route = [] := by
  have returned (u : State) (m : Nat) (h : (u.annRec n).route = []) : ((u.sysReturn m).annRec n).route = [] := by
    unfold sysReturn
    split
    · exact h
    · split
      · exact h
      · split
        · rw [sysRemove, (dropEntry_touches _ m).annRec_eq (by decide), annRec_withdrawStacks]
          split
          · rfl
          · exact h
        · exact (u.setEntry_touches m _).annRec_eq (by decide) n ▸ h
  have updated (u : State) (m : Nat) (x : Subject) (h : (u.annRec n).route = []) :
      ((u.sysUpdate m x).annRec n).route = [] := by
    unfold sysUpdate
    split
    · exact h
    · split
      · exact (u.setEntry_touches m _).annRec_eq (by decide) n ▸ h
      · exact h
  have counted (u : State) (h : (u.annRec n).route = []) : (u.overdueDown.annRec n).route = [] := by
    rw [overdueDown_eq]
    split
    · exact returned (u.withOverdue _) 518 h
    · exact updated (u.withOverdue _) 518 _ h
  unfold withdraw
  split
  case h_1 unused => exact idle n unused
  · have withdrawn : ((s.withdrawStacks n).annRec n).route = [] := by simp [annRec_withdrawStacks]
    dsimp only
    split
    · exact counted _ withdrawn
    · exact withdrawn

/-- R59 steps 1 and 3. -/
theorem withdraw_freeOrdinary_keeps (n a : Nat) (p : ItemRef → Bool) :
    Keeps s (((s.withdraw n).resolveItems a p).freeOrdinary n) := by
  have before := (s.withdraw_keeps n).trans (resolveItems_keeps _ a p)
  have route (idle : s.IdleRoutes) : (((s.withdraw n).resolveItems a p).annRec n).route = [] := by
    rw [(resolveItems_touches _ a p).annRec_eq (by decide)]
    exact s.route_withdraw idle
  refine ⟨?_, fun idle => (freeOrdinary_keeps _ (route idle)).routes (before.routes idle)⟩
  refine before.toBounded.trans ?_
  generalize (s.withdraw n).resolveItems a p = u
  have dropped : Bounded u (u.dropEntry n) := by
    have touched := u.dropEntry_touches n
    have deferred : (u.dropEntry n).flood.deferred = u.flood.deferred := touched .deferred (by decide)
    have overrides : (u.dropEntry n).overrides = u.overrides := touched .overrides (by decide)
    have transit : (u.dropEntry n).gate.transit = u.gate.transit := touched .transit (by decide)
    refine ⟨fun X sound => u.soundBut_dropEntry (sound.mono (fun _ => .inl)), fun h st => ?_, fun h => ?_, fun h => ?_,
      fun h => ?_, .of_eq (touched .handover (by decide))⟩
    · exact touched.stack_eq (by decide) st ▸ h st
    · rwa [DeferredRoom, deferred]
    · rwa [OverrideRoom, overrides]
    · rwa [TransitRoom, transit]
  exact dropped.trans ((setGens_keeps _ _).trans (tableFullTest_keeps _)).toBounded

theorem removeEntry_keeps (n : Nat) : Keeps s (s.removeEntry n) := by
  unfold removeEntry
  split
  · exact .refl s
  case h_2 e _ =>
    have removed : Keeps s ((((s.undefer n).withdraw n).resolveItems e.area (namesAlarm (s.refOf n))).freeOrdinary n) :=
      (s.undefer_keeps n).trans (withdraw_freeOrdinary_keeps _ n _ _)
    refine .ite ?_ removed
    split
    · exact removed
    · exact removed.trans (parentDeparted_keeps _ _)

theorem newEntry_sound {n : Nat} (h : n < Config.ordinaryEntries) (tag cond a : Nat) (p : Priority) (time : MillTime) :
    EntrySound n (newEntry tag cond a p time) := by
  simp [EntrySound, newEntry, Config.raiseCountMax, h]

theorem lt_of_freeEntry? {n : Nat} (h : s.freeEntry? = some n) : n < Config.ordinaryEntries := by
  simp only [freeEntry?, Option.ite_none_right_eq_some] at h
  obtain ⟨low, found⟩ := h
  exact Option.some.inj found ▸ low

theorem dropRaise_keeps (a : Nat) : Keeps s (s.dropRaise a) := by
  refine Keeps.trans (.of_touches (l := [.dropped, .tableFull]) ?_ (by decide)) (sysRaise_keeps _ (by decide) _)
  intro p hp
  cases p <;> first | rfl | exact ⟨rfl, rfl⟩ | exact absurd (by decide) hp

theorem createEntry_keeps (tag cond a : Nat) (p : Priority) (r : Bool) (time : MillTime) :
    Keeps s (s.createEntry tag cond a p r time) := by
  unfold createEntry
  split
  · exact s.dropRaise_keeps a
  case h_2 n free =>
    refine (s.setEntry_keeps (fun _ => newEntry_sound (s.lt_of_freeEntry? free) ..)).trans (decideEntry_keeps _ ?_ _)
    intro e he
    rw [entry_setEntry, if_pos rfl] at he
    exact Option.some.inj he ▸ rfl

theorem reRaise_keeps (n : Nat) (r : Bool) : Keeps s (s.reRaise n r) := by
  unfold reRaise
  split
  · exact .refl s
  case h_2 e he =>
    obtain ⟨low, high⟩ := raiseCount_again e.raiseCount
    have again : Keeps s (s.setEntry n { e with
        active := true, returnTime := none, raiseCount := min (e.raiseCount + 1) Config.raiseCountMax }) := by
      refine s.setEntry_keeps_of_look he (fun h => ?_)
      obtain ⟨-, stage, -, -, cur, tag⟩ := h
      exact ⟨.inl rfl, stage, low, high, cur, tag⟩
    exact .ite ((Keeps.ite again (again.trans (addCounted_keeps _ _ _))).trans (represent_keeps _ n)) again

theorem entry?_of_entryOf? {tag cond n : Nat} {e : Entry} (wf : Tbl.wf s.alarm.entries)
    (h : s.entryOf? tag cond = some (n, e)) : s.entry? n = some e := Tbl.look_of_mem wf (List.mem_of_find?_eq_some h)

/-- What a notice finds is written back as sound as it was found. -/
theorem setEntry_keeps_of_entryOf? {tag cond n : Nat} {e e' : Entry} (found : s.entryOf? tag cond = some (n, e))
    (h : EntrySound n e → EntrySound n e') : Keeps s (s.setEntry n e') := by
  have touched := s.setEntry_touches n e'
  refine .of_entries touched (fun X sound => ?_) (fun idle m hm => ?_)
  · exact (s.setEntry_keeps_of_look (s.entry?_of_entryOf? sound.1 found) h).sound X sound
  · rw [entry_setEntry] at hm
    split at hm
    · simp at hm
    · exact touched.annRec_eq (by decide) m ▸ idle m hm

theorem applyRaise_keeps (tag cond a : Nat) (p : Priority) (r : Bool) (time : MillTime) :
    Keeps s (s.applyRaise tag cond a p r time) := by
  unfold applyRaise
  split
  · exact s.createEntry_keeps tag cond a p r time
  case h_2 n e found =>
    have confirmed : Keeps s (s.setEntry n { e with stale := false, confirmed := true }) :=
      s.setEntry_keeps_of_entryOf? found (fun h => h)
    refine .ite (.ite confirmed (confirmed.trans ?_)) (confirmed.trans (reRaise_keeps _ _ r))
    exact .of_touches (countDuplicate_touches _ _) (by decide)

theorem returnActive_keeps (n : Nat) (time : MillTime) : Keeps s (s.returnActive n time) := by
  unfold returnActive
  split
  · exact .refl s
  case h_2 e he =>
    split
    · exact s.removeEntry_keeps n
    case isFalse kept =>
      have returned : Keeps s (s.setEntry n { e with active := false, returnTime := some time }) :=
        s.setEntry_keeps_of_look he (fun h => ⟨.inr (by simp at kept; exact kept.1), h.2⟩)
      dsimp only
      split
      · exact returned
      · exact returned.trans (parentDeparted_keeps _ _)

theorem applyReturn_keeps {tag cond n : Nat} {e : Entry} (found : s.entryOf? tag cond = some (n, e)) (time : MillTime) :
    Keeps s (s.applyReturn n e time) := by
  have unstaled : Keeps s (s.setEntry n { e with stale := false }) := s.setEntry_keeps_of_entryOf? found (fun h => h)
  exact .ite (unstaled.trans (returnActive_keeps _ n time))
    (unstaled.trans (.of_touches (countDuplicate_touches _ _) (by decide)))

theorem takeNotice_keeps (tag cond : Nat) (raised resync : Bool) (time : MillTime) :
    Keeps s (s.takeNotice tag cond raised resync time) := by
  have discarded (a : Nat) : Keeps s (s.countDiscarded a) := .of_touches (s.countDiscarded_touches a) (by decide)
  unfold takeNotice
  split
  · exact .of_touches (s.unknownTag_touches _) (by decide)
  · split
    · exact discarded _
    · refine .ite (discarded _) (.ite (s.applyRaise_keeps ..) ?_)
      split
      · exact discarded _
      case h_2 found => exact s.applyReturn_keeps found time

theorem markStale_keeps : Keeps s s.markStale :=
  .foldl (f := fun s n => s.updEntry n (fun e => { e with stale := true })) _
    (fun s _ _ => s.updEntry_keeps (fun _ _ h => h)) s

theorem wf_map_snd {α : Type} {t : Tbl α} (wf : Tbl.wf t) (f : Nat × α → α) :
    Tbl.wf (t.map (fun p => (p.1, f p))) := List.Pairwise.map _ (fun _ _ h => h) wf

theorem look_map_snd {α : Type} (t : Tbl α) (f : Nat → α → α) (k : Nat) :
    Tbl.look (t.map (fun p => (p.1, f p.1 p.2))) k = (t.look k).map (f k) := by
  induction t with
  | nil => rfl
  | cons p r ih =>
    simp only [List.map_cons, Tbl.look, ih]
    split
    · subst_vars; rfl
    · rfl

/-- R46 *Clear confirmed*: what it leaves of an entry. -/
def unconfirmed (n : Nat) (e : Entry) : Entry := if n < Config.ordinaryEntries then { e with confirmed := false } else e

theorem clearConfirmed_entries :
    s.clearConfirmed.alarm.entries = s.alarm.entries.map (fun p => (p.1, unconfirmed p.1 p.2)) := by
  simp only [clearConfirmed, unconfirmed]
  refine List.map_congr_left (fun p _ => ?_)
  split <;> rfl

theorem entry?_clearConfirmed (n : Nat) : s.clearConfirmed.entry? n = (s.entry? n).map (unconfirmed n) := by
  rw [entry?, clearConfirmed_entries]
  exact look_map_snd _ _ _

theorem clearConfirmed_keeps : Keeps s s.clearConfirmed := by
  refine .of_entries s.clearConfirmed_touches (fun X sound => ⟨?_, fun n e he hn => ?_⟩) (fun idle n hn => ?_)
  · rw [clearConfirmed_entries]
    exact wf_map_snd sound.1 (fun p => unconfirmed p.1 p.2)
  · rw [entry?_clearConfirmed] at he
    obtain ⟨e', he', rfl⟩ := Option.map_eq_some_iff.mp he
    have h := sound.2 n e' he' hn
    unfold unconfirmed
    split <;> exact h
  · rw [s.clearConfirmed_touches.annRec_eq (by decide)]
    rw [entry?_clearConfirmed, Option.map_eq_none_iff] at hn
    exact idle n hn

theorem sweep_keeps : Keeps s s.sweep := by
  unfold sweep
  dsimp only
  refine Keeps.trans (.foldl _ (fun u n _ => .ite (u.returnActive_keeps n _) (.refl u)) s)
    (.foldl _ (fun u n _ => u.updEntry_keeps (fun e _ h => ?_)) _)
  split <;> exact h

theorem relayFor_keeps (e : Entry) (op : Nat) : Keeps s (s.relayFor e op) :=
  .of_touches (s.relayFor_touches e op) (by decide)

end State

end Sys2Proof.Machine
end

section
/-! PROOFS. What every event keeps of the tables, and so the invariants on alarm entries, on capacities and on routes. -/

namespace Sys2Proof.Machine

namespace State

variable (s : State)

/-! ### Acknowledgement (R57) -/

/-- The entry that is acknowledged is an exception until it is removed. -/
theorem soundBut_updEntry {X : Nat → Prop} (h : s.SoundBut X) (n : Nat) (f : Entry → Entry) :
    (s.updEntry n f).SoundBut (fun m => X m ∨ m = n) := by
  refine ⟨?_, fun m e he hm => ?_⟩
  · unfold updEntry
    split
    · exact h.1
    · exact Tbl.wf_put h.1 _ _
  · rw [not_or] at hm
    rw [entry?_updEntry, if_neg hm.2] at he
    exact h.2 m e he hm.1

/-- What follows the acknowledgement removes the entry, so that nothing unsound is left. -/
theorem keeps_of_exception {n : Nat} {t u : State} (h : Keeps s t) (f : Entry → Entry)
    (sound : ∀ X, (t.updEntry n f).SoundBut (fun m => X m ∨ m = n) → u.SoundBut X)
    (kept : Keeps (t.updEntry n f) u) : Keeps s u := by
  have touched := t.updEntry_touches n f
  refine ⟨⟨fun X hX => sound X (soundBut_updEntry t (h.sound X hX) n f), fun hx => kept.room ?_, fun hx => kept.deferred ?_,
    fun hx => kept.overrides ?_, fun hx => kept.transit ?_,
    fun a => (h.hands a).trans ((Hands.of_eq (touched .handover (by decide)) a).trans (kept.hands a))⟩, fun hx => kept.routes ?_⟩
  · exact fun st => touched.stack_eq (by decide) st ▸ h.room hx st
  · have same : (t.updEntry n f).flood.deferred = t.flood.deferred := touched .deferred (by decide)
    rw [DeferredRoom, same]
    exact h.deferred hx
  · have same : (t.updEntry n f).overrides = t.overrides := touched .overrides (by decide)
    rw [OverrideRoom, same]
    exact h.overrides hx
  · have same : (t.updEntry n f).gate.transit = t.gate.transit := touched .transit (by decide)
    rw [TransitRoom, same]
    exact h.transit hx
  · intro m hm
    rw [touched.annRec_eq (by decide)]
    rw [entry?_updEntry] at hm
    split at hm
    · subst_vars
      exact h.routes hx _ (by simpa using hm)
    · exact h.routes hx m hm

theorem soundBut_sysRemove {X : Nat → Prop} {n : Nat} (h : s.SoundBut (fun m => X m ∨ m = n)) :
    (s.sysRemove n).SoundBut X :=
  soundBut_dropEntry _ ((s.withdrawStacks_keeps n).sound _ h)

theorem soundBut_removeEntry {X : Nat → Prop} {n : Nat} (h : s.SoundBut (fun m => X m ∨ m = n)) :
    (s.removeEntry n).SoundBut X := by
  unfold removeEntry
  split
  case h_1 unused => exact ⟨h.1, fun m e he hm => h.2 m e he (by rintro (hx | rfl) <;> simp_all)⟩
  case h_2 e _ =>
    have removed : ((((s.undefer n).withdraw n).resolveItems e.area (namesAlarm (s.refOf n))).freeOrdinary n).SoundBut X := by
      have before := (s.undefer_keeps n).trans ((withdraw_keeps _ n).trans (resolveItems_keeps _ e.area (namesAlarm (s.refOf n))))
      have dropped := soundBut_dropEntry _ (before.sound _ h)
      exact ((setGens_keeps _ _).trans (tableFullTest_keeps _)).sound _ dropped
    dsimp only
    split
    · split
      · exact removed
      · exact (parentDeparted_keeps _ _).sound _ removed
    · exact removed

/-- R94 at an ACK leaves the entry itself as it is: it is OVERDUE ALARM that changes, for an ordinary entry. -/
theorem entry?_sysReturn_ne {n m : Nat} (h : m ≠ n) : (s.sysReturn n).entry? m = s.entry? m := by
  unfold sysReturn
  split
  · rfl
  · split
    · rfl
    · split
      · rw [sysRemove, entry?_dropEntry, if_neg h, (s.withdrawStacks_touches n).entry?_eq (by decide)]
      · rw [entry_setEntry, if_neg h]

theorem entry?_sysUpdate_ne {n m : Nat} (h : m ≠ n) (x : Subject) : (s.sysUpdate n x).entry? m = s.entry? m := by
  unfold sysUpdate
  split
  · rfl
  · split
    · rw [entry_setEntry, if_neg h]
    · rfl

theorem entry?_overdueDown_ne {m : Nat} (h : m ≠ 518) : s.overdueDown.entry? m = s.entry? m := by
  rw [overdueDown_eq]
  split
  · exact entry?_sysReturn_ne _ h
  · exact entry?_sysUpdate_ne _ h _

theorem entry?_withdraw_ne (n : Nat) {m : Nat} (h : m ≠ 518) : (s.withdraw n).entry? m = s.entry? m := by
  unfold withdraw
  split
  · rfl
  · have off := (s.withdrawStacks_touches n).entry?_eq (by decide) m
    dsimp only
    split
    · exact (entry?_overdueDown_ne _ h).trans off
    · exact off

/-- A sound system alarm has no tag, so its withdrawal counts nothing. -/
theorem entry?_withdraw_self {n : Nat} {e : Entry} (he : s.entry? n = some e) (h : n = 518 → e.tag = none) :
    (s.withdraw n).entry? n = some e := by
  by_cases hn : n = 518
  · simp only [withdraw, he, h hn, ne_eq, not_true_eq_false, false_and, if_false]
    rw [(s.withdrawStacks_touches n).entry?_eq (by decide), he]
  · rw [s.entry?_withdraw_ne n hn, he]

theorem overflowTest_entry?_ne {m : Nat} (h : m ≠ 515) : s.overflowTest.entry? m = s.entry? m := by
  unfold overflowTest
  split
  · exact entry?_sysReturn_ne _ h
  · rfl

theorem entry?_undefer_ne (n : Nat) {m : Nat} (h : m ≠ 515) : (s.undefer n).entry? m = s.entry? m := by
  unfold undefer
  split
  · rfl
  · dsimp only
    split
    · rw [(resolveItems_touches _ _ _).entry?_eq (by decide), (setRelease_touches _ _ none).entry?_eq (by decide)]
      exact overflowTest_entry?_ne _ h
    · exact overflowTest_entry?_ne _ h

/-- What a return leaves of an entry names the tag that the entry named. -/
theorem tag_sysReturn {n m : Nat} {e' : Entry} (h : (s.sysReturn n).entry? m = some e') :
    ∃ e, s.entry? m = some e ∧ e'.tag = e.tag := by
  by_cases hm : m = n
  · subst hm
    unfold sysReturn at h
    split at h
    case h_1 unused => exact ⟨e', h, rfl⟩
    case h_2 e he =>
      split at h
      · exact ⟨e', h, rfl⟩
      · split at h
        · rw [sysRemove, entry?_dropEntry, if_pos rfl] at h
          simp at h
        · rw [entry_setEntry, if_pos rfl] at h
          exact ⟨e, he, Option.some.inj h ▸ rfl⟩
  · exact ⟨e', by rw [← s.entry?_sysReturn_ne hm]; exact h, rfl⟩

theorem tag_sysUpdate {n m : Nat} {x : Subject} {e' : Entry} (h : (s.sysUpdate n x).entry? m = some e') :
    ∃ e, s.entry? m = some e ∧ e'.tag = e.tag := by
  by_cases hm : m = n
  · subst hm
    unfold sysUpdate at h
    split at h
    case h_1 unused => exact ⟨e', h, rfl⟩
    case h_2 e he =>
      split at h
      · rw [entry_setEntry, if_pos rfl] at h
        exact ⟨e, he, Option.some.inj h ▸ rfl⟩
      · exact ⟨e', h, rfl⟩
  · exact ⟨e', by rw [← s.entry?_sysUpdate_ne hm x]; exact h, rfl⟩

theorem tag_overdueDown {m : Nat} {e' : Entry} (h : s.overdueDown.entry? m = some e') :
    ∃ e, s.entry? m = some e ∧ e'.tag = e.tag := by
  rw [overdueDown_eq] at h
  split at h
  · exact tag_sysReturn (s.withOverdue (s.ann.overdue - 1)) h
  · exact tag_sysUpdate (s.withOverdue (s.ann.overdue - 1)) h

theorem tag_withdraw {n m : Nat} {e' : Entry} (h : (s.withdraw n).entry? m = some e') :
    ∃ e, s.entry? m = some e ∧ e'.tag = e.tag := by
  have off := (s.withdrawStacks_touches n).entry?_eq (by decide) m
  unfold withdraw at h
  split at h
  · exact ⟨e', h, rfl⟩
  · dsimp only at h
    split at h
    · exact off ▸ tag_overdueDown _ h
    · exact ⟨e', off ▸ h, rfl⟩

theorem acknowledge_keeps (n op : Nat) : Keeps s (s.acknowledge n op) := by
  unfold acknowledge
  split
  · exact .refl s
  case h_2 e he =>
    refine .after (relayFor_keeps _ e op) ?_
    have withdrawn : Keeps s ((s.touch n).withdraw n) := .after (withdraw_keeps _ n) (s.touch_keeps n)
    have entry : (s.touch n).entry? n = some e := ((s.touch_touches n).entry?_eq (by simp) n).trans he
    split
    case isTrue =>
      split
      · exact s.keeps_of_exception withdrawn _ (fun X h => soundBut_sysRemove _ h) (sysRemove_keeps _ n)
      · exact s.keeps_of_exception withdrawn _ (fun X h => soundBut_removeEntry _ h) (removeEntry_keeps _ n)
    case isFalse active =>
      have acked : Keeps s
          (((s.touch n).withdraw n).updEntry n (fun e => { e with ack := some ⟨s.time.mill, op⟩ })) := by
        refine .after (updEntry_keeps _ (fun e' he' sound => ⟨.inl ?_, sound.2⟩)) withdrawn
        obtain ⟨-, -, -, -, -, tag⟩ := sound
        obtain ⟨e'', he'', sameTag⟩ := tag_withdraw _ he'
        obtain rfl : e = e'' := Option.some.inj (entry.symm.trans he'')
        rw [entry?_withdraw_self _ entry (fun h518 => ?_)] at he'
        · exact Option.some.inj he' ▸ (by simpa using active)
        · have untagged : ¬ e'.tag.isSome = true := fun h => by
            have := tag.mp h
            simp [h518, Config.ordinaryEntries] at this
          simpa [sameTag] using untagged
      split
      · exact .after (updEntry_keeps _ (fun _ _ h => h)) (.after (undefer_keeps _ n) acked)
      · exact acked

end State

end Sys2Proof.Machine
end

section
/-! PROOFS. What ownership, the Command Gate, the ports and every request keep of the tables. -/

namespace Sys2Proof.Machine

namespace Keeps

variable {l : List Part} {s t : State}

/-- An operation that writes the Override Register alone. -/
theorem of_overrides (h : Touches l s t) (hl : ∀ p ∈ keptParts, p ≠ .overrides → p ∉ l)
    (overrides : s.OverrideRoom → t.OverrideRoom) : Keeps s t := by
  have rest : Keeps s { t with overrides := s.overrides } :=
    .of_touches (l := l.filter (fun p => decide (p ≠ .overrides))) (fun p hp => by
      by_cases ho : p = .overrides
      · subst ho; rfl
      · have := h p (fun hm => hp (List.mem_filter.mpr ⟨hm, by simp [ho]⟩))
        cases p <;> first | exact this | exact absurd rfl ho)
      (fun p hp hm => by
        have := List.mem_filter.mp hm
        exact hl p hp (by simpa using this.2) this.1)
  exact ⟨⟨rest.sound, rest.room, rest.deferred, overrides, rest.transit, rest.hands⟩, rest.routes⟩

/-- An operation that writes the Command Transit Table alone. -/
theorem of_transit (h : Touches l s t) (hl : ∀ p ∈ keptParts, p ≠ .transit → p ∉ l)
    (transit : s.TransitRoom → t.TransitRoom) : Keeps s t := by
  have rest : Keeps s { t with gate := { t.gate with transit := s.gate.transit } } :=
    .of_touches (l := l.filter (fun p => decide (p ≠ .transit))) (fun p hp => by
      by_cases ho : p = .transit
      · subst ho; rfl
      · have := h p (fun hm => hp (List.mem_filter.mpr ⟨hm, by simp [ho]⟩))
        cases p <;> first | exact this | exact absurd rfl ho)
      (fun p hp hm => by
        have := List.mem_filter.mp hm
        exact hl p hp (by simpa using this.2) this.1)
  exact ⟨⟨rest.sound, rest.room, rest.deferred, rest.overrides, transit, rest.hands⟩, rest.routes⟩

end Keeps

namespace State

variable (s : State)

/-! ### Messages -/

theorem say_keeps (os : List Out) : Keeps s (s.say os) :=
  ⟨⟨fun _ h => h, fun h => h, fun h => h, fun h => h, fun h => h, .refl s⟩, fun h => h⟩

theorem sayAfter_keeps (os : List Out) : Keeps s (s.sayAfter os) :=
  ⟨⟨fun _ h => h, fun h => h, fun h => h, fun h => h, fun h => h, .refl s⟩, fun h => h⟩

theorem sayClosed_keeps (r : CloseReason) (os : List Out) : Keeps s (s.sayClosed r os) := by
  unfold sayClosed
  split <;> first | exact s.say_keeps os | exact s.sayAfter_keeps os

/-! ### Ownership and cover -/

theorem coverScan_keeps : Keeps s s.coverScan := by
  have covered : Keeps s (areaNumbers.foldl setCover s) :=
    .foldl _ (fun s a _ => .of_touches (s.setCover_touches a) (by decide)) s
  exact .after (sysFollow_keeps _ (by decide) _ _ _) (.after (reroute_keeps _)
    (.after (.of_touches (sayAreas_touches _) (by decide)) (.after (.of_touches (setOrphans_touches _) (by decide)) covered)))

theorem changeHolders_keeps (a op : Nat) : Keeps s (s.changeHolders a op) := by
  refine .of_overrides (s.changeHolders_touches a op) (by decide) (fun room => ?_)
  unfold changeHolders
  generalize hl : s.overrides.filter (fun p => decide (s.overrideArea p.2 = some a ∧ p.2.holder ≠ op)) = l
  have low : ∀ p ∈ l, p.1 < Config.overrideEntries := fun p hp => room.2 p (List.mem_of_mem_filter (hl ▸ hp))
  clear hl
  induction l generalizing s with
  | nil => exact room
  | cons p l ih =>
    refine ih _ ⟨Tbl.wf_put room.1 _ _, fun q hq => ?_⟩ (fun q hq => low q (by simp [hq]))
    rcases Tbl.mem_put hq with rfl | hq
    · exact low p (by simp)
    · exact room.2 q hq

theorem leaveIncoming_keeps (a st : Nat) : Keeps s (s.leaveIncoming a st) := by
  unfold leaveIncoming
  refine .foldl _ (fun u n _ => ?_) s
  refine .after (updAnnRec_keeps _ (fun _ h => ?_)) (u.leaveRoute_keeps st n)
  simp [h, NSet.del]

theorem leaveClosed_keeps (a st : Nat) (r : CloseReason) : Keeps s (s.leaveClosed a st r) := by
  unfold leaveClosed
  split <;> first | exact .refl s | exact s.leaveIncoming_keeps a st

theorem idleHandover_hands (a : Nat) : Hands s (s.idleHandover a) := fun b => by
  change Handover.Lessens _ (Tbl.look (s.hand.del a) b)
  rw [Tbl.look_del]
  split
  · exact trivial
  · exact .refl _

theorem idleHandover_keeps (a : Nat) : Keeps s (s.idleHandover a) :=
  s.keeps_of_hands (s.idleHandover_touches a) (by decide) (s.idleHandover_hands a)

theorem closeSession_keeps (a : Nat) (r : CloseReason) : Keeps s (s.closeSession a r) := by
  unfold closeSession
  split
  · exact .refl s
  · exact .after (sayClosed_keeps _ _ _) (.after (leaveClosed_keeps _ _ _ _) (s.idleHandover_keeps a))

theorem cancelTakeover_keeps (a : Nat) (r : CloseReason) : Keeps s (s.cancelTakeover a r) := by
  unfold cancelTakeover
  split
  · exact .after (sayClosed_keeps _ _ _) (s.idleHandover_keeps a)
  · exact .refl s

theorem concludeTransfer_keeps (a op : Nat) (k : TransferKind) (old : Option (Nat × Nat)) :
    Keeps s (s.concludeTransfer a op k old) := by
  have changed : Keeps s ((s.changeHolders a op).idleHandover a) :=
    .after (idleHandover_keeps _ a) (s.changeHolders_keeps a op)
  unfold concludeTransfer
  dsimp only
  split <;> exact .after (sayAfter_keeps _ _) changed

theorem completeHandover_keeps (a : Nat) : Keeps s (s.completeHandover a) := by
  unfold completeHandover
  split
  · exact .refl s
  · split
    · exact s.closeSession_keeps a _
    case h_2 given =>
      exact .after (concludeTransfer_keeps _ _ _ _ _) (.after (coverScan_keeps _)
        (.of_touches (s.transferOwner_touches given) (by decide)))

theorem takeArea_keeps (a op : Nat) : Keeps s (s.takeArea a op) := by
  unfold takeArea
  split
  · exact s.cancelTakeover_keeps a _
  case h_2 given =>
    exact .after (concludeTransfer_keeps _ _ _ _ _) (.of_touches (s.transferOwner_touches given) (by decide))

theorem completeTakeover_keeps (a op : Nat) : Keeps s (s.completeTakeover a op) := by
  unfold completeTakeover
  split
  · exact s.cancelTakeover_keeps a _
  case h_2 given =>
    exact .after (concludeTransfer_keeps _ _ _ _ _) (.after (coverScan_keeps _)
      (.of_touches (s.transferOwner_touches given) (by decide)))

theorem quiesced_keeps (a : Nat) : Keeps s (s.quiesced a) := by
  unfold quiesced
  split
  · exact .refl s
  · split
    · exact s.completeHandover_keeps a
    · exact s.completeTakeover_keeps a _
    · exact .refl s

/-! ### The Command Gate -/

theorem freeTransit_keeps (k : Nat) : Keeps s (s.freeTransit k) :=
  .of_transit (s.freeTransit_touches k) (by decide)
    (fun room => ⟨Tbl.wf_del room.1 k, (Tbl.length_del_le _ k).trans room.2⟩)

theorem updTransit_keeps (k : Nat) (f : Transit → Transit) : Keeps s (s.updTransit k f) :=
  .of_transit (s.updTransit_touches k f) (by decide)
    (fun room => ⟨Tbl.wf_upd room.1 k f, (Tbl.length_upd room.1 k f).trans_le room.2⟩)

theorem endAwaiting_keeps (k : Nat) (o : ResultOutcome) (d : Nat) (c : ClosedOutcome) (cause also : Option Nat) :
    Keeps s (s.endAwaiting k o d c cause also) := by
  unfold endAwaiting
  split
  · exact .refl s
  · exact .after (resolveItems_keeps _ _ _) (.after (say_keeps _ _) (.after (say_keeps _ _) (s.freeTransit_keeps k)))

theorem endFlight_keeps (k : Nat) (o : ResultOutcome) (d : Nat) : Keeps s (s.endFlight k o d) := by
  unfold endFlight
  split
  · exact .refl s
  · exact .after (quiesced_keeps _ _) (.after (resolveItems_keeps _ _ _) (.after (say_keeps _ _) (s.freeTransit_keeps k)))

theorem withdrawWaiting_keeps (p : Transit → Bool) (r : WithdrawReason) : Keeps s (s.withdrawWaiting p r) := by
  unfold withdrawWaiting
  exact .foldl _ (fun s k _ => s.endAwaiting_keeps k _ _ _ _ _) s

theorem forwardEntry_keeps (k : Nat) : Keeps s (s.forwardEntry k) := by
  unfold forwardEntry
  split
  · exact .refl s
  case h_2 t look =>
    refine .after (say_keeps _ _) (.of_transit (setTransit_touches _ _) (by decide) (fun room => ?_))
    exact ⟨Tbl.wf_put room.1 _ _, (Tbl.length_put_of_look room.1 look _).trans_le room.2⟩

theorem createTransit_keeps (h : s.gate.transit.length < Config.transitEntries) (op st tag : Nat) (r : TagRec)
    (act : Action) (v : BitVec 32) : Keeps s (s.createTransit op st tag r act v) := by
  unfold createTransit
  dsimp only
  refine .after (appendItem_keeps _ _ _ _) ?_
  have created : Keeps s { s with gate := { s.gate with
      transit := s.gate.transit.put s.ticketNow (s.newTransit op st tag r act v)
      ticket := unusedTicket (s.gate.transit.put s.ticketNow (s.newTransit op st tag r act v)) (Config.transitEntries + 1)
        (nextTicket s.ticketNow) } } :=
    ⟨⟨fun _ h => h, fun h => h, fun h => h, fun h => h,
      fun room => ⟨Tbl.wf_put room.1 _ _, (Tbl.length_put_le _ _ _).trans h⟩, .refl s⟩, fun h => h⟩
  exact .ite (.after (say_keeps _ _) created) (.after (forwardEntry_keeps _ _) created)

theorem takeCommand_keeps (st tag act : Nat) (v : BitVec 32) (rsv : Nat) :
    Keeps s (s.takeCommand st tag act v rsv).1 := by
  unfold takeCommand
  repeat' split
  all_goals try dsimp only
  all_goals first
    | with_reducible exact .refl _
    | exact s.createTransit_keeps (by omega) _ _ _ _ _ _

theorem takeDecline_keeps (st k tag rsv : Nat) : Keeps s (s.takeDecline st k tag rsv).1 := by
  unfold takeDecline
  split
  · exact .refl s
  · exact s.endAwaiting_keeps _ _ _ _ _ _

theorem takeAgree_keeps (st k tag rsv : Nat) : Keeps s (s.takeAgree st k tag rsv).1 := by
  unfold takeAgree
  split
  · exact .refl s
  · split
    · exact s.endAwaiting_keeps _ _ _ _ _ _
    · exact .after (say_keeps _ _) (.after (forwardEntry_keeps _ k) (s.updTransit_keeps k _))

theorem takeWithdraw_keeps (st k rsv : Nat) : Keeps s (s.takeWithdraw st k rsv).1 := by
  unfold takeWithdraw
  repeat' split
  all_goals try dsimp only
  all_goals first | with_reducible exact .refl _ | exact s.endAwaiting_keeps _ _ _ _ _ _

theorem countGate_keeps (f : CountersG → CountersG) : Keeps s (s.countGate f) := .of_touches (s.countGate_touches f) (by decide)

theorem takeReply_keeps (k tag outcome arg : Nat) : Keeps s (s.takeReply k tag outcome arg) := by
  have final (o : ResultOutcome) (d : Nat) : Keeps s (s.finalReply k tag o d) := by
    unfold finalReply
    split
    · exact s.countGate_keeps _
    · exact s.endFlight_keeps k o d
  have extended (n : Nat) : Keeps s (s.extendReply k tag n) := by
    unfold extendReply
    split
    · exact s.countGate_keeps _
    · exact s.updTransit_keeps k _
  have busy : Keeps s (s.busyReply k tag) := by
    unfold busyReply
    split
    · exact s.countGate_keeps _
    · exact .ite (.after (endFlight_keeps _ _ _ _) (s.countGate_keeps _)) (.ite (.refl s) (s.updTransit_keeps k _))
  unfold takeReply
  split
  · exact final _ _
  · exact final _ _
  · exact busy
  · exact extended _
  · exact extended _

theorem resend_keeps (k : Nat) : Keeps s (s.resend k) := by
  unfold resend
  split
  · exact .refl s
  · exact .after (say_keeps _ _) (s.updTransit_keeps k _)

theorem replyMissing_keeps (k : Nat) : Keeps s (s.replyMissing k) := by
  unfold replyMissing
  split
  · exact .refl s
  · exact .after (endFlight_keeps _ k _ _) (s.countGate_keeps _)

theorem setEv_keeps (e : EvBuf) : Keeps s { s with ev := e } :=
  ⟨⟨fun _ h => h, fun h => h, fun h => h, fun h => h, fun h => h, .refl s⟩, fun h => h⟩

theorem failOne_keeps (k : Nat) : Keeps s (s.failOne k) := .after (endFlight_keeps _ k _ _) (s.countGate_keeps _)

theorem failInTurn_keeps (k : Nat) : Keeps s (s.failInTurn k) :=
  .after (setEv_keeps _ _) (.after (failOne_keeps _ k) (s.setEv_keeps _))

theorem failInFlight_keeps : Keeps s s.failInFlight := by
  unfold failInFlight
  dsimp only
  split
  · exact .refl s
  · exact .after (failOne_keeps _ _) (.foldl _ (fun s k _ => s.failInTurn_keeps k) s)

/-! ### The Console Port and the Authority Unit -/

theorem followLost_keeps (before : NSet) : Keeps s (s.followLost before) := s.sysFollow_keeps (by decide) _ _ _

theorem setLink_keeps (st : Nat) (l : LinkState) : Keeps s (s.setLink st l) := .of_touches (s.setLink_touches st l) (by decide)

theorem stationReturns_keeps (st : Nat) : Keeps s (s.stationReturns st) :=
  .after (.of_touches (forceAttention_touches _ st) (by decide)) (.after (say_keeps _ _) (.after (coverScan_keeps _)
    (.after (followLost_keeps _ _) (.after (.of_touches (stopGrace_touches _ st) (by decide)) (s.setLink_keeps st _)))))

theorem serveWatch_keeps (st : Nat) : Keeps s (s.serveWatch st) := by
  have heard : Keeps s { s with console := { s.console with heard := s.console.heard.put st s.now } } :=
    .of_touches (s.setHeard_touches _) (by decide)
  unfold serveWatch
  dsimp only
  split
  · exact heard
  · exact .after (finish_keeps _) (.after (coverScan_keeps _) (.after (setLink_keeps _ st _) heard))
  · exact .after (finish_keeps _) (.after (stationReturns_keeps _ st) heard)

theorem admitFrame_keeps (st : Nat) : Keeps s (s.admitFrame st) :=
  .after (.of_touches (serveRestarted_touches _ st) (by decide)) (.after (serveWatch_keeps _ st)
    (.of_touches (s.countA_touches _) (by decide)))

theorem stationLost_keeps (st : Nat) : Keeps s (s.stationLost st) := by
  have lost : Keeps s ((s.setLink st .lost).followLost s.lostSet) := .after (followLost_keeps _ _) (s.setLink_keeps st _)
  unfold stationLost
  dsimp only
  exact .after (coverScan_keeps _) (.ite (.after (.of_touches (setGrace_touches _ _) (by decide)) lost) lost)

theorem endIncoming_keeps (op : Nat) : Keeps s (s.endIncoming op) :=
  .after (.foldl _ (fun s a _ => s.cancelTakeover_keeps a _) _) (.foldl _ (fun s a _ => s.closeSession_keeps a _) s)

theorem endOutgoing_keeps (op : Nat) : Keeps s (s.endOutgoing op) := .foldl _ (fun s a _ => s.closeSession_keeps a _) s

theorem loseArea_keeps (a : Nat) : Keeps s (s.loseArea a) := by
  have disowned : Keeps s (s.disown a) := .of_touches (s.disown_touches a) (by decide)
  unfold loseArea
  dsimp only
  split
  · exact .after (takeArea_keeps _ a _) disowned
  · exact disowned

theorem endLogon_keeps (st : Nat) : Keeps s (s.endLogon st) := .of_touches (s.endLogon_touches st) (by decide)

theorem forceOff_keeps (op st : Nat) (r : LogoffReason) (w : WithdrawReason) : Keeps s (s.forceOff op st r w) := by
  unfold forceOff
  exact .after (coverScan_keeps _) (.after (say_keeps _ _) (.after (endLogon_keeps _ st) (.after (withdrawWaiting_keeps _ _ w)
    (.after (endIncoming_keeps _ op) (.after (endOutgoing_keeps _ op) (.foldl _ (fun s a _ => s.loseArea_keeps a) s))))))

theorem graceEnds_keeps (st : Nat) : Keeps s (s.graceEnds st) := by
  unfold graceEnds
  split
  · exact s.forceOff_keeps _ _ _ _
  · exact .of_touches (s.stopGrace_touches st) (by decide)

theorem takeLogon_keeps (st badge rsv : Nat) : Keeps s (s.takeLogon st badge rsv).1 := by
  unfold takeLogon
  repeat' split
  all_goals try dsimp only
  all_goals first
    | with_reducible exact .refl _
    | exact .after (coverScan_keeps _) (.of_touches (s.setLogon_touches _) (by decide))

theorem takeLogoff_keeps (st : Nat) : Keeps s (s.takeLogoff st).1 := by
  unfold takeLogoff
  split
  · exact .refl s
  · split
    · exact .refl s
    · exact .after (.of_touches (forceAttention_touches _ st) (by decide)) (.after (coverScan_keeps _)
        (.after (endLogon_keeps _ st) (.after (withdrawWaiting_keeps _ _ _) (s.endIncoming_keeps _))))

theorem takeClaim_keeps (st a rsv : Nat) : Keeps s (s.takeClaim st a rsv).1 := by
  unfold takeClaim
  repeat' split
  all_goals try dsimp only
  all_goals first
    | with_reducible exact .refl _
    | exact .after (coverScan_keeps _) (.of_touches (s.giveOwner_touches _ _ _) (by decide))

theorem takeRelease_keeps (st a rsv : Nat) : Keeps s (s.takeRelease st a rsv).1 := by
  unfold takeRelease
  repeat' split
  all_goals try dsimp only
  all_goals first
    | with_reducible exact .refl _
    | exact .after (coverScan_keeps _) (.of_touches (s.disown_touches _) (by decide))

theorem assertKey_keeps : Keeps s s.assertKey :=
  .after (sysRaise_keeps _ (by decide) _) (.of_touches (s.setKey_touches true) (by decide))

theorem releaseKey_keeps : Keeps s s.releaseKey :=
  .after (sysReturn_keeps _ 519) (.of_touches (s.setKey_touches false) (by decide))

/-! ### The Plant Port -/

theorem setPlant_keeps (f : PlantPort → PlantPort) : Keeps s (s.setPlant f) := .of_touches (s.setPlant_touches f) (by decide)

theorem countB_keeps (f : CountersB → CountersB) : Keeps s (s.countB f) := s.setPlant_keeps _

theorem moveLink_keeps (l : PlantLink) : Keeps s (s.moveLink l) := .of_touches (s.moveLink_touches l) (by decide)

theorem enterResync_keeps : Keeps s s.enterResync :=
  .after (moveLink_keeps _ _) (.after (setPlant_keeps _ _) (.after (clearConfirmed_keeps _) (.after (say_keeps _ _)
    (s.setPlant_keeps _))))

theorem enterDegraded_keeps : Keeps s s.enterDegraded :=
  .after (moveLink_keeps _ _) (.after (sysRaise_keeps _ (by decide) _) (s.setPlant_keeps _))

theorem enterLost_keeps : Keeps s s.enterLost :=
  .after (moveLink_keeps _ _) (.after (countB_keeps _ _) (.after (failInFlight_keeps _) (.after (setPlant_keeps _ _)
    (.after (markStale_keeps _) (.after (sysRaise_keeps _ (by decide) _) (.ite (s.sysReturn_keeps 512) (.refl s)))))))

theorem leaveDegraded_keeps : Keeps s s.leaveDegraded :=
  .after (moveLink_keeps _ _) (.after (setPlant_keeps _ _) (s.sysReturn_keeps 512))

theorem serveLink_keeps : Keeps s s.serveLink := by
  have heard := s.setPlant_keeps (fun p => { p with heard := some s.now })
  unfold serveLink
  dsimp only
  split
  · exact .after (enterResync_keeps _) heard
  · exact .after (enterResync_keeps _) heard
  · exact .after (setPlant_keeps _ _) heard
  · exact .after (setPlant_keeps _ _) heard
  · exact .after (leaveDegraded_keeps _) heard

theorem takeContent_keeps (tag cond transition flag rsv : Nat) (time : MillTime) :
    Keeps s (s.takeContent tag cond transition flag rsv time) := .ite (s.countB_keeps _) (s.takeNotice_keeps _ _ _ _ _)

theorem noticeFrame_keeps (seq tag cond transition flag rsv : Nat) (time : MillTime) :
    Keeps s (s.noticeFrame seq tag cond transition flag rsv time) := by
  have handed (u : State) : Keeps u ((u.setPlant (fun p => { p with expected := some seq })).takeContent tag cond transition
      flag rsv time) := .after (takeContent_keeps _ _ _ _ _ _ _) (u.setPlant_keeps _)
  unfold noticeFrame takeSequenced
  dsimp only
  split
  · exact .after (handed _) s.serveLink_keeps
  · exact .after (handed _) s.serveLink_keeps
  · exact .after (countB_keeps _ _) s.serveLink_keeps
  · exact .after (enterResync_keeps _) (.after (countB_keeps _ _) (.after (handed _) s.serveLink_keeps))

theorem replyFrame_keeps (k tag outcome rsv arg : Nat) : Keeps s (s.replyFrame k tag outcome rsv arg) :=
  .ite (.after (countB_keeps _ _) s.serveLink_keeps) (.after (takeReply_keeps _ _ _ _ _) s.serveLink_keeps)

theorem takeResyncEnd_keeps (scope n : Nat) : Keeps s (s.takeResyncEnd scope n) :=
  .ite (.refl s) (.ite (.after (moveLink_keeps _ _) (.after (sysReturn_keeps _ 513) (.after (setPlant_keeps _ _)
    (.after (sweep_keeps _) (s.setPlant_keeps _))))) (s.countB_keeps _))

theorem areaResync_keeps (a : Nat) : Keeps s (s.areaResync a) := .of_touches (s.areaResync_touches a) (by decide)

theorem resyncTimesOut_keeps : Keeps s s.resyncTimesOut := by
  have timed : Keeps s (((s.setPlant (fun p => { p with timer := none })).countB
      (fun c => { c with timeouts := bump c.timeouts })).sysReturn 513) :=
    .after (sysReturn_keeps _ 513) (.after (countB_keeps _ _) (s.setPlant_keeps _))
  unfold resyncTimesOut
  exact .ite (.after (setPlant_keeps _ _) timed) (.after (moveLink_keeps _ _) timed)

/-! ### Alarm requests -/

theorem takeAck_keeps (st : Nat) (r : Ref) (rsv : Nat) : Keeps s (s.takeAck st r rsv).1 := by
  unfold takeAck
  repeat' split
  all_goals try dsimp only
  all_goals first | with_reducible exact .refl _ | exact s.acknowledge_keeps _ _

theorem silence_keeps (st n : Nat) : Keeps s (s.silence st n) :=
  .after (updAnnRec_keeps _ (fun _ h => h)) (s.unstack_keeps st n)

theorem takeSilenceTop_keeps (st : Nat) (r : Ref) (rsv : Nat) : Keeps s (s.takeSilenceTop st r rsv).1 := by
  unfold takeSilenceTop
  repeat' split
  all_goals try dsimp only
  all_goals first | with_reducible exact .refl _ | exact s.silence_keeps _ _

theorem takeSilenceAll_keeps (st rsv : Nat) : Keeps s (s.takeSilenceAll st rsv).1 := by
  unfold takeSilenceAll
  repeat' split
  all_goals try dsimp only
  all_goals first | with_reducible exact .refl _ | exact .foldl _ (fun s n _ => s.silence_keeps st n) s

theorem areaOut_keeps (a : Nat) : Keeps s (s.areaOut a) := by
  unfold areaOut
  exact .after (sayAfter_keeps _ _) (.after (coverScan_keeps _) (.after (.of_touches (floodOut_touches _ a) (by decide))
    (.after (.foldl _ (fun s n _ => s.removeEntry_keeps n) _) (.of_touches (s.setOut_touches _) (by decide)))))

theorem takeServiceOut_keeps (st a rsv : Nat) : Keeps s (s.takeServiceOut st a rsv).1 := by
  unfold takeServiceOut
  repeat' split
  all_goals try dsimp only
  all_goals first | with_reducible exact .refl _ | exact s.areaOut_keeps _

theorem areaIn_keeps (a : Nat) : Keeps s (s.areaIn a) :=
  .after (sayAfter_keeps _ _) (.after (areaResync_keeps _ a) (.after (coverScan_keeps _)
    (.of_touches (s.setOut_touches _) (by decide))))

theorem takeServiceIn_keeps (st a rsv : Nat) : Keeps s (s.takeServiceIn st a rsv).1 := by
  unfold takeServiceIn
  repeat' split
  all_goals try dsimp only
  all_goals first | with_reducible exact .refl _ | exact s.areaIn_keeps _

theorem escalated_sound {n : Nat} {e : Entry} (h : EntrySound n e) :
    EntrySound n { e with stage := 1, cur := e.cfg.raise } := by
  obtain ⟨acked, -, low, high, -, tag⟩ := h
  exact ⟨acked, Nat.le_succ 1, low, high, .inr rfl, tag⟩

theorem updAnnRec_keeps_of_route {n : Nat} {f : AnnRec → AnnRec} (h : ∀ r, (f r).route = r.route) :
    Keeps s (s.updAnnRec n f) := s.updAnnRec_keeps (fun _ idle => (h _).trans idle)

theorem Keeps.announceReprice {s t : State} (h : Keeps s t) (n a : Nat) (r : Ref) (p : Priority) :
    Keeps s ((t.announceAt n).repriceItems a r p) :=
  (h.trans (announceAt_keeps _ n)).trans (repriceItems_keeps _ a r p)

theorem escalate_keeps (n : Nat) : Keeps s (s.escalate n) := by
  unfold escalate
  split
  · exact .refl s
  case h_2 e he =>
    have staged : Keeps s (s.setEntry n { e with stage := 1, cur := e.cfg.raise }) :=
      s.setEntry_keeps_of_look he escalated_sound
    have unstacked := staged.trans (unstackAll_keeps _ n)
    dsimp only
    refine Keeps.announceReprice (unstacked.trans (updAnnRec_keeps_of_route _ ?_)) _ _ _ _
    intro r
    rfl

theorem overdue_sound {n : Nat} {e : Entry} (h : EntrySound n e) : EntrySound n { e with stage := 2 } := by
  obtain ⟨acked, -, rest⟩ := h
  exact ⟨acked, Nat.le_refl 2, rest⟩

theorem fallOverdue_keeps (n : Nat) : Keeps s (s.fallOverdue n) := by
  unfold fallOverdue
  split
  · exact .refl s
  case h_2 e he =>
    have staged : Keeps s (s.setEntry n { e with stage := 2 }) := s.setEntry_keeps_of_look he overdue_sound
    have stopped := staged.trans (updAnnRec_keeps (n := n) (f := fun r => { r with deadline := none }) _ (fun _ h => h))
    exact stopped.trans (overdueUp_keeps _)

/-! ### The Override Register -/

theorem putOverride_keeps {n : Nat} (h : s.OverrideRoom → n < Config.overrideEntries) (o : Override) :
    Keeps s (s.putOverride n o) := by
  refine .of_overrides (s.setOverrides_touches _) (by decide) (fun room => ⟨Tbl.wf_put room.1 _ _, fun q hq => ?_⟩)
  rcases Tbl.mem_put hq with rfl | hq
  · exact h room
  · exact room.2 q hq

theorem lt_of_mem_entriesOfTag {tag n : Nat} (h : n ∈ s.entriesOfTag tag) : n < Config.ordinaryEntries := by
  simp only [entriesOfTag, ordinaryWhere, ordinary, List.mem_filter, decide_eq_true_eq] at h
  exact h.1.2

/-- What a shelf does first leaves the entry itself as it is. -/
theorem entry?_quietForShelf {n : Nat} (h : n < Config.ordinaryEntries) (e : Entry) :
    (s.quietForShelf n e).entry? n = s.entry? n := by
  simp only [Config.ordinaryEntries] at h
  unfold quietForShelf
  split
  · exact s.entry?_undefer_ne n (by omega)
  · split
    · rfl
    · exact s.entry?_withdraw_ne n (by omega)
  · rfl
  · rfl

theorem quietForShelf_keeps (n : Nat) (e : Entry) : Keeps s (s.quietForShelf n e) := by
  unfold quietForShelf
  split
  · exact s.undefer_keeps n
  · exact .ite (.refl s) (s.withdraw_keeps n)
  · exact .refl s
  · exact .refl s

theorem shelveEntry_keeps {n : Nat} (h : n < Config.ordinaryEntries) (holder : Nat) :
    Keeps s (shelveEntry holder s n) := by
  unfold shelveEntry
  split
  · exact .refl s
  case h_2 e he =>
    split
    · exact s.removeEntry_keeps n
    case isFalse active =>
      refine .after (updEntry_keeps _ (fun e' he' sound => ⟨.inl ?_, sound.2⟩)) (s.quietForShelf_keeps n e)
      rw [s.entry?_quietForShelf h, he] at he'
      exact Option.some.inj he' ▸ (by simpa using active)

theorem shelveTag_keeps (tag holder : Nat) : Keeps s (s.shelveTag tag holder) :=
  .foldl _ (fun u _ hn => u.shelveEntry_keeps (s.lt_of_mem_entriesOfTag hn) holder) s

theorem placeOverride_keeps {n : Nat} (h : n < Config.overrideEntries) (k : OverrideKind) (op st tag a g r : Nat) :
    Keeps s (s.placeOverride k n op st tag a g r) := by
  unfold placeOverride
  dsimp only
  refine .after (sayAfter_keeps _ _) (.after (appendItem_keeps _ _ _ _) ?_)
  cases k with
  | shelve => exact .after (shelveTag_keeps _ tag op) (s.putOverride_keeps (fun _ => h) _)
  | bypass => exact s.putOverride_keeps (fun _ => h) _

theorem renewOverride_keeps {n : Nat} {o : Override} (h : (n, o) ∈ s.overrides) (op st g r : Nat) :
    Keeps s (s.renewOverride n o op st g r) :=
  .after (sayAfter_keeps _ _) (s.putOverride_keeps (fun room => room.2 _ h) _)

theorem takeOverride_keeps (k : OverrideKind) (st tag d r rsv : Nat) : Keeps s (s.takeOverride k st tag d r rsv).1 := by
  have granted (op a : Nat) : Keeps s (s.grantOverride k op st tag a d r).1 := by
    unfold grantOverride
    dsimp only
    split
    case h_1 found => exact s.renewOverride_keeps (List.mem_of_find?_eq_some found) ..
    · exact .refl s
    case h_3 n _ free =>
      refine s.placeOverride_keeps ?_ ..
      simp only [freeOverride?, Option.ite_none_right_eq_some] at free
      obtain ⟨low, found⟩ := free
      exact Option.some.inj found ▸ low
  unfold takeOverride
  repeat' split
  all_goals try dsimp only
  all_goals first | with_reducible exact .refl _ | exact granted _ _

theorem redecideTag_keeps (tag : Nat) : Keeps s (s.redecideTag tag) :=
  .foldl _ (fun s n _ => .after (decideUnshelved_keeps _ n true) (s.resetForDecision_keeps n)) s

theorem endOverride_keeps (n : Nat) (o : Override) (e : OverrideEvent) : Keeps s (s.endOverride n o e) := by
  have freed : Keeps s { s with overrides := s.overrides.del n } :=
    .of_overrides (s.setOverrides_touches _) (by decide)
      (fun room => ⟨Tbl.wf_del room.1 n, fun p hp => room.2 p (List.mem_of_mem_filter hp)⟩)
  unfold endOverride
  dsimp only
  refine .after (sayAfter_keeps _ _) (.after (resolveItems_keeps _ _ _) ?_)
  split
  · exact .after (redecideTag_keeps _ _) freed
  · exact freed

theorem takeEnding_keeps (k : OverrideKind) (st tag rsv : Nat) : Keeps s (s.takeEnding k st tag rsv).1 := by
  unfold takeEnding
  repeat' split
  all_goals try dsimp only
  all_goals first | with_reducible exact .refl _ | exact s.endOverride_keeps _ _ _

theorem overrideExpires_keeps (n : Nat) : Keeps s (s.overrideExpires n) := by
  unfold overrideExpires
  split
  · exact .refl s
  · exact s.endOverride_keeps n _ _

/-! ### The Handover Controller -/

theorem withdrawForHandover_keeps (a out : Nat) : Keeps s (s.withdrawForHandover a out) :=
  .after (setEv_keeps _ _) (s.withdrawWaiting_keeps _ _)

theorem takeAccept_kept (st a rsv : Nat) : Kept s (s.takeAccept st a rsv).1 := by
  have accepted (x : Session) : Kept s (s.acceptSession a x).1 := by
    have withdrawn := s.withdrawForHandover_keeps a x.outOp
    unfold acceptSession
    dsimp only
    split
    · exact (withdrawn.trans (completeHandover_keeps _ a)).kept
    · exact withdrawn.kept.trans (kept_of_touches _ (startQuiescing_touches _ _ _ _) (by decide))
  unfold takeAccept
  repeat' split
  all_goals try dsimp only
  all_goals first | with_reducible exact (Keeps.refl _).kept | exact accepted _

theorem takeRecall_keeps (st a rsv : Nat) : Keeps s (s.takeRecall st a rsv).1 := by
  unfold takeRecall
  repeat' split
  all_goals try dsimp only
  all_goals first | with_reducible exact .refl _ | exact s.closeSession_keeps _ _

theorem takeTakeover_kept (st a rsv : Nat) : Kept s (s.takeTakeover st a rsv).1 := by
  have taken (op owner ost : Nat) : Kept s (s.takeFromOwner a op st owner ost).1 := by
    have closed : Keeps s ((s.closeSession a .takeover).withdrawWaiting
        (fun t => decide (t.area = a ∧ t.origOp = owner)) .takeover) :=
      .after (withdrawWaiting_keeps _ _ _) (s.closeSession_keeps a _)
    unfold takeFromOwner
    dsimp only
    split
    · exact (closed.trans (completeTakeover_keeps _ a op)).kept
    · exact closed.kept.trans (kept_of_touches _ (startTakingOver_touches _ _ _ _ _ _) (by decide))
  unfold takeTakeover takeoverBy
  repeat' split
  all_goals try dsimp only
  all_goals first
    | with_reducible exact (Keeps.refl _).kept
    | with_reducible exact taken _ _ _
    | exact (s.completeTakeover_keeps a _).kept

theorem takeReview_keeps (st a first count rsv : Nat) : Keeps s (s.takeReview st a first count rsv).1 := by
  unfold takeReview
  repeat' split
  all_goals first | with_reducible exact .refl _ | exact s.updSession_keeps (by intro _; rfl) _

/-! ### Management -/

theorem resetStation_keeps (st : Nat) : Keeps s (s.resetStation st) := by
  unfold resetStation
  refine .after (coverScan_keeps _) (.after (followLost_keeps _ _) (.of_touches (l := [.link, .heard, .restartPending]) ?_
    (by decide)))
  intro p hp
  cases p <;> first | rfl | exact ⟨rfl, rfl⟩ | exact absurd (by decide) hp

theorem takeStationWrite_keeps (st i : Nat) (r : Option RawStation) (rsv : Nat) :
    Keeps s (s.takeStationWrite st i r rsv).1 := by
  have written (t : Tbl StationRec) : Keeps s (s.setTables { s.tables with stations := t }) :=
    .of_touches (s.setStations_touches t) (by decide)
  unfold takeStationWrite
  repeat' split
  all_goals try dsimp only
  all_goals first
    | with_reducible exact .refl _
    | exact .after (resetStation_keeps _ _) (written _)
    | exact .ite (written _) (.after (resetStation_keeps _ _) (written _))

theorem rosterEffects_keeps (op : Nat) : Keeps s (s.rosterEffects op) := by
  have lost (u : State) (a : Nat) : Keeps u (loseAtZero op u a) := by
    unfold loseAtZero
    exact .ite (.after (closeSession_keeps _ a _) (u.loseArea_keeps a)) (u.loseArea_keeps a)
  have left (u : State) (a : Nat) : Keeps u (leaveAtZero op u a) := by
    have closed : Keeps u (if ((u.session? a).map (·.inOp)) = some op then u.closeSession a .incomingGone else u) :=
      .ite (u.closeSession_keeps a _) (.refl u)
    unfold leaveAtZero
    dsimp only
    split
    · exact .ite (.after (cancelTakeover_keeps _ a _) closed) closed
    · exact closed
  have released : Keeps s (s.releaseAtZero op) :=
    .after (.foldl _ (fun u a _ => left u a) _) (.after (withdrawWaiting_keeps _ _ _) (.foldl _ (fun u a _ => lost u a) s))
  unfold rosterEffects
  split
  · exact s.coverScan_keeps
  · exact .ite (.after (coverScan_keeps _) released)
      (.after (.of_touches (forceAttention_touches _ _) (by decide)) (s.forceOff_keeps _ _ _ _))

theorem takeRosterWrite_keeps (st i : Nat) (r : Option RawRoster) (rsv : Nat) :
    Keeps s (s.takeRosterWrite st i r rsv).1 := by
  unfold takeRosterWrite
  repeat' split
  all_goals try dsimp only
  all_goals first
    | with_reducible exact .refl _
    | exact .after (rosterEffects_keeps _ _) (.of_touches (s.setRoster_touches _) (by decide))

theorem takeAreaWrite_keeps (st i : Nat) (r : Option RawArea) (rsv : Nat) : Keeps s (s.takeAreaWrite st i r rsv).1 := by
  unfold takeAreaWrite
  repeat' split
  all_goals try dsimp only
  all_goals first
    | with_reducible exact .refl _
    | exact .after (coverScan_keeps _) (.after (.of_touches (floodExitTest_touches _ _) (by decide))
        (.after (.of_touches (floodEntryTest_touches _ _) (by decide)) (.of_touches (s.setAreas_touches _) (by decide))))

theorem storeDone_keeps (matched : Bool) : Keeps s (s.storeDone matched) := by
  have stored (u : StoreUnit) : Keeps s { s with store := u } := .of_touches (s.setStore_touches u) (by decide)
  unfold storeDone
  split
  · exact .refl s
  · refine .after (.of_touches (answer_touches _ _ _) (by decide)) (.ite (.after (finish_keeps _) ?_)
      (.after (finish_keeps _) (.after (sysRaise_keeps _ (by decide) _) (stored _))))
    exact .ite (.after (sysReturn_keeps _ 520) (stored _)) (stored _)

theorem startUpAlarms_keeps : Keeps s s.startUpAlarms := by
  unfold startUpAlarms
  dsimp only
  have scanned : Keeps s (if s.coverScan.store.fault then s.coverScan.sysRaise 520 .none else s.coverScan) :=
    .ite (.after (sysRaise_keeps _ (by decide) _) s.coverScan_keeps) s.coverScan_keeps
  exact .ite (.after (sysRaise_keeps _ (by decide) _) scanned) scanned

/-- Where the tables hold nothing, nothing is unsound. -/
theorem keeps_of_empty {s t : State} (entries : t.alarm.entries = []) (recs : t.ann.recs = []) (stack : t.ann.stack = [])
    (deferred : t.flood.deferred = []) (overrides : t.overrides = []) (transit : t.gate.transit = []) (hand : t.hand = []) : Keeps s t := by
  refine ⟨⟨fun _ _ => ⟨?_, fun n e he => ?_⟩, fun _ st => ?_, fun _ => ?_, fun _ => ?_, fun _ => ?_, fun a => ?_⟩, fun _ n _ => ?_⟩
  · rw [entries]; exact List.Pairwise.nil
  · rw [entry?, entries] at he; simp at he
  · simp [State.stack, stack, Tbl.getD]
  · simp [DeferredRoom, deferred]
  · exact ⟨overrides ▸ List.Pairwise.nil, fun p hp => by simp [overrides] at hp⟩
  · exact ⟨transit ▸ List.Pairwise.nil, by simp [transit]⟩
  · rw [hand]; exact trivial
  · simp [annRec, recs, Tbl.getD]

theorem takeRestart_keeps (st : Nat) : Keeps s (s.takeRestart st).1 := by
  have cleared : Keeps s s.cleared := keeps_of_empty rfl rfl rfl rfl rfl rfl rfl
  unfold takeRestart
  repeat' split
  all_goals try dsimp only
  all_goals first | with_reducible exact .refl _ | exact .after (startUpAlarms_keeps _) cleared

end State

end Sys2Proof.Machine
end

section
/-! PROOFS. From the operations to the commands: what every command carries from the state it is taken in to the state it
leaves, and with it the two invariants of the tables. -/

namespace Sys2Proof.Machine

/-- Every sort of message. -/
def saidParts : List Part :=
  [.said .answer, .said .announce, .said .attention, .said .result, .said .notice, .said .countersign, .said .forward,
    .said .relay, .said .resync, .said .beat]

/-- The start of an event leaves nothing said. -/
theorem fresh_touches (s : State) : Touches saidParts s s.fresh := by
  intro p hp
  cases p with
  | said k => cases k <;> exact absurd (by decide) hp
  | keyLine => exact ⟨rfl, rfl⟩
  | _ => rfl

theorem setQueue_touches (s : State) (q : List Instr) : Touches [.queue] s { s with pending := q } := by
  intro p hp
  cases p with
  | queue => exact absurd (by decide) hp
  | keyLine => exact ⟨rfl, rfl⟩
  | _ => rfl

theorem setUnitTime_touches (s : State) (n : Nat) :
    Touches [.unitTime] s { s with time := { s.time with unit := n } } := by
  intro p hp
  cases p with
  | unitTime => exact absurd (by decide) hp
  | keyLine => exact ⟨rfl, rfl⟩
  | _ => rfl

theorem elapse_touches (s : State) : Touches [.unitTime, .queue] s.fresh s.elapse :=
  .after (setQueue_touches _ _) (by decide) ((setUnitTime_touches s.fresh _).mono (by decide))

theorem tick_cases {s t : State} (ticked : s.tick = .next t) : t = s.fresh ∨ t = s.elapse := by
  unfold State.tick at ticked
  split at ticked
  · injection ticked with ticked; exact .inl ticked.symm
  · split at ticked
    · simp at ticked
    · injection ticked with ticked; exact .inr ticked.symm

/-- The parts that no relation below looks at. -/
def passingParts : List Part :=
  [.countersA, .countersB, .storeJob, .queue, .unitTime, .millTime, .keyLine] ++ saidParts

/-- A relation between states that the clock, the counters and the messages do not enter, and that the arrival of a frame
and the end of an event carry on. -/
structure Carried (R : State → State → Prop) (watched : List Part) : Prop where
  trans : ∀ {s t u}, R s t → R t u → R s u
  still : ∀ {l : List Part} {s t}, Touches l s t → (∀ p ∈ watched, p ∉ l) → R s t
  arrive : ∀ s st, R s (State.admitFrame s st)
  finish : ∀ s, R s (State.finish s)
  unread : ∀ p ∈ watched, p ∉ passingParts

/-- What a command leaves stands in the relation to what it was taken in. -/
def Leads (R : State → State → Prop) (s : State) (o : Host.Outcome State Fault Refusal) : Prop :=
  ∀ t, o = .next t → R s.fresh t

namespace Carried

variable {R : State → State → Prop} {watched : List Part} (C : Carried R watched)
include C

theorem refl (s : State) : R s s := C.still (.refl [] s) (by simp)

theorem passing {s t : State} (h : Touches passingParts s t) : R s t := C.still h C.unread

theorem event {f : State → State} (h : ∀ s, R s (f s)) (s : State) : Leads R s (event f s) := by
  intro t taken
  rcases event_cases f s with ⟨off, -⟩ | ⟨on, -⟩
  · rw [off] at taken; injection taken with taken; exact taken ▸ C.refl _
  · rw [on] at taken; injection taken with taken; exact taken ▸ h _

theorem answer (s : State) (h : Hdr) (a : Ans) : R s (s.answer h a) :=
  C.passing ((s.answer_touches h a).mono (by decide))

theorem receive {f : State → State} (h : ∀ s, R s (f s)) (s : State) (hd : Hdr) : R s (s.receive hd f) := by
  rcases s.receive_cases hd f with ⟨c, stranger⟩ | admitted
  · rw [stranger]
    exact C.passing ((s.countA_touches c).mono (by decide))
  · rw [admitted]
    exact C.trans (C.arrive s hd.station) (h _)

theorem request {f : State → State} (h : ∀ s, R s (f s)) (s : State) (hd : Hdr) : R s (s.request hd f) := by
  refine C.receive (fun s => ?_) s hd
  split
  · exact C.answer s hd _
  · exact h s

theorem askEvent (hd : Hdr) (f : State → Ans) (s : State) : Leads R s (askEvent hd f s) :=
  C.event (fun s => C.request (fun s => C.answer s hd _) s hd) s

theorem unknownRequest (s : State) (hd : Hdr) (r : OddRequest) : R s (s.unknownRequest hd r) := by
  cases r with
  | kind c => exact C.receive (fun s => C.answer s hd _) s hd
  | _ => exact C.request (fun s => C.answer s hd _) s hd

theorem takeStore (s : State) (hd : Hdr) : R s (s.takeStore hd) :=
  C.passing ((s.takeStore_touches hd).mono (by decide))

/-- A step leads on from the state that it starts in wherever every command does. -/
theorem step (h : ∀ i s, Leads R s (exec i s)) {s t : State} (stepped : step s = .next t) : R s t := by
  have freshened (s : State) : R s s.fresh := C.passing ((fresh_touches s).mono (by decide))
  unfold Machine.step at stepped
  split at stepped
  · rcases tick_cases stepped with rfl | rfl
    · exact freshened s
    · exact C.trans (freshened s) (C.passing ((elapse_touches s).mono (by decide)))
  case h_2 i rest _ =>
    exact C.trans (C.trans (C.passing ((setQueue_touches s rest).mono (by decide))) (freshened _)) (h i _ t stepped)

end Carried

/-! ### The shape of a command -/

/-- How a command is taken: by which of the ways, and with which operation, the operation standing in `R`. A request that
is refused leaves the state as its arrival left it. -/
inductive Shape (R : State → State → Prop) : Instr → Prop where
  | powerUp (p : Straps) : Shape R (.powerUp p)
  | resetAssert (m : StoreMoment) : Shape R (.resetAssert m)
  | resetDeassert (p : Straps) : Shape R (.resetDeassert p)
  | powerLoss (m : StoreMoment) : Shape R (.powerLoss m)
  | keyLine (closed : Bool) : Shape R (.masterKeyLineChange closed)
  | beat (h : Hdr) : Shape R (.beat h)
  | unknown (h : Hdr) (r : OddRequest) : Shape R (.unknownKind h r)
  | store (h : Hdr) : Shape R (.store h)
  | storeDone (matched : Bool) : Shape R (.storeComplete matched)
  | quiet (i : Instr) (f : State → State) (taken : ∀ s, exec i s = event f s)
      (passing : ∀ s, Touches passingParts s (f s)) : Shape R i
  | ask (i : Instr) (h : Hdr) (f : State → Ans) (taken : ∀ s, exec i s = askEvent h f s) : Shape R i
  | change (i : Instr) (h : Hdr) (f : State → State × Ans) (taken : ∀ s, exec i s = requestEvent h f s)
      (unmoved : ∀ s, Unmoved s (f s)) (done : ∀ s, R s (f s).1) : Shape R i
  | plant (i : Instr) (f : State → State) (taken : ∀ s, exec i s = plantEvent f s) (done : ∀ s, R s (f s)) : Shape R i
  | timer (i : Instr) (due : State → Bool) (f : State → State) (taken : ∀ s, exec i s = timerEvent due f s)
      (done : ∀ s, due s = true → R s (f s)) : Shape R i

theorem leads_next {R : State → State → Prop} {s u : State} (h : R s.fresh u) : Leads R s (.next u) := by
  intro t taken
  injection taken with taken
  exact taken ▸ h

section

variable {R Q : State → State → Prop} {watched : List Part} (C : Carried R watched)
  (ended : ∀ {s t : State}, Q s t → R s t.finish)
include C ended

/-- A request that is not refused ends its event; one that is refused has done nothing. -/
theorem Carried.requestEvent_of_ended {hd : Hdr} {f : State → State × Ans} (unmoved : ∀ s, Unmoved s (f s))
    (done : ∀ s, Q s (f s).1) (s : State) : Leads R s (requestEvent hd f s) := by
  refine C.event (fun s => C.request (fun s => ?_) s hd) s
  rcases s.handle_cases hd f with ⟨changed, -⟩ | ⟨refused, stays⟩
  · rw [changed]
    exact C.trans (ended (done s)) (C.answer _ hd _)
  · rw [refused, unmoved s stays]
    exact C.answer s hd _

/-- What a command leaves, where the end of an event makes `R` of what its operation leaves. -/
theorem Carried.exec_of_ended (started : ∀ u s p, R u (State.startUp s p))
    (darkened : ∀ u s a b c, a = false ∨ b = true → R u (State.dark s a b c))
    (stored : ∀ s m, R s (State.storeDone s m)) {i : Instr} (shape : Shape Q i) (s : State) : Leads R s (exec i s) := by
  cases shape with
  | powerUp p =>
    refine leads_next ?_
    unfold State.powerOn
    split
    · exact darkened _ _ _ _ _ (.inr rfl)
    · exact started _ _ _
  | resetAssert m => exact leads_next (darkened _ _ _ _ _ (.inr rfl))
  | resetDeassert p =>
    refine leads_next ?_
    split
    · exact started _ _ _
    · exact darkened _ _ _ _ _ (.inl rfl)
  | powerLoss m => exact leads_next (darkened _ _ _ _ _ (.inl rfl))
  | keyLine closed => exact leads_next (C.passing ((s.fresh.setKeyLine_touches closed).mono (by decide)))
  | beat h => exact C.event (fun s => C.receive (fun s => C.refl s) s h) s
  | unknown h r => exact C.event (fun s => C.unknownRequest s h r) s
  | store h => exact C.event (fun s => C.request (fun s => C.takeStore s h) s h) s
  | storeDone matched => exact C.event (fun s => stored s matched) s
  | quiet _ f taken passing => exact taken s ▸ C.event (fun s => C.passing (passing s)) s
  | ask _ h f taken => exact taken s ▸ C.askEvent h f s
  | change _ h f taken unmoved done => exact taken s ▸ C.requestEvent_of_ended ended unmoved done s
  | plant _ f taken done => exact taken s ▸ C.event (fun s => ended (done s)) s
  | timer _ due f taken done =>
    refine taken s ▸ C.event (fun s => ?_) s
    split
    case isTrue now => exact ended (done s now)
    case isFalse => exact C.refl s

end

/-! ### Sound entries, capacities and idle routes -/

theorem carried_kept : Carried Kept keptParts where
  trans := Kept.trans
  still := fun h hl => (Keeps.of_touches h (fun p hp => hl p hp)).kept
  arrive := fun s st => (s.admitFrame_keeps st).kept
  finish := fun s => s.finish_keeps.kept
  unread := by decide

theorem startUp_keeps_from (u s : State) (p : Straps) : Keeps u (s.startUp p) :=
  .after (State.finish_keeps _) (.after (State.startUpAlarms_keeps _)
    (State.keeps_of_empty (t := s.woken p) rfl rfl rfl rfl rfl rfl rfl))

theorem dark_keeps_from (u s : State) (power reset : Bool) (image : Image) : Keeps u (s.dark power reset image) :=
  State.keeps_of_empty rfl rfl rfl rfl rfl rfl rfl

theorem shape_kept (i : Instr) : Shape Kept i := by
  cases i with
  | powerUp straps => exact .powerUp _
  | resetAssert moment => exact .resetAssert _
  | resetDeassert straps => exact .resetDeassert _
  | powerLoss moment => exact .powerLoss _
  | masterKeyLineChange closed => exact .keyLine closed
  | keyAsserted => exact .timer _ _ _ (fun _ => rfl) (fun s _ => s.assertKey_keeps.kept)
  | keyReleased => exact .timer _ _ _ (fun _ => rfl) (fun s _ => s.releaseKey_keeps.kept)
  | portAFrameDiscarded src payload =>
    exact .quiet _ _ (fun _ => rfl) (fun s => (s.discardPortA_touches src payload).mono (by decide))
  | unknownKind h r => exact .unknown h r
  | beat h => exact .beat h
  | consoleSilenceTimeout st =>
    exact .timer _ (fun s => s.silenceDue st) _ (fun _ => rfl) (fun s _ => (s.stationLost_keeps st).kept)
  | graceExpiry st =>
    exact .timer _ (fun s => s.graceDue st) _ (fun _ => rfl) (fun s _ => (s.graceEnds_keeps st).kept)
  | logon h badge rsv =>
    exact .change _ _ _ (fun _ => rfl) (fun s => s.takeLogon_unmoved _ _ _)
      (fun s => (s.takeLogon_keeps _ badge rsv).kept)
  | logoff h =>
    exact .change _ _ _ (fun _ => rfl) (fun s => s.takeLogoff_unmoved _) (fun s => (s.takeLogoff_keeps _).kept)
  | claim h a rsv =>
    exact .change _ _ _ (fun _ => rfl) (fun s => s.takeClaim_unmoved _ _ _)
      (fun s => (s.takeClaim_keeps _ a rsv).kept)
  | release h a rsv =>
    exact .change _ _ _ (fun _ => rfl) (fun s => s.takeRelease_unmoved _ _ _)
      (fun s => (s.takeRelease_keeps _ a rsv).kept)
  | ack h r rsv =>
    exact .change _ _ _ (fun _ => rfl) (fun s => s.takeAck_unmoved _ _ _) (fun s => (s.takeAck_keeps _ r rsv).kept)
  | silenceTop h r rsv =>
    exact .change _ _ _ (fun _ => rfl) (fun s => s.takeSilenceTop_unmoved _ _ _)
      (fun s => (s.takeSilenceTop_keeps _ r rsv).kept)
  | silenceAll h rsv =>
    exact .change _ _ _ (fun _ => rfl) (fun s => s.takeSilenceAll_unmoved _ _)
      (fun s => (s.takeSilenceAll_keeps _ rsv).kept)
  | serviceOut h a rsv =>
    exact .change _ _ _ (fun _ => rfl) (fun s => s.takeServiceOut_unmoved _ _ _)
      (fun s => (s.takeServiceOut_keeps _ a rsv).kept)
  | serviceIn h a rsv =>
    exact .change _ _ _ (fun _ => rfl) (fun s => s.takeServiceIn_unmoved _ _ _)
      (fun s => (s.takeServiceIn_keeps _ a rsv).kept)
  | shelve h tag d r rsv =>
    exact .change _ _ _ (fun _ => rfl) (fun s => s.takeOverride_unmoved _ _ _ _ _ _)
      (fun s => (s.takeOverride_keeps .shelve _ tag d r rsv).kept)
  | unshelve h tag rsv =>
    exact .change _ _ _ (fun _ => rfl) (fun s => s.takeEnding_unmoved _ _ _ _)
      (fun s => (s.takeEnding_keeps .shelve _ tag rsv).kept)
  | bypass h tag d r rsv =>
    exact .change _ _ _ (fun _ => rfl) (fun s => s.takeOverride_unmoved _ _ _ _ _ _)
      (fun s => (s.takeOverride_keeps .bypass _ tag d r rsv).kept)
  | unbypass h tag rsv =>
    exact .change _ _ _ (fun _ => rfl) (fun s => s.takeEnding_unmoved _ _ _ _)
      (fun s => (s.takeEnding_keeps .bypass _ tag rsv).kept)
  | overrideExpiry n =>
    exact .timer _ (fun s => s.overrideDue n) _ (fun _ => rfl) (fun s _ => (s.overrideExpires_keeps n).kept)
  | command h tag act v rsv =>
    exact .change _ _ _ (fun _ => rfl) (fun s => s.takeCommand_unmoved _ _ _ _ _)
      (fun s => (s.takeCommand_keeps _ tag act v rsv).kept)
  | countersignAgree h k tag rsv =>
    exact .change _ _ _ (fun _ => rfl) (fun s => s.takeAgree_unmoved _ _ _ _)
      (fun s => (s.takeAgree_keeps _ k tag rsv).kept)
  | countersignDecline h k tag rsv =>
    exact .change _ _ _ (fun _ => rfl) (fun s => s.takeDecline_unmoved _ _ _ _)
      (fun s => (s.takeDecline_keeps _ k tag rsv).kept)
  | withdraw h k rsv =>
    exact .change _ _ _ (fun _ => rfl) (fun s => s.takeWithdraw_unmoved _ _ _)
      (fun s => (s.takeWithdraw_keeps _ k rsv).kept)
  | countersignWindowExpiry k =>
    exact .timer _ (fun s => s.windowDue k) _ (fun _ => rfl) (fun s _ => (s.endAwaiting_keeps _ _ _ _ _ _).kept)
  | replyDone k tag => exact .plant _ _ (fun _ => rfl) (fun s => (s.replyFrame_keeps k tag 1 0 0).kept)
  | replyRefused k tag code => exact .plant _ _ (fun _ => rfl) (fun s => (s.replyFrame_keeps k tag 2 0 code).kept)
  | replyBusy k tag => exact .plant _ _ (fun _ => rfl) (fun s => (s.replyFrame_keeps k tag 3 0 0).kept)
  | replyExtend k tag n => exact .plant _ _ (fun _ => rfl) (fun s => (s.replyFrame_keeps k tag 4 0 n).kept)
  | replyHoldOn k tag => exact .plant _ _ (fun _ => rfl) (fun s => (s.replyFrame_keeps k tag 5 0 0).kept)
  | reSend k =>
    exact .timer _ (fun s => s.resendDue k) _ (fun _ => rfl) (fun s _ => (s.resend_keeps k).kept)
  | replyDeadlineExpiry k =>
    exact .timer _ (fun s => s.replyDeadlineDue k) _ (fun _ => rfl) (fun s _ => (s.replyMissing_keeps k).kept)
  | offer h a b rsv =>
    exact .change _ _ _ (fun _ => rfl) (fun s => s.takeOffer_unmoved _ _ _ _)
      (fun s => s.kept_of_touches (s.takeOffer_touches _ a b rsv) (by decide))
  | review h a first count rsv =>
    exact .change _ _ _ (fun _ => rfl) (fun s => s.takeReview_unmoved _ _ _ _ _)
      (fun s => (s.takeReview_keeps _ a first count rsv).kept)
  | accept h a rsv =>
    exact .change _ _ _ (fun _ => rfl) (fun s => s.takeAccept_unmoved _ _ _)
      (fun s => s.takeAccept_kept _ a rsv)
  | recallOffer h a rsv =>
    exact .change _ _ _ (fun _ => rfl) (fun s => s.takeRecall_unmoved _ _ _)
      (fun s => (s.takeRecall_keeps _ a rsv).kept)
  | handoverLapse a =>
    exact .timer _ (fun s => s.lapseDue a) _ (fun _ => rfl) (fun s _ => (s.closeSession_keeps a .lapsed).kept)
  | takeover h a rsv =>
    exact .change _ _ _ (fun _ => rfl) (fun s => s.takeTakeover_unmoved _ _ _)
      (fun s => s.takeTakeover_kept _ a rsv)
  | queryUnitStatus h rsv => exact .ask _ _ _ (fun _ => rfl)
  | queryAreaStatus h a rsv => exact .ask _ _ _ (fun _ => rfl)
  | queryAlarmPage h a page f rsv => exact .ask _ _ _ (fun _ => rfl)
  | queryAlarmEntry h r rsv => exact .ask _ _ _ (fun _ => rfl)
  | queryTransitList h rsv => exact .ask _ _ _ (fun _ => rfl)
  | queryOverrideList h rsv => exact .ask _ _ _ (fun _ => rfl)
  | queryHandoverList h a rsv => exact .ask _ _ _ (fun _ => rfl)
  | queryStationStatus h st rsv => exact .ask _ _ _ (fun _ => rfl)
  | stationWrite h i r rsv =>
    exact .change _ _ _ (fun _ => rfl) (fun s => s.takeStationWrite_unmoved _ _ _ _)
      (fun s => (s.takeStationWrite_keeps _ i r rsv).kept)
  | rosterWrite h i r rsv =>
    exact .change _ _ _ (fun _ => rfl) (fun s => s.takeRosterWrite_unmoved _ _ _ _)
      (fun s => (s.takeRosterWrite_keeps _ i r rsv).kept)
  | areaWrite h i r rsv =>
    exact .change _ _ _ (fun _ => rfl) (fun s => s.takeAreaWrite_unmoved _ _ _ _)
      (fun s => (s.takeAreaWrite_keeps _ i r rsv).kept)
  | tagWrite h i r rsv =>
    exact .change _ _ _ (fun _ => rfl) (fun s => s.takeTagWrite_unmoved _ _ _ _)
      (fun s => (Keeps.of_touches (s.takeTagWrite_touches _ i r rsv) (by decide)).kept)
  | readRecord h table index rsv => exact .ask _ _ _ (fun _ => rfl)
  | store h => exact .store h
  | storeComplete matched => exact .storeDone matched
  | setClock h time rsv =>
    exact .change _ _ _ (fun _ => rfl) (fun s => s.takeSetClock_unmoved _ _ _)
      (fun s => (Keeps.of_touches (s.takeSetClock_touches _ time rsv) (by decide)).kept)
  | restart h =>
    exact .change _ _ _ (fun _ => rfl) (fun s => s.takeRestart_unmoved _) (fun s => (s.takeRestart_keeps _).kept)
  | millTimeAdvance => exact .quiet _ _ (fun _ => rfl) (fun s => s.advanceMill_touches.mono (by decide))
  | plantFrameDiscarded payload =>
    exact .quiet _ _ (fun _ => rfl) (fun s => (s.discardPortB_touches payload).mono (by decide))
  | alarmNoticeRaise n =>
    exact .plant _ _ (fun _ => rfl) (fun s => (s.noticeFrame_keeps n.seq n.tag n.cond 1 _ 0 n.time).kept)
  | alarmNoticeReturn n =>
    exact .plant _ _ (fun _ => rfl) (fun s => (s.noticeFrame_keeps n.seq n.tag n.cond 2 _ 0 n.time).kept)
  | decayEvent a =>
    exact .timer _ (fun s => s.decayDue a) _ (fun _ => rfl) (fun s _ => (Keeps.of_touches (s.decay_touches a) (by decide)).kept)
  | releaseTimerExpiry a =>
    exact .timer _ (fun s => s.releaseDue a) _ (fun _ => rfl) (fun s _ => (s.releaseOldest_keeps a).kept)
  | stage1Expiry n =>
    exact .timer _ (fun s => s.deadlineDue n 1) _ (fun _ => rfl) (fun s _ => (s.escalate_keeps n).kept)
  | stage2Expiry n =>
    exact .timer _ (fun s => s.deadlineDue n 2) _ (fun _ => rfl) (fun s _ => (s.fallOverdue_keeps n).kept)
  | plantBeat => exact .plant _ _ (fun _ => rfl) (fun s => s.serveLink_keeps.kept)
  | resyncEnd scope n =>
    exact .plant _ _ (fun _ => rfl) (fun s => (s.serveLink_keeps.trans (State.takeResyncEnd_keeps _ scope n)).kept)
  | plantSilenceTimeout => exact .timer _ _ _ (fun _ => rfl) (fun s _ => s.enterDegraded_keeps.kept)
  | plantDegradedTimeout => exact .timer _ _ _ (fun _ => rfl) (fun s _ => s.enterLost_keeps.kept)
  | plantStartTimeout => exact .timer _ _ _ (fun _ => rfl) (fun s _ => s.enterLost_keeps.kept)
  | resyncTimerExpiry => exact .timer _ _ _ (fun _ => rfl) (fun s _ => s.resyncTimesOut_keeps.kept)
  | unitBeat => exact .quiet _ _ (fun _ => rfl) (fun s => s.unitBeat_touches.mono (by decide))
  | malformedContent c =>
    cases c with
    | notice seq tag cond transition flag rsv time =>
      exact .plant _ _ (fun _ => rfl) (fun s => (s.noticeFrame_keeps seq tag cond transition flag rsv time).kept)
    | reply k tag outcome rsv arg =>
      exact .plant _ _ (fun _ => rfl) (fun s => (s.replyFrame_keeps k tag outcome rsv arg).kept)

theorem exec_kept (i : Instr) (s : State) : Leads Kept s (exec i s) :=
  carried_kept.exec_of_ended (fun h => h.trans (State.finish_keeps _).kept) (fun u s p => (startUp_keeps_from u s p).kept)
    (fun u s a b c _ => (dark_keeps_from u s a b c).kept)
        (fun s m => (s.storeDone_keeps m).kept) (shape_kept i) s

end Sys2Proof.Machine

open Sys2Proof.Machine in
/-- Settles O8: of what every step keeps, the sound entries with no exception. -/
theorem entriesStaySound : Obligations.EntriesStaySound := by
  unfold Obligations.EntriesStaySound
  intro s t sound stepped
  have kept := carried_kept.step exec_kept stepped
  exact State.entriesSound_iff.mpr (kept.sound _ (State.entriesSound_iff.mp sound))

open Sys2Proof.Machine in
/-- Settles O9: of what every step keeps, the room in each table. -/
theorem tablesStayWithinCapacity : Obligations.TablesStayWithinCapacity := by
  unfold Obligations.TablesStayWithinCapacity
  intro s t within stepped
  have kept := carried_kept.step exec_kept stepped
  obtain ⟨room, deferred, overrides, transit⟩ := State.withinCapacity_iff.mp within
  exact State.withinCapacity_iff.mpr ⟨kept.room room, kept.deferred deferred, kept.overrides overrides, kept.transit transit⟩
end

section
/-! PROOFS. Routes (R85 to R87): what a route reads, what the end of an event leaves on the routes, and so why every step
keeps them. -/

namespace Sys2Proof.Machine

/-! ### What a route reads -/

/-- The parts that the routes of R85 and R86 read. -/
def routedParts : List Part := [.entries, .owner, .cover, .orphans, .handover, .link, .logon, .stations]

theorem Touches.routeNow_eq {l : List Part} {s t : State} (h : Touches l s t) (hl : ∀ p ∈ routedParts, p ∉ l) (n : Nat) :
    t.routeNow n = s.routeNow n := by
  have supervisor := h.isSupervisorStation_eq (hl _ (by decide))
  have staffed := h.staffed_eq (hl _ (by decide))
  have supervisors : t.staffedSupervisors = s.staffedSupervisors := by simp [State.staffedSupervisors, supervisor, staffed]
  have system : t.systemRoute = s.systemRoute := by
    have : t.staffed = s.staffed := funext staffed
    rw [State.systemRoute, State.systemRoute, supervisors, this]
  have called (e : Entry) : t.supervisorsCalled e = s.supervisorsCalled e := by
    simp only [State.supervisorsCalled, h.isOrphan_eq (hl _ (by decide)), h.ownerOf_eq (hl _ (by decide)),
      h.link_eq (hl _ (by decide))]
  have onRoute (e : Entry) : t.onRoute e = s.onRoute e := by
    funext st
    simp only [State.onRoute, called, staffed, supervisor, h.isOwnerStation_eq (hl _ (by decide)),
      h.ownerOf_eq (hl _ (by decide)), h.coverOf_eq (hl _ (by decide)), h.session?_eq (hl _ (by decide))]
  simp only [State.routeNow, h.entry?_eq (hl _ (by decide)), system, onRoute]

/-- Where nothing that a route reads changes, nor a route, the routes stand as they stood. -/
theorem State.routesStand_of_touches {l : List Part} {s t : State} (h : Touches l s t)
    (hl : ∀ p ∈ .recs :: routedParts, p ∉ l) (stand : s.RoutesStand) : t.RoutesStand := fun n => by
  rw [h.annRec_eq (hl _ (by decide)), h.routeNow_eq (fun p hp => hl p (List.mem_cons_of_mem _ hp)), stand n]

/-! ### What the end of an event leaves -/

namespace State

theorem idleRoutes_of_routesStand {s : State} (h : s.RoutesStand) : s.IdleRoutes := fun n free => by
  rw [h n, s.routeNow_of_none free]

theorem annRec_updAnnRec (s : State) (n m : Nat) (f : AnnRec → AnnRec) :
    (s.updAnnRec n f).annRec m = if m = n then f (s.annRec n) else s.annRec m := annRec_setAnnRec s n _ m

theorem route_foldl_updAnnRec (news : List Nat) (route : Nat → NSet) (s : State) (n : Nat) :
    (((news.map (fun n => (n, route n))).foldl (fun s p => s.updAnnRec p.1 (fun a => { a with route := p.2 })) s).annRec
      n).route = if n ∈ news then route n else (s.annRec n).route := by
  induction news generalizing s with
  | nil => simp
  | cons m news ih =>
    rw [List.map_cons, List.foldl_cons, ih, annRec_updAnnRec]
    by_cases h : n = m
    · subst h; simp
    · simp [h]

theorem mem_keys_of_look_isSome {α : Type} {t : Tbl α} {k : Nat} (h : (t.look k).isSome = true) : k ∈ t.keys := by
  obtain ⟨v, hv⟩ := Option.isSome_iff_exists.mp h
  exact List.mem_map.mpr ⟨(k, v), Tbl.mem_of_look hv, rfl⟩

theorem mem_entries_keys {s : State} {n : Nat} : n ∈ s.alarm.entries.keys ↔ (s.entry? n).isSome = true :=
  ⟨look_isSome_of_mem_keys, mem_keys_of_look_isSome⟩

/-- R87: recomputed, the route of every entry in use is the one the state gives. -/
theorem reroute_routesStand {s : State} (idle : s.IdleRoutes) : s.reroute.RoutesStand := by
  intro n
  rw [s.reroute_touches.routeNow_eq (by decide)]
  by_cases used : (s.entry? n).isSome = true
  · exact (route_foldl_updAnnRec s.alarm.entries.keys s.routeNow _ n).trans (if_pos (mem_entries_keys.mpr used))
  · have free : s.entry? n = none := by simpa using used
    rw [s.routeNow_of_none free]
    exact s.reroute_keeps.routes idle n ((s.reroute_touches.entry?_eq (by decide) n).trans free)

theorem annRec_finish (s : State) (n : Nat) : s.finish.annRec n = s.reroute.refillAll.annRec n := rfl

theorem finish_routesStand {s : State} (idle : s.IdleRoutes) : s.finish.RoutesStand := fun n => by
  rw [annRec_finish, (refillAll_touches _).annRec_eq (by decide), s.finish_touches.routeNow_eq (by decide),
    reroute_routesStand idle n, s.reroute_touches.routeNow_eq (by decide)]

end State

/-! ### What every command leaves -/

/-- From `s` to `t` routes that stood still stand. -/
def KeepsRoutes (s t : State) : Prop := s.RoutesStand → t.RoutesStand

theorem Kept.finish_keepsRoutes {s t : State} (h : Kept s t) : KeepsRoutes s t.finish :=
  fun stand => State.finish_routesStand (h.routes (State.idleRoutes_of_routesStand stand))

theorem KeepsRoutes.of_touches {l : List Part} {s t : State} (h : Touches l s t) (hl : ∀ p ∈ .recs :: routedParts, p ∉ l) :
    KeepsRoutes s t := State.routesStand_of_touches h hl

namespace State

theorem serveWatch_keepsRoutes (s : State) (st : Nat) : KeepsRoutes s (s.serveWatch st) := by
  have heard := s.setHeard_touches (s.console.heard.put st s.now)
  have kept := Keeps.of_touches heard (by decide)
  unfold serveWatch
  dsimp only
  split
  · exact .of_touches heard (by decide)
  · exact (kept.trans (.after (coverScan_keeps _) (setLink_keeps _ st _))).kept.finish_keepsRoutes
  · exact (kept.trans (stationReturns_keeps _ st)).kept.finish_keepsRoutes

theorem admitFrame_keepsRoutes (s : State) (st : Nat) : KeepsRoutes s (s.admitFrame st) := fun stand =>
  KeepsRoutes.of_touches (serveRestarted_touches _ st) (by decide) (serveWatch_keepsRoutes _ st
    (KeepsRoutes.of_touches (s.countA_touches _) (by decide) stand))

end State

theorem carried_keepsRoutes : Carried KeepsRoutes (.recs :: routedParts) where
  trans := fun h k stand => k (h stand)
  still := KeepsRoutes.of_touches
  arrive := State.admitFrame_keepsRoutes
  finish := fun s => (Keeps.refl s).kept.finish_keepsRoutes
  unread := by decide

theorem State.storeDone_keepsRoutes (s : State) (matched : Bool) : KeepsRoutes s (s.storeDone matched) := by
  have stored (u : StoreUnit) : Keeps s { s with store := u } := .of_touches (s.setStore_touches u) (by decide)
  unfold State.storeDone
  split
  · exact fun stand => stand
  · have answered {t : State} (h : KeepsRoutes s t) (hd : Hdr) (a : Ans) : KeepsRoutes s (t.answer hd a) :=
      carried_keepsRoutes.trans h (carried_keepsRoutes.answer t hd a)
    refine answered ?_ _ _
    split
    · refine Kept.finish_keepsRoutes (Keeps.kept ?_)
      unfold State.storeMatched
      exact .ite (.after (State.sysReturn_keeps _ 520) (stored _)) (stored _)
    · exact Kept.finish_keepsRoutes (Keeps.kept (.after (State.sysRaise_keeps _ (by decide) _) (stored _)))

theorem State.startUp_routesStand (s : State) (p : Straps) : (s.startUp p).RoutesStand :=
  State.finish_routesStand ((State.startUpAlarms_keeps (s.woken p)).routes (fun _ _ => rfl))

theorem State.dark_routesStand (s : State) (power reset : Bool) (image : Image) :
    (s.dark power reset image).RoutesStand := fun _ => rfl

/-- A command's own operation keeps the tables; the end of its event gives the routes again. -/
theorem exec_keepsRoutes (i : Instr) (s : State) : Leads KeepsRoutes s (exec i s) :=
  carried_keepsRoutes.exec_of_ended Kept.finish_keepsRoutes (fun _ s p _ => s.startUp_routesStand p)
    (fun _ s a b c _ _ => s.dark_routesStand a b c) State.storeDone_keepsRoutes (shape_kept i) s

end Sys2Proof.Machine

open Sys2Proof.Machine in
/-- Settles O7: the end of every event that changes what a route reads recomputes the routes. -/
theorem routesStayAsComputed : Obligations.RoutesStayAsComputed := by
  unfold Obligations.RoutesStayAsComputed
  exact fun s t stand stepped => carried_keepsRoutes.step exec_keepsRoutes stepped stand
end

section
/-! PROOFS. Cover (R35, R36): every operation that touches what the walk reads ends with a scan. -/

namespace Sys2Proof.Machine

/-- The parts that the cover stations and the orphan set stand against. -/
def coveredParts : List Part := [.pins, .cover, .orphans, .outAreas] ++ State.walkParts

/-- From `s` to `t` cover stations and orphans that stood as scanned still do. -/
def KeepsCover (s t : State) : Prop := s.CoverStands → t.CoverStands

namespace KeepsCover

variable {s t u : State}

theorem refl (s : State) : KeepsCover s s := fun h => h

theorem trans (h : KeepsCover s t) (k : KeepsCover t u) : KeepsCover s u := fun x => k (h x)

theorem after (k : KeepsCover t u) (h : KeepsCover s t) : KeepsCover s u := h.trans k

theorem ite {c : Prop} [Decidable c] (h : KeepsCover s t) (k : KeepsCover s u) : KeepsCover s (if c then t else u) := by
  split
  · exact h
  · exact k

theorem foldl {α : Type} {f : State → α → State} (h : ∀ s x, KeepsCover s (f s x)) (xs : List α) (s : State) :
    KeepsCover s (xs.foldl f s) := by
  induction xs generalizing s with
  | nil => exact refl s
  | cons x xs ih => exact (h s x).trans (ih _)

theorem of_touches {l : List Part} (h : Touches l s t) (hl : ∀ p ∈ coveredParts, p ∉ l) : KeepsCover s t := by
  intro stands on a h1 h12
  obtain ⟨cover, orphan⟩ := stands ((h.running_eq (hl _ (by decide))).symm.trans on) a h1 h12
  rw [h.coverOf_eq (hl _ (by decide)), h.isOrphan_eq (hl _ (by decide)), h.ownerOf_eq (hl _ (by decide)),
    h.inService_eq (hl _ (by decide)),
    State.coverWalk_of_touches h (fun p hp => hl p (List.mem_append_right _ hp))]
  exact ⟨cover, orphan⟩

end KeepsCover

namespace State

/-- A scan leaves cover stations and orphans as it gives them, whatever they were. -/
theorem coverScan_coverStands (s : State) : s.coverScan.CoverStands := by
  intro _ a h1 h12
  have scanned := s.coverScan_touches
  rw [s.coverOf_coverScan h1 h12, s.isOrphan_coverScan h1 h12, s.coverOf_coverScan h1 h12,
    coverWalk_of_touches scanned (by decide), scanned.ownerOf_eq (by decide), scanned.inService_eq (by decide)]
  exact ⟨rfl, Iff.rfl⟩

variable (s : State)

theorem coverScan_keepsCover (u : State) : KeepsCover u s.coverScan := fun _ => s.coverScan_coverStands

/-! ### Transfers and the endings of commands -/

theorem closeSession_keepsCover (a : Nat) (r : CloseReason) : KeepsCover s (s.closeSession a r) :=
  .of_touches (s.closeSession_touches a r) (by decide)

theorem cancelTakeover_keepsCover (a : Nat) (r : CloseReason) : KeepsCover s (s.cancelTakeover a r) :=
  .of_touches (s.cancelTakeover_touches a r) (by decide)

theorem concludeTransfer_keepsCover (a op : Nat) (k : TransferKind) (old : Option (Nat × Nat)) :
    KeepsCover s (s.concludeTransfer a op k old) := .of_touches (s.concludeTransfer_touches a op k old) (by decide)

theorem completeHandover_keepsCover (a : Nat) : KeepsCover s (s.completeHandover a) := by
  unfold completeHandover
  split
  · exact .refl s
  · split
    · exact s.closeSession_keepsCover a _
    · exact .after (concludeTransfer_keepsCover _ _ _ _ _) (coverScan_keepsCover _ s)

theorem completeTakeover_keepsCover (a op : Nat) : KeepsCover s (s.completeTakeover a op) := by
  unfold completeTakeover
  split
  · exact s.cancelTakeover_keepsCover a _
  · exact .after (concludeTransfer_keepsCover _ _ _ _ _) (coverScan_keepsCover _ s)

theorem quiesced_keepsCover (a : Nat) : KeepsCover s (s.quiesced a) := by
  unfold quiesced
  split
  · exact .refl s
  · split
    · exact s.completeHandover_keepsCover a
    · exact s.completeTakeover_keepsCover a _
    · exact .refl s

theorem withdrawWaiting_keepsCover (p : Transit → Bool) (r : WithdrawReason) : KeepsCover s (s.withdrawWaiting p r) :=
  .of_touches (s.withdrawWaiting_touches p r) (by decide)

theorem countGate_keepsCover (f : CountersG → CountersG) : KeepsCover s (s.countGate f) :=
  .of_touches (s.countGate_touches f) (by decide)

theorem endFlight_keepsCover (k : Nat) (o : ResultOutcome) (d : Nat) : KeepsCover s (s.endFlight k o d) := by
  unfold endFlight
  split
  · exact .refl s
  · exact .after (quiesced_keepsCover _ _) (.of_touches (l := [.transit, .handover, .said .result])
      (.after (resolveItems_touches _ _ _) (by decide) (.after (say_results _ _ (kind_resultMsgs s)) (by decide)
        ((s.freeTransit_touches k).mono (by decide)))) (by decide))

theorem failOne_keepsCover (k : Nat) : KeepsCover s (s.failOne k) :=
  .after (endFlight_keepsCover _ k _ _) (s.countGate_keepsCover _)

theorem setEv_touches (e : EvBuf) : Touches saidParts s { s with ev := e } := by
  intro p hp
  cases p with
  | said k => cases k <;> exact absurd (by decide) hp
  | keyLine => exact ⟨rfl, rfl⟩
  | _ => rfl

theorem failInTurn_keepsCover (k : Nat) : KeepsCover s (s.failInTurn k) :=
  .after (.of_touches (setEv_touches _ _) (by decide)) (.after (failOne_keepsCover _ k)
    (.of_touches (s.setEv_touches _) (by decide)))

theorem failInFlight_keepsCover : KeepsCover s s.failInFlight := by
  unfold failInFlight
  dsimp only
  split
  · exact .refl s
  · exact .after (failOne_keepsCover _ _) (.foldl (fun s k => s.failInTurn_keepsCover k) _ s)

theorem takeReply_keepsCover (k tag outcome arg : Nat) : KeepsCover s (s.takeReply k tag outcome arg) := by
  have final (o : ResultOutcome) (d : Nat) : KeepsCover s (s.finalReply k tag o d) := by
    unfold finalReply
    split
    · exact s.countGate_keepsCover _
    · exact s.endFlight_keepsCover k o d
  have extended (n : Nat) : KeepsCover s (s.extendReply k tag n) := .of_touches (s.extendReply_touches k tag n) (by decide)
  have busy : KeepsCover s (s.busyReply k tag) := by
    unfold busyReply
    split
    · exact s.countGate_keepsCover _
    · exact .ite (.after (endFlight_keepsCover _ _ _ _) (s.countGate_keepsCover _))
        (.ite (.refl s) (.of_touches (s.enterRepeatWait_touches k _) (by decide)))
  unfold takeReply
  split
  · exact final _ _
  · exact final _ _
  · exact busy
  · exact extended _
  · exact extended _

theorem replyFrame_keepsCover (k tag outcome rsv arg : Nat) : KeepsCover s (s.replyFrame k tag outcome rsv arg) := by
  have served : KeepsCover s s.serveLink := .of_touches s.serveLink_touches (by decide)
  unfold replyFrame
  exact .ite (.after (.of_touches (countB_touches _ _) (by decide)) served) (.after (takeReply_keepsCover _ _ _ _ _) served)

theorem replyMissing_keepsCover (k : Nat) : KeepsCover s (s.replyMissing k) := by
  unfold replyMissing
  split
  · exact .refl s
  · exact .after (endFlight_keepsCover _ k _ _) (s.countGate_keepsCover _)

theorem enterLost_keepsCover : KeepsCover s s.enterLost := by
  unfold enterLost
  dsimp only
  refine .after (.of_touches (moveLink_touches _ _) (by decide)) (.after (.of_touches (countB_touches _ _) (by decide))
    (.after (failInFlight_keepsCover _) ?_))
  refine .after (.of_touches (setPlant_touches _ _) (by decide)) (.after (.of_touches (markStale_touches _) (by decide))
    (.after (.of_touches (sysRaise_touches _ 513 _) (by decide)) ?_))
  exact .ite (.of_touches (s.sysReturn_touches 512) (by decide)) (.refl s)

/-! ### Stations and operators -/

theorem stationReturns_keepsCover (u : State) (st : Nat) : KeepsCover u (s.stationReturns st) :=
  .after (.of_touches (forceAttention_touches _ _) (by decide)) (.after
    (.of_touches (l := [.said .notice]) (say_touches _ _ (by simp [outTo, Out.kind])) (by decide))
    (coverScan_keepsCover _ u))

theorem serveWatch_keepsCover (st : Nat) : KeepsCover s (s.serveWatch st) := by
  have finished (u : State) : KeepsCover s u.coverScan.finish :=
    .after (.of_touches (finish_touches _) (by decide)) (coverScan_keepsCover u s)
  unfold serveWatch
  dsimp only
  split
  · exact .of_touches (s.setHeard_touches _) (by decide)
  · exact finished _
  · exact .after (.of_touches (finish_touches _) (by decide)) (stationReturns_keepsCover _ s st)

theorem stationLost_keepsCover (st : Nat) : KeepsCover s (s.stationLost st) := coverScan_keepsCover _ s

theorem admitFrame_keepsCover (st : Nat) : KeepsCover s (s.admitFrame st) :=
  .after (.of_touches (serveRestarted_touches _ st) (by decide)) (.after (serveWatch_keepsCover _ st)
    (.of_touches (s.countA_touches _) (by decide)))

theorem forceOff_keepsCover (op st : Nat) (r : LogoffReason) (w : WithdrawReason) :
    KeepsCover s (s.forceOff op st r w) := coverScan_keepsCover _ s

theorem graceEnds_keepsCover (st : Nat) : KeepsCover s (s.graceEnds st) := by
  unfold graceEnds
  split
  · exact s.forceOff_keepsCover _ _ _ _
  · exact .of_touches (s.stopGrace_touches st) (by decide)

theorem takeLogon_keepsCover (st badge rsv : Nat) : KeepsCover s (s.takeLogon st badge rsv).1 := by
  unfold takeLogon
  repeat' split
  all_goals first | with_reducible exact .refl _ | exact coverScan_keepsCover _ s

theorem takeLogoff_keepsCover (st : Nat) : KeepsCover s (s.takeLogoff st).1 := by
  unfold takeLogoff
  repeat' split
  all_goals first
    | with_reducible exact .refl _
    | exact .after (.of_touches (forceAttention_touches _ st) (by decide)) (coverScan_keepsCover _ s)

theorem takeClaim_keepsCover (st a rsv : Nat) : KeepsCover s (s.takeClaim st a rsv).1 := by
  unfold takeClaim
  repeat' split
  all_goals first | with_reducible exact .refl _ | exact coverScan_keepsCover _ s

theorem takeRelease_keepsCover (st a rsv : Nat) : KeepsCover s (s.takeRelease st a rsv).1 := by
  unfold takeRelease
  repeat' split
  all_goals first | with_reducible exact .refl _ | exact coverScan_keepsCover _ s

theorem takeServiceOut_keepsCover (st a rsv : Nat) : KeepsCover s (s.takeServiceOut st a rsv).1 := by
  unfold takeServiceOut
  repeat' split
  all_goals first
    | with_reducible exact .refl _
    | exact .after (.of_touches (serviceNotice_touches _ _ _) (by decide)) (coverScan_keepsCover _ s)

theorem takeServiceIn_keepsCover (st a rsv : Nat) : KeepsCover s (s.takeServiceIn st a rsv).1 := by
  unfold takeServiceIn
  repeat' split
  all_goals first
    | with_reducible exact .refl _
    | exact .after (.of_touches (serviceNotice_touches _ _ _) (by decide))
        (.after (.of_touches (areaResync_touches _ _) (by decide)) (coverScan_keepsCover _ s))

/-! ### Handover -/

theorem takeAccept_keepsCover (st a rsv : Nat) : KeepsCover s (s.takeAccept st a rsv).1 := by
  have accepted (x : Session) : KeepsCover s (s.acceptSession a x).1 := by
    have withdrawn : KeepsCover s (s.withdrawForHandover a x.outOp) :=
      .of_touches (s.withdrawForHandover_touches a x.outOp) (by decide)
    unfold acceptSession
    dsimp only
    split
    · exact .after (completeHandover_keepsCover _ a) withdrawn
    · exact .after (.of_touches (startQuiescing_touches _ _ _ _) (by decide)) withdrawn
  unfold takeAccept
  repeat' split
  all_goals try dsimp only
  all_goals first | with_reducible exact .refl _ | exact accepted _

theorem takeFromOwner_keepsCover (a op st owner ost : Nat) : KeepsCover s (s.takeFromOwner a op st owner ost).1 := by
  have closed : KeepsCover s ((s.closeSession a .takeover).withdrawWaiting
      (fun t => decide (t.area = a ∧ t.origOp = owner)) .takeover) :=
    .after (withdrawWaiting_keepsCover _ _ _) (s.closeSession_keepsCover a _)
  unfold takeFromOwner
  dsimp only
  split
  · exact .after (completeTakeover_keepsCover _ a op) closed
  · exact .after (.of_touches (startTakingOver_touches _ _ _ _ _ _) (by decide)) closed

theorem takeTakeover_keepsCover (st a rsv : Nat) : KeepsCover s (s.takeTakeover st a rsv).1 := by
  unfold takeTakeover takeoverBy
  repeat' split
  all_goals try dsimp only
  all_goals first
    | with_reducible exact .refl _
    | with_reducible exact s.takeFromOwner_keepsCover a _ st _ _
    | exact s.completeTakeover_keepsCover a _

/-! ### Management -/

/-- R35: a station where nobody is logged on covers no area, so that its record does not enter the walk. -/
theorem covers_of_not_staffed {st : Nat} (h : s.logonAt st = none) (a : Nat) : s.covers a st = false := by
  simp [covers, h]

theorem putStation_keepsCover {st : Nat} (h : s.logonAt st = none) (r : StationRec) : KeepsCover s (s.putStation st r) := by
  unfold putStation
  dsimp only
  split
  case isFalse => exact coverScan_keepsCover _ s
  case isTrue present =>
    intro stands on a h1 h12
    have covers : (s.setTables { s.tables with stations := s.tables.stations.put st r }).covers a = s.covers a := by
      funext st'
      by_cases other : st' = st
      · subst other
        rw [s.covers_of_not_staffed h]
        refine covers_of_not_staffed _ ?_ a
        exact h
      · have same : (s.setTables { s.tables with stations := s.tables.stations.put st r }).stationRec? st' =
            s.stationRec? st' := (Tbl.look_put _ _ _ _).trans (if_neg other)
        have permits : (s.setTables { s.tables with stations := s.tables.stations.put st r }).permits st' a =
            s.permits st' a := by rw [State.permits, same]; rfl
        rw [State.covers, State.covers, same, permits]
        rfl
    obtain ⟨cover, orphan⟩ := stands on a h1 h12
    refine ⟨cover.trans ?_, orphan⟩
    rw [coverWalk, coverWalk, covers]
    rfl

theorem takeStationWrite_keepsCover (st i : Nat) (r : Option RawStation) (rsv : Nat) :
    KeepsCover s (s.takeStationWrite st i r rsv).1 := by
  unfold takeStationWrite
  repeat' split
  all_goals try dsimp only
  all_goals first
    | with_reducible exact .refl _
    | exact coverScan_keepsCover _ s
    | exact s.putStation_keepsCover (by simpa [staffed] using ‹¬ s.staffed i = true›) _

theorem rosterEffects_keepsCover (u : State) (op : Nat) : KeepsCover u (s.rosterEffects op) := by
  unfold rosterEffects
  split
  · exact coverScan_keepsCover s u
  · exact .ite (coverScan_keepsCover _ u)
      (.after (.of_touches (forceAttention_touches _ _) (by decide)) (coverScan_keepsCover _ u))

theorem takeRosterWrite_keepsCover (st i : Nat) (r : Option RawRoster) (rsv : Nat) :
    KeepsCover s (s.takeRosterWrite st i r rsv).1 := by
  unfold takeRosterWrite
  repeat' split
  all_goals first | with_reducible exact .refl _ | exact rosterEffects_keepsCover _ s _

theorem takeAreaWrite_keepsCover (st i : Nat) (r : Option RawArea) (rsv : Nat) :
    KeepsCover s (s.takeAreaWrite st i r rsv).1 := by
  unfold takeAreaWrite
  repeat' split
  all_goals first | with_reducible exact .refl _ | exact coverScan_keepsCover _ s

theorem startUpAlarms_keepsCover (u : State) : KeepsCover u s.startUpAlarms := by
  have raised {t : State} (h : KeepsCover u t) (n : Nat) : KeepsCover u (t.sysRaise n .none) :=
    h.trans (.of_touches (t.sysRaise_touches n _) (by decide))
  have scanned := s.coverScan_keepsCover u
  unfold startUpAlarms
  dsimp only
  have stored : KeepsCover u (if s.coverScan.store.fault then s.coverScan.sysRaise 520 .none else s.coverScan) :=
    .ite (raised scanned _) scanned
  exact .ite (raised stored _) stored

theorem startUp_keepsCover (u : State) (p : Straps) : KeepsCover u (s.startUp p) :=
  .after (.of_touches (finish_touches _) (by decide)) ((s.woken p).startUpAlarms_keepsCover u)

theorem takeRestart_keepsCover (st : Nat) : KeepsCover s (s.takeRestart st).1 := by
  have restarted := s.cleared.startUpAlarms_keepsCover s
  unfold takeRestart
  split
  · exact .refl s
  · split
    · exact .refl s
    · dsimp only
      exact restarted

/-- R35, R36 speak of a unit that runs. -/
theorem dark_keepsCover (u : State) {power reset : Bool} (off : power = false ∨ reset = true) (image : Image) :
    KeepsCover u (s.dark power reset image) := by
  intro _ on
  have : (s.dark power reset image).running = false := by
    rcases off with rfl | rfl
    · rfl
    · exact Bool.and_false power
  simp [this] at on

end State

theorem carried_keepsCover : Carried KeepsCover coveredParts where
  trans := KeepsCover.trans
  still := KeepsCover.of_touches
  arrive := State.admitFrame_keepsCover
  finish := fun s => .of_touches s.finish_touches (by decide)
  unread := by decide

theorem shape_keepsCover (i : Instr) : Shape KeepsCover i := by
  cases i with
  | powerUp straps => exact .powerUp _
  | resetAssert moment => exact .resetAssert _
  | resetDeassert straps => exact .resetDeassert _
  | powerLoss moment => exact .powerLoss _
  | masterKeyLineChange closed => exact .keyLine closed
  | keyAsserted => exact .timer _ _ _ (fun _ => rfl) (fun s _ => .of_touches (s.assertKey_touches) (by decide))
  | keyReleased => exact .timer _ _ _ (fun _ => rfl) (fun s _ => .of_touches (s.releaseKey_touches) (by decide))
  | portAFrameDiscarded src payload =>
    exact .quiet _ _ (fun _ => rfl) (fun s => (s.discardPortA_touches src payload).mono (by decide))
  | unknownKind h r => exact .unknown h r
  | beat h => exact .beat h
  | consoleSilenceTimeout st =>
    exact .timer _ (fun s => s.silenceDue st) _ (fun _ => rfl) (fun s _ => s.stationLost_keepsCover st)
  | graceExpiry st =>
    exact .timer _ (fun s => s.graceDue st) _ (fun _ => rfl) (fun s _ => s.graceEnds_keepsCover st)
  | logon h badge rsv =>
    exact .change _ _ _ (fun _ => rfl) (fun s => s.takeLogon_unmoved _ _ _)
      (fun s => s.takeLogon_keepsCover _ badge rsv)
  | logoff h =>
    exact .change _ _ _ (fun _ => rfl) (fun s => s.takeLogoff_unmoved _) (fun s => s.takeLogoff_keepsCover _)
  | claim h a rsv =>
    exact .change _ _ _ (fun _ => rfl) (fun s => s.takeClaim_unmoved _ _ _)
      (fun s => s.takeClaim_keepsCover _ a rsv)
  | release h a rsv =>
    exact .change _ _ _ (fun _ => rfl) (fun s => s.takeRelease_unmoved _ _ _)
      (fun s => s.takeRelease_keepsCover _ a rsv)
  | ack h r rsv =>
    exact .change _ _ _ (fun _ => rfl) (fun s => s.takeAck_unmoved _ _ _) (fun s => .of_touches (s.takeAck_touches _ r rsv) (by decide))
  | silenceTop h r rsv =>
    exact .change _ _ _ (fun _ => rfl) (fun s => s.takeSilenceTop_unmoved _ _ _)
      (fun s => .of_touches (s.takeSilenceTop_touches _ r rsv) (by decide))
  | silenceAll h rsv =>
    exact .change _ _ _ (fun _ => rfl) (fun s => s.takeSilenceAll_unmoved _ _)
      (fun s => .of_touches (s.takeSilenceAll_touches _ rsv) (by decide))
  | serviceOut h a rsv =>
    exact .change _ _ _ (fun _ => rfl) (fun s => s.takeServiceOut_unmoved _ _ _)
      (fun s => s.takeServiceOut_keepsCover _ a rsv)
  | serviceIn h a rsv =>
    exact .change _ _ _ (fun _ => rfl) (fun s => s.takeServiceIn_unmoved _ _ _)
      (fun s => s.takeServiceIn_keepsCover _ a rsv)
  | shelve h tag d r rsv =>
    exact .change _ _ _ (fun _ => rfl) (fun s => s.takeOverride_unmoved _ _ _ _ _ _)
      (fun s => .of_touches (s.takeOverride_touches .shelve _ tag d r rsv) (by decide))
  | unshelve h tag rsv =>
    exact .change _ _ _ (fun _ => rfl) (fun s => s.takeEnding_unmoved _ _ _ _)
      (fun s => .of_touches (s.takeEnding_touches .shelve _ tag rsv) (by decide))
  | bypass h tag d r rsv =>
    exact .change _ _ _ (fun _ => rfl) (fun s => s.takeOverride_unmoved _ _ _ _ _ _)
      (fun s => .of_touches (s.takeBypass_touches _ tag d r rsv) (by decide))
  | unbypass h tag rsv =>
    exact .change _ _ _ (fun _ => rfl) (fun s => s.takeEnding_unmoved _ _ _ _)
      (fun s => .of_touches (s.takeEnding_touches .bypass _ tag rsv) (by decide))
  | overrideExpiry n =>
    exact .timer _ (fun s => s.overrideDue n) _ (fun _ => rfl) (fun s _ => .of_touches (s.overrideExpires_touches n) (by decide))
  | command h tag act v rsv =>
    exact .change _ _ _ (fun _ => rfl) (fun s => s.takeCommand_unmoved _ _ _ _ _)
      (fun s => .of_touches (s.takeCommand_touches _ tag act v rsv) (by decide))
  | countersignAgree h k tag rsv =>
    exact .change _ _ _ (fun _ => rfl) (fun s => s.takeAgree_unmoved _ _ _ _)
      (fun s => .of_touches (s.takeAgree_touches _ k tag rsv) (by decide))
  | countersignDecline h k tag rsv =>
    exact .change _ _ _ (fun _ => rfl) (fun s => s.takeDecline_unmoved _ _ _ _)
      (fun s => .of_touches (s.takeDecline_touches _ k tag rsv) (by decide))
  | withdraw h k rsv =>
    exact .change _ _ _ (fun _ => rfl) (fun s => s.takeWithdraw_unmoved _ _ _)
      (fun s => .of_touches (s.takeWithdraw_touches _ k rsv) (by decide))
  | countersignWindowExpiry k =>
    exact .timer _ (fun s => s.windowDue k) _ (fun _ => rfl) (fun s _ => .of_touches (s.endAwaiting_touches _ _ _ _ _ _) (by decide))
  | replyDone k tag => exact .plant _ _ (fun _ => rfl) (fun s => s.replyFrame_keepsCover k tag 1 0 0)
  | replyRefused k tag code => exact .plant _ _ (fun _ => rfl) (fun s => s.replyFrame_keepsCover k tag 2 0 code)
  | replyBusy k tag => exact .plant _ _ (fun _ => rfl) (fun s => s.replyFrame_keepsCover k tag 3 0 0)
  | replyExtend k tag n => exact .plant _ _ (fun _ => rfl) (fun s => s.replyFrame_keepsCover k tag 4 0 n)
  | replyHoldOn k tag => exact .plant _ _ (fun _ => rfl) (fun s => s.replyFrame_keepsCover k tag 5 0 0)
  | reSend k =>
    exact .timer _ (fun s => s.resendDue k) _ (fun _ => rfl) (fun s _ => .of_touches (s.resend_touches k) (by decide))
  | replyDeadlineExpiry k =>
    exact .timer _ (fun s => s.replyDeadlineDue k) _ (fun _ => rfl) (fun s _ => s.replyMissing_keepsCover k)
  | offer h a b rsv =>
    exact .change _ _ _ (fun _ => rfl) (fun s => s.takeOffer_unmoved _ _ _ _)
      (fun s => .of_touches (s.takeOffer_touches _ a b rsv) (by decide))
  | review h a first count rsv =>
    exact .change _ _ _ (fun _ => rfl) (fun s => s.takeReview_unmoved _ _ _ _ _)
      (fun s => .of_touches (s.takeReview_touches _ a first count rsv) (by decide))
  | accept h a rsv =>
    exact .change _ _ _ (fun _ => rfl) (fun s => s.takeAccept_unmoved _ _ _)
      (fun s => s.takeAccept_keepsCover _ a rsv)
  | recallOffer h a rsv =>
    exact .change _ _ _ (fun _ => rfl) (fun s => s.takeRecall_unmoved _ _ _)
      (fun s => .of_touches (s.takeRecall_touches _ a rsv) (by decide))
  | handoverLapse a =>
    exact .timer _ (fun s => s.lapseDue a) _ (fun _ => rfl) (fun s _ => .of_touches (s.closeSession_touches a .lapsed) (by decide))
  | takeover h a rsv =>
    exact .change _ _ _ (fun _ => rfl) (fun s => s.takeTakeover_unmoved _ _ _)
      (fun s => s.takeTakeover_keepsCover _ a rsv)
  | queryUnitStatus h rsv => exact .ask _ _ _ (fun _ => rfl)
  | queryAreaStatus h a rsv => exact .ask _ _ _ (fun _ => rfl)
  | queryAlarmPage h a page f rsv => exact .ask _ _ _ (fun _ => rfl)
  | queryAlarmEntry h r rsv => exact .ask _ _ _ (fun _ => rfl)
  | queryTransitList h rsv => exact .ask _ _ _ (fun _ => rfl)
  | queryOverrideList h rsv => exact .ask _ _ _ (fun _ => rfl)
  | queryHandoverList h a rsv => exact .ask _ _ _ (fun _ => rfl)
  | queryStationStatus h st rsv => exact .ask _ _ _ (fun _ => rfl)
  | stationWrite h i r rsv =>
    exact .change _ _ _ (fun _ => rfl) (fun s => s.takeStationWrite_unmoved _ _ _ _)
      (fun s => s.takeStationWrite_keepsCover _ i r rsv)
  | rosterWrite h i r rsv =>
    exact .change _ _ _ (fun _ => rfl) (fun s => s.takeRosterWrite_unmoved _ _ _ _)
      (fun s => s.takeRosterWrite_keepsCover _ i r rsv)
  | areaWrite h i r rsv =>
    exact .change _ _ _ (fun _ => rfl) (fun s => s.takeAreaWrite_unmoved _ _ _ _)
      (fun s => s.takeAreaWrite_keepsCover _ i r rsv)
  | tagWrite h i r rsv =>
    exact .change _ _ _ (fun _ => rfl) (fun s => s.takeTagWrite_unmoved _ _ _ _)
      (fun s => .of_touches (s.takeTagWrite_touches _ i r rsv) (by decide))
  | readRecord h table index rsv => exact .ask _ _ _ (fun _ => rfl)
  | store h => exact .store h
  | storeComplete matched => exact .storeDone matched
  | setClock h time rsv =>
    exact .change _ _ _ (fun _ => rfl) (fun s => s.takeSetClock_unmoved _ _ _)
      (fun s => .of_touches (s.takeSetClock_touches _ time rsv) (by decide))
  | restart h =>
    exact .change _ _ _ (fun _ => rfl) (fun s => s.takeRestart_unmoved _) (fun s => s.takeRestart_keepsCover _)
  | millTimeAdvance => exact .quiet _ _ (fun _ => rfl) (fun s => s.advanceMill_touches.mono (by decide))
  | plantFrameDiscarded payload =>
    exact .quiet _ _ (fun _ => rfl) (fun s => (s.discardPortB_touches payload).mono (by decide))
  | alarmNoticeRaise n =>
    exact .plant _ _ (fun _ => rfl) (fun s => .of_touches (s.noticeFrame_touches n.seq n.tag n.cond 1 _ 0 n.time) (by decide))
  | alarmNoticeReturn n =>
    exact .plant _ _ (fun _ => rfl) (fun s => .of_touches (s.noticeFrame_touches n.seq n.tag n.cond 2 _ 0 n.time) (by decide))
  | decayEvent a =>
    exact .timer _ (fun s => s.decayDue a) _ (fun _ => rfl) (fun s _ => .of_touches (s.decay_touches a) (by decide))
  | releaseTimerExpiry a =>
    exact .timer _ (fun s => s.releaseDue a) _ (fun _ => rfl) (fun s _ => .of_touches (s.releaseOldest_touches a) (by decide))
  | stage1Expiry n =>
    exact .timer _ (fun s => s.deadlineDue n 1) _ (fun _ => rfl) (fun s _ => .of_touches (s.escalate_touches n) (by decide))
  | stage2Expiry n =>
    exact .timer _ (fun s => s.deadlineDue n 2) _ (fun _ => rfl) (fun s _ => .of_touches (s.fallOverdue_touches n) (by decide))
  | plantBeat => exact .plant _ _ (fun _ => rfl) (fun s => .of_touches (s.serveLink_touches) (by decide))
  | resyncEnd scope n =>
    exact .plant _ _ (fun _ => rfl) (fun s => .after (.of_touches (State.takeResyncEnd_touches _ scope n) (by decide))
      (.of_touches s.serveLink_touches (by decide)))
  | plantSilenceTimeout => exact .timer _ _ _ (fun _ => rfl) (fun s _ => .of_touches (s.enterDegraded_touches) (by decide))
  | plantDegradedTimeout => exact .timer _ _ _ (fun _ => rfl) (fun s _ => s.enterLost_keepsCover)
  | plantStartTimeout => exact .timer _ _ _ (fun _ => rfl) (fun s _ => s.enterLost_keepsCover)
  | resyncTimerExpiry => exact .timer _ _ _ (fun _ => rfl) (fun s _ => .of_touches (s.resyncTimesOut_touches) (by decide))
  | unitBeat => exact .quiet _ _ (fun _ => rfl) (fun s => s.unitBeat_touches.mono (by decide))
  | malformedContent c =>
    cases c with
    | notice seq tag cond transition flag rsv time =>
      exact .plant _ _ (fun _ => rfl) (fun s => .of_touches (s.noticeFrame_touches seq tag cond transition flag rsv time) (by decide))
    | reply k tag outcome rsv arg =>
      exact .plant _ _ (fun _ => rfl) (fun s => s.replyFrame_keepsCover k tag outcome rsv arg)

theorem exec_keepsCover (i : Instr) (s : State) : Leads KeepsCover s (exec i s) :=
  carried_keepsCover.exec_of_ended (fun h => h.trans (carried_keepsCover.finish _)) (fun u s p => s.startUp_keepsCover u p)
    (fun u s _ _ c off => s.dark_keepsCover u off c) (fun s m => .of_touches (s.storeDone_touches m) (by decide))
    (shape_keepsCover i) s

end Sys2Proof.Machine

open Sys2Proof.Machine in
/-- Settles O6: what does not touch what the walk reads leaves cover and orphans standing, and all else ends with a scan. -/
theorem coverStaysAsScanned : Obligations.CoverStaysAsScanned := by
  unfold Obligations.CoverStaysAsScanned
  exact fun s t stands stepped => carried_keepsCover.step exec_keepsCover stepped stands
end

section
/-! PROOFS. The state right after reset (R40, R65, R84, R105, R119, R139, R169): nobody is logged on, so no area has an owner
or a cover station and no alarm a route. -/

namespace Sys2Proof.Machine.State

theorem logonAt_reset (st : Nat) : reset.logonAt st = none := rfl

theorem ownerOf_reset (a : Nat) : reset.ownerOf a = none := rfl

theorem lookHand_reset (a : Nat) : reset.hand.look a = none := rfl

theorem reset_ownersEntitled : reset.OwnersEntitled where
  logonsListed := .nil
  transitListed := .nil
  transitRoom := Nat.zero_le _
  onePlace st _ op h _ := by simp [logonAt_reset] at h
  areas a h := by simp [ownerOf_reset, lookHand_reset] at h
  owners a op st h := by simp [ownerOf_reset] at h
  takeovers a t h := by simp [lookHand_reset] at h

theorem coverWalk_reset (a : Nat) : reset.coverWalk a = none := by
  have walked : reset.covers a = fun _ => false := funext fun st => reset.covers_of_not_staffed (logonAt_reset st) a
  simp [coverWalk, walked]

theorem reset_coverStands : reset.CoverStands := by
  intro _ a h1 h12
  refine ⟨(coverWalk_reset a).symm, ?_⟩
  have orphan : reset.isOrphan a = true := by simp [isOrphan, reset, Authority.initial, mem_areaNumbers, h1, h12]
  have serving : reset.inService a = true := by simp [inService, reset, AlarmProc.initial]
  simp only [orphan, serving, ownerOf_reset, true_iff, true_and]
  rfl

/-- R86: the only entries are system alarms, and no station is staffed. -/
theorem reset_routesStand : reset.RoutesStand := by
  intro n
  have system : reset.systemRoute = [] := by decide
  have entries : reset.entry? n = if n = 516 then some (Entry.systemAtReset .high (.areas areaNumbers))
      else if n = 520 then some (Entry.systemAtReset .medium .none) else none := by
    simp [entry?, reset, Tbl.look]
  change [] = reset.routeNow n
  rw [routeNow, entries]
  split
  · rfl
  case h_2 e he =>
    have : e.tag = none := by
      split at he
      · cases he; rfl
      · split at he
        · cases he; rfl
        · simp at he
    simp [this, system]

theorem reset_entriesSound : reset.EntriesSound := by
  refine ⟨by decide, fun p hp => ?_⟩
  simp only [reset, List.mem_cons, List.not_mem_nil, or_false] at hp
  rcases hp with rfl | rfl <;>
    exact ⟨.inl rfl, Nat.zero_le _, Nat.le_refl _, by decide, .inl rfl, by decide⟩

theorem reset_withinCapacity : reset.WithinCapacity where
  stackRoom _ := Nat.zero_le _
  deferredRoom := Nat.zero_le _
  overrideRoom := ⟨.nil, by simp [reset], Nat.zero_le _⟩
  transitRoom := ⟨.nil, Nat.zero_le _⟩

end Sys2Proof.Machine.State

open Sys2Proof.Machine.State in
/-- Settles O10: the tables of live state are empty but for the two system alarms. -/
theorem resetMeetsTheInvariants : Obligations.ResetMeetsTheInvariants := by
  unfold Obligations.ResetMeetsTheInvariants
  exact ⟨reset_ownersEntitled, reset_coverStands, reset_routesStand, reset_entriesSound, reset_withinCapacity⟩
end

section
/-! PROOFS. Tickets (R121): the counter passes over the values in use and comes to rest on one that is free; and what the
creation of a transit entry leaves in the table. -/

namespace Sys2Proof.Machine

/-! ### The counter -/

theorem nextTicket_bounds (n : Nat) : 1 ≤ nextTicket n ∧ nextTicket n ≤ 65535 := by
  unfold nextTicket
  split <;> omega

theorem iterate_nextTicket {n : Nat} (low : 1 ≤ n) (high : n ≤ 65535) (j : Nat) :
    nextTicket^[j] n = (n - 1 + j) % 65535 + 1 := by
  induction j with
  | zero => rw [Function.iterate_zero_apply]; omega
  | succ j ih =>
    rw [Function.iterate_succ_apply', ih, nextTicket]
    split <;> omega

/-- R121: 65535 values are passed through before one comes again. -/
theorem iterate_nextTicket_ne (n : Nat) {i j : Nat} (less : i < j) (short : j < 65535) :
    nextTicket^[i] n ≠ nextTicket^[j] n := by
  obtain ⟨low, high⟩ := nextTicket_bounds n
  obtain ⟨j, rfl⟩ : ∃ j', j = j' + 1 := ⟨j - 1, by omega⟩
  cases i with
  | zero =>
    rw [Function.iterate_zero_apply, Function.iterate_succ_apply, iterate_nextTicket low high]
    simp only [nextTicket]
    split <;> omega
  | succ i =>
    rw [Function.iterate_succ_apply, Function.iterate_succ_apply, iterate_nextTicket low high,
      iterate_nextTicket low high]
    omega

/-- As many values in use as are passed over are entries of the table. -/
theorem length_ge_of_used {t : Tbl Transit} {n m : Nat} (short : m < 65535)
    (used : ∀ i, i < m → (t.look (nextTicket^[i] n)).isSome = true) : m ≤ t.length := by
  have distinct : ((List.range m).map (fun i => nextTicket^[i] n)).Nodup := by
    refine (List.nodup_map_iff_inj_on List.nodup_range).mpr (fun i hi j hj same => ?_)
    rw [List.mem_range] at hi hj
    rcases Nat.lt_trichotomy i j with less | rfl | more
    · exact absurd same (iterate_nextTicket_ne n less (by omega))
    · rfl
    · exact absurd same.symm (iterate_nextTicket_ne n more (by omega))
  have inTable : (List.range m).map (fun i => nextTicket^[i] n) ⊆ t.map Prod.fst := by
    intro k hk
    obtain ⟨i, hi, rfl⟩ := List.mem_map.mp hk
    obtain ⟨x, hx⟩ := Option.isSome_iff_exists.mp (used i (List.mem_range.mp hi))
    exact List.mem_map.mpr ⟨_, Tbl.mem_of_look hx, rfl⟩
  simpa using (List.subperm_of_subset distinct inTable).length_le

/-- The search passes over the values in use, and where it ends before its fuel does the value is free. -/
theorem unusedTicket_spec (t : Tbl Transit) (fuel n : Nat) :
    ∃ j, j ≤ fuel ∧ unusedTicket t fuel n = nextTicket^[j] n ∧
      (∀ i, i < j → (t.look (nextTicket^[i] n)).isSome = true) ∧ (j < fuel → t.look (nextTicket^[j] n) = none) := by
  induction fuel generalizing n with
  | zero => exact ⟨0, Nat.le_refl 0, rfl, by omega, by omega⟩
  | succ fuel ih =>
    rw [unusedTicket]
    split
    case isTrue used =>
      obtain ⟨j, bound, rest, passed, free⟩ := ih (nextTicket n)
      refine ⟨j + 1, by omega, rest, fun i hi => ?_, fun less => free (by omega)⟩
      cases i with
      | zero => exact used
      | succ i => exact passed i (by omega)
    case isFalse free => exact ⟨0, Nat.zero_le _, rfl, by omega, fun _ => by simpa using free⟩

/-- With as much fuel as the table has entries the search ends on a free value. -/
theorem unusedTicket_free {t : Tbl Transit} {fuel : Nat} (enough : t.length ≤ fuel) (short : fuel < 65534) (n : Nat) :
    ∃ j, unusedTicket t fuel n = nextTicket^[j] n ∧ t.look (unusedTicket t fuel n) = none ∧
      ∀ i, i < j → (t.look (nextTicket^[i] n)).isSome = true := by
  obtain ⟨j, bound, same, passed, free⟩ := unusedTicket_spec t fuel n
  refine ⟨j, same, ?_, passed⟩
  rw [same]
  by_contra used
  have full : j = fuel := by
    by_contra less
    exact used (free (by omega))
  have := length_ge_of_used (t := t) (n := n) (m := fuel + 1) (by omega) (fun i hi => by
    rcases Nat.lt_succ_iff_lt_or_eq.mp hi with less | rfl
    · exact passed i (by omega)
    · exact full ▸ Option.isSome_iff_ne_none.mpr used)
  omega

/-! ### The creation of an entry -/

namespace State

variable (s : State)

/-- R128: the entry as it is forwarded. -/
def forwardedNow (x : Transit) : Transit := { x with state := .forwarded, deadline := s.now + s.baseTime x.tag }

theorem forwardEntry_of_look {s : State} {k : Nat} {x : Transit} (look : s.gate.transit.look k = some x) :
    s.forwardEntry k = ({ s with gate := { s.gate with transit := s.gate.transit.put k (s.forwardedNow x) } } : State).say
      [s.forwardMsg k (s.forwardedNow x) false] := by
  simp only [forwardEntry, look]
  rfl

/-- R127: the entry that an accepted COMMAND leaves under its ticket. -/
def createdTransit (op st tag : Nat) (r : TagRec) (act : Action) (v : BitVec 32) : Transit :=
  if r.cls = 4 ∧ s.keySupervisor op st = false then s.newTransit op st tag r act v
  else s.forwardedNow (s.newTransit op st tag r act v)

theorem createTransit_gate (op st tag : Nat) (r : TagRec) (act : Action) (v : BitVec 32) :
    (s.createTransit op st tag r act v).gate.ticket =
        unusedTicket (s.gate.transit.put s.ticketNow (s.newTransit op st tag r act v)) (Config.transitEntries + 1)
          (nextTicket s.ticketNow) ∧
      ∀ j, (s.createTransit op st tag r act v).gate.transit.look j =
        if j = s.ticketNow then some (s.createdTransit op st tag r act v) else s.gate.transit.look j := by
  have listed (u : State) : (u.appendItem r.area (.command s.ticketNow tag) none).gate.ticket = u.gate.ticket ∧
      ∀ j, (u.appendItem r.area (.command s.ticketNow tag) none).gate.transit.look j = u.gate.transit.look j := by
    have appended := u.appendItem_touches r.area (.command s.ticketNow tag) none
    exact ⟨appended .ticket (by decide), fun j => appended.lookTransit_eq (by decide) j⟩
  unfold createTransit createdTransit
  dsimp only
  rw [(listed _).1]
  simp only [(listed _).2]
  by_cases waits : r.cls = 4 ∧ s.keySupervisor op st = false
  · rw [if_pos (show r.cls = 4 ∧ (s.newTransit op st tag r act v).key = false from waits), if_pos waits]
    exact ⟨rfl, fun j => Tbl.look_put _ _ _ _⟩
  · rw [if_neg (show ¬ (r.cls = 4 ∧ (s.newTransit op st tag r act v).key = false) from waits), if_neg waits]
    rw [forwardEntry_of_look (Tbl.look_put_self _ _ _)]
    refine ⟨rfl, fun j => ?_⟩
    simp only [say_gate, Tbl.look_put]
    split <;> rfl

/-- R121: with room in the table the entry's ticket was free and the counter rests on a free value. -/
theorem ticketNow_free {s : State} (room : s.gate.transit.length ≤ Config.transitEntries) :
    ∃ j, s.ticketNow = nextTicket^[j] s.gate.ticket ∧ s.gate.transit.look s.ticketNow = none ∧
      ∀ i, i < j → (s.gate.transit.look (nextTicket^[i] s.gate.ticket)).isSome = true :=
  unusedTicket_free room (by decide) _

theorem ticketNow_of_free {s : State} (free : s.gate.transit.look s.gate.ticket = none) : s.ticketNow = s.gate.ticket := by
  simp [ticketNow, Config.transitEntries, unusedTicket, free]

/-! ### COMMAND -/

/-- The checks of COMMAND (R122): all but the last five that it passes, in the words of its conditions. -/
structure CommandFits (st tag code op : Nat) (act : Action) (r : TagRec) : Prop where
  known : tag ≤ 4095
  record : s.tagRec? tag = some r
  action : Action.ofCode code = some act
  logged : s.logonAt st = some op
  writable : r.cls ≠ 0
  level : classLevel r.cls ≤ s.levelOf op r.area
  owner : s.isOwnerStation st r.area = true ∨ s.keySupervisor op st = true
  linked : s.plant.link ≠ .lost ∧ s.plant.link ≠ .start
  still : s.isQuiescing r.area = false
  single : s.transitWhere (fun t => decide (t.tag = tag)) = []
  open_ : s.blocker? r = none
  room : s.gate.transit.length < Config.transitEntries

theorem takeCommand_of_fits {s : State} {st tag code op : Nat} {act : Action} {r : TagRec}
    (fits : s.CommandFits st tag code op act r) (v : BitVec 32) :
    s.takeCommand st tag code v 0 = (s.createTransit op st tag r act v, ans .pending s.ticketNow) := by
  obtain ⟨known, record, action, logged, writable, level, owner, ⟨notLost, notStart⟩, still, single, blocker, room⟩ := fits
  have owner' : (s.isOwnerStation st r.area || s.keySupervisor op st) = true := by simpa using owner
  simp only [takeCommand, record, action, logged, single, blocker]
  rw [if_neg (by simp), if_neg (by omega), if_neg writable, if_neg (by omega), if_neg (by simp [owner']),
    if_neg (by simp [notLost, notStart]), if_neg (by simp [still])]
  exact if_neg (by omega)

theorem takeCommand_cases (st tag code : Nat) (v : BitVec 32) (rsv : Nat) :
    ((s.takeCommand st tag code v rsv).1 = s ∧ (s.takeCommand st tag code v rsv).2.code.changes = false) ∨
      ∃ op act r, rsv = 0 ∧ s.CommandFits st tag code op act r ∧
        s.takeCommand st tag code v rsv = (s.createTransit op st tag r act v, ans .pending s.ticketNow) := by
  unfold takeCommand
  repeat' split
  case h_3.isFalse =>
    rename_i unreserved known _ _ _ r act op record action logged writable level owner linked still _ _ single blocker room
    refine .inr ⟨op, act, r, by simpa using unreserved, ?_, rfl⟩
    exact ⟨by omega, record, action, logged, writable, by omega, by
        by_cases own : s.isOwnerStation st r.area = true
        · exact .inl own
        · exact .inr (by simpa [own] using owner),
      not_or.mp linked, by simpa using still, single, blocker, by omega⟩
  all_goals exact .inl ⟨rfl, rfl⟩

end State

theorem ans_changes (c : Code) (d : Nat) : (ans c d).code.changes = c.changes := rfl

/-- A COMMAND that is answered PENDING has created its entry. -/
theorem created_of_pending {s t : State} {h : Hdr} {tag code rsv k : Nat} {v : BitVec 32} (taken : Taken s h)
    (next : exec (.command h tag code v rsv) s = .next t) (pending : Answered t h (ans .pending k)) :
    ∃ op act r, (arrived s h).CommandFits h.station tag code op act r ∧ k = (arrived s h).ticketNow ∧
      t = ((arrived s h).createTransit op h.station tag r act v).finish.answer h (ans .pending k) := by
  have shape : exec (.command h tag code v rsv) s = .next ((arrived s h).handle h (fun s => s.takeCommand h.station tag code v rsv)) :=
    requestEvent_of_taken taken _
  rw [shape] at next
  injection next with next
  rcases (arrived s h).takeCommand_cases h.station tag code v rsv with ⟨-, unchanged⟩ | ⟨op, act, r, -, fits, created⟩
  · rw [State.handle_of_unchanged rfl unchanged] at next
    have same : ((arrived s h).takeCommand h.station tag code v rsv).2 = ans .pending k := by
      simpa [Answered, ← next] using pending
    rw [same] at unchanged
    exact absurd ((ans_changes _ _).symm.trans unchanged) (by decide)
  · rw [State.handle_of_changes created (by decide : (Code.changes .pending) = true)] at next
    obtain rfl : (arrived s h).ticketNow = k := by simpa [Answered, ← next, ans] using pending
    exact ⟨op, act, r, fits, rfl, next.symm⟩

end Sys2Proof.Machine

open Sys2Proof Sys2Proof.Machine Sys2Proof.Machine.State in
/-- Settles O38: the search for a ticket has fuel for as many entries as the table can hold, and one more for the counter. -/
theorem ticketsAreNeverShared : Obligations.TicketsAreNeverShared := by
  unfold Obligations.TicketsAreNeverShared
  intro s t h tag code rsv k v taken within next pending
  obtain ⟨op, act, r, -, rfl, rfl⟩ := created_of_pending taken next pending
  have arrival := arrived_touches s h
  have transit : (arrived s h).gate.transit = s.gate.transit := arrival .transit (by decide)
  have ticket : (arrived s h).gate.ticket = s.gate.ticket := arrival .ticket (by decide)
  have room : (arrived s h).gate.transit.length ≤ Config.transitEntries := by
    rw [transit]; exact within.transitRoom.2
  have ended := State.finish_answer_touches ((arrived s h).createTransit op h.station tag r act v) h
    (ans .pending (arrived s h).ticketNow)
  obtain ⟨rests, look⟩ := (arrived s h).createTransit_gate op h.station tag r act v
  obtain ⟨j, chosen, free, passed⟩ := ticketNow_free room
  rw [transit] at free passed
  rw [ticket] at chosen passed
  have look (j : Nat) := (ended.lookTransit_eq (by decide) j).trans (look j)
  refine ⟨free, ?_, fun unused => ?_, ⟨j, chosen, passed⟩, ?_⟩
  · rw [look, if_pos rfl]; rfl
  · rw [← ticket] at unused ⊢
    exact ticketNow_of_free (transit ▸ unused)
  · generalize (arrived s h).newTransit op h.station tag r act v = x at rests
    have more : ((arrived s h).gate.transit.put (arrived s h).ticketNow x).length ≤ Config.transitEntries + 1 :=
      (Tbl.length_put_le _ _ _).trans (Nat.succ_le_succ room)
    obtain ⟨i, next', free', passed'⟩ := unusedTicket_free more (by decide) (nextTicket (arrived s h).ticketNow)
    have rest := (ended .ticket (by decide)).trans rests
    have used (n : Nat) : ((arrived s h).gate.transit.put (arrived s h).ticketNow x).look n = none ↔
        ((((arrived s h).createTransit op h.station tag r act v).finish.answer h
          (ans .pending (arrived s h).ticketNow)).gate.transit.look n) = none := by
      rw [look, Tbl.look_put]
      split <;> simp
    refine ⟨i, ?_, ?_, fun m hm => ?_⟩
    · rw [rest, next', Function.iterate_succ_apply]
    · rw [rest]
      exact (used _).mp free'
    · rw [Function.iterate_succ_apply]
      have := passed' m hm
      rw [Option.isSome_iff_ne_none] at this ⊢
      exact fun none => this ((used _).mpr none)
end

section
/-! PROOFS. Owners and what their areas wait for (R27, R32, R161, R166, R167): what the transfers and the endings of the
Authority Unit leave under each area, and the relation that every operation but a few requests meets. -/

namespace Sys2Proof.Machine

namespace State

variable (s : State)

/-! ### Owners and handovers read back -/

theorem ownerOf_giveOwner (a op st b : Nat) :
    (s.giveOwner a op st).ownerOf b = if b = a then some (op, st) else s.ownerOf b := Tbl.look_put _ _ _ _

theorem ownerOf_disown (a b : Nat) : (s.disown a).ownerOf b = if b = a then none else s.ownerOf b := Tbl.look_del _ _ _

theorem lookHand_idleHandover (a b : Nat) :
    (s.idleHandover a).hand.look b = if b = a then none else s.hand.look b := Tbl.look_del _ _ _

theorem session?_of_lookHand {s t : State} {a : Nat} (h : t.hand.look a = s.hand.look a) : t.session? a = s.session? a := by
  rw [session?, session?, h]

theorem lookHand_closeSession (a : Nat) (r : CloseReason) (b : Nat) :
    (s.closeSession a r).hand.look b = if b = a ∧ (s.session? a).isSome = true then none else s.hand.look b := by
  unfold closeSession
  split
  case h_1 none_ => simp [none_]
  case h_2 x some_ =>
    rw [(sayClosed_touches _ r _ kind_toBoth).lookHand_eq (by decide), (leaveClosed_touches _ a _ r).lookHand_eq (by decide),
      lookHand_idleHandover]
    simp [some_]

/-- R166: the pending takeover of an area, if any. -/
def takingOver? (a : Nat) : Option Takeover :=
  match s.hand.look a with
  | some (.takingOver x) => some x
  | _ => none

theorem takingOver?_eq_some {s : State} {a : Nat} {x : Takeover} :
    s.takingOver? a = some x ↔ s.hand.look a = some (.takingOver x) := by
  unfold takingOver?
  split
  · simp [*]
  case h_2 other => simpa using fun h => other _ h

theorem lookHand_cancelTakeover (a : Nat) (r : CloseReason) (b : Nat) :
    (s.cancelTakeover a r).hand.look b = if b = a ∧ (s.takingOver? a).isSome = true then none else s.hand.look b := by
  unfold cancelTakeover
  split
  case h_1 x found =>
    dsimp only
    rw [(sayClosed_touches _ r _ ?_).lookHand_eq (by decide), lookHand_idleHandover]
    · simp [takingOver?_eq_some.mpr found]
    · split
      · exact kind_heardBy_notice
      · exact kind_toBoth
  case h_2 other =>
    have idle : s.takingOver? a = none := Option.eq_none_iff_forall_ne_some.mpr fun x h => other x (takingOver?_eq_some.mp h)
    simp [idle]

theorem lookHand_concludeTransfer (a op : Nat) (k : TransferKind) (old : Option (Nat × Nat)) (b : Nat) :
    (s.concludeTransfer a op k old).hand.look b = if b = a then none else s.hand.look b := by
  have idle : ((s.changeHolders a op).idleHandover a).hand.look b = if b = a then none else s.hand.look b := by
    rw [lookHand_idleHandover, (s.changeHolders_touches a op).lookHand_eq (by decide)]
  unfold concludeTransfer
  dsimp only
  split <;> exact idle

theorem transferOwner_eq_some {s t : State} {a op : Nat} :
    s.transferOwner a op = some t ↔ ∃ st, s.ownerConditions op a = some st ∧ s.giveOwner a op st = t := by
  simp [transferOwner]

theorem ownerConditions_eq_some {s : State} {op a st : Nat} :
    s.ownerConditions op a = some st ↔ s.stationOf op = some st ∧ s.permits st a = true ∧ 1 ≤ s.levelOf op a := by
  unfold ownerConditions
  split
  · simp [*]
  case h_2 st' found =>
    simp only [found, Option.ite_none_right_eq_some, Bool.and_eq_true, decide_eq_true_eq, Option.some.injEq]
    constructor
    · rintro ⟨⟨permits, level⟩, rfl⟩; exact ⟨rfl, permits, level⟩
    · rintro ⟨rfl, permits, level⟩; exact ⟨⟨permits, level⟩, rfl⟩

theorem logonAt_of_stationOf {s : State} (wf : Tbl.wf s.auth.logon) {op st : Nat} (h : s.stationOf op = some st) :
    s.logonAt st = some op := by
  obtain ⟨p, found, rfl⟩ := Option.map_eq_some_iff.mp h
  have := List.find?_some found
  exact Tbl.look_of_mem wf ((decide_eq_true_eq.mp this) ▸ List.mem_of_find?_eq_some found)

theorem stationOf_of_logonAt {s : State} (wf : Tbl.wf s.auth.logon)
    (onePlace : ∀ st st' op, s.logonAt st = some op → s.logonAt st' = some op → st = st') {op st : Nat}
    (h : s.logonAt st = some op) : s.stationOf op = some st := by
  cases found : s.stationOf op with
  | none =>
    have := List.find?_eq_none.mp (Option.map_eq_none_iff.mp found) _ (Tbl.mem_of_look h)
    simp at this
  | some st' => rw [onePlace _ _ _ (logonAt_of_stationOf wf found) h]

theorem stationOf_eq_none {s : State} {op : Nat} (h : s.stationOf op = none) (st : Nat) : s.logonAt st ≠ some op := by
  intro logged
  have := List.find?_eq_none.mp (Option.map_eq_none_iff.mp h) _ (Tbl.mem_of_look logged)
  simp at this

theorem inFlight_ne_nil {s : State} (wf : Tbl.wf s.gate.transit) {a : Nat} :
    s.inFlight a ≠ [] ↔ ∃ k x, s.gate.transit.look k = some x ∧ x.area = a ∧ x.state ≠ .awaiting := by
  rw [inFlight, transitWhere, Ne, List.map_eq_nil_iff, List.filter_eq_nil_iff]
  push Not
  constructor
  · rintro ⟨⟨k, x⟩, listed, flying⟩
    exact ⟨k, x, Tbl.look_of_mem wf listed, by simpa using flying⟩
  · rintro ⟨k, x, look, flying⟩
    exact ⟨(k, x), Tbl.mem_of_look look, by simpa using flying⟩

/-! ### The invariant of R27 with exceptions -/

/-- `OwnersEntitled`, but for the area whose takeover is about to be completed or cancelled, and for the levels of operators
that are about to lose the areas. -/
structure EntitledBut (X : Option Nat) (Y : Nat → Nat → Prop) (s : State) : Prop where
  logonsListed : Tbl.wf s.auth.logon
  transitRoom : s.TransitRoom
  onePlace : ∀ st st' op, s.logonAt st = some op → s.logonAt st' = some op → st = st'
  areas : ∀ a, (s.ownerOf a).isSome = true ∨ (s.hand.look a).isSome = true → 1 ≤ a ∧ a ≤ 12
  owners : ∀ a op st, s.ownerOf a = some (op, st) →
    s.logonAt st = some op ∧ s.permits st a = true ∧ (¬ Y op a → 1 ≤ s.levelOf op a)
  takeovers : ∀ a t, X ≠ some a → s.hand.look a = some (.takingOver t) →
    s.inFlight a ≠ [] ∧ ∃ op st, s.ownerOf a = some (op, st) ∧ op ≠ t.op

theorem ownersEntitled_iff {s : State} : s.OwnersEntitled ↔ s.EntitledBut none (fun _ _ => False) := by
  constructor
  · rintro ⟨logons, transit, room, onePlace, areas, owners, takeovers⟩
    exact ⟨logons, ⟨transit, room⟩, onePlace, areas, fun a op st h =>
      let ⟨logged, permits, level⟩ := owners a op st h
      ⟨logged, permits, fun _ => level⟩, fun a t _ => takeovers a t⟩
  · rintro ⟨logons, ⟨transit, room⟩, onePlace, areas, owners, takeovers⟩
    exact ⟨logons, transit, room, onePlace, areas, fun a op st h =>
      let ⟨logged, permits, level⟩ := owners a op st h
      ⟨logged, permits, level (fun f => f)⟩, fun a t => takeovers a t (by simp)⟩

variable {s} {X : Option Nat} {Y : Nat → Nat → Prop}

theorem EntitledBut.except (h : s.EntitledBut none Y) : s.EntitledBut X Y :=
  ⟨h.logonsListed, h.transitRoom, h.onePlace, h.areas, h.owners, fun a t _ => h.takeovers a t (by simp)⟩

theorem EntitledBut.settle {a : Nat} (h : s.EntitledBut (some a) Y) (idle : ∀ x, s.hand.look a ≠ some (.takingOver x)) :
    s.EntitledBut none Y :=
  ⟨h.logonsListed, h.transitRoom, h.onePlace, h.areas, h.owners, fun b t _ look => by
    by_cases same : b = a
    · subst same; exact absurd look (idle t)
    · exact h.takeovers b t (fun e => same (Option.some.inj e).symm) look⟩

theorem EntitledBut.mono {Z : Nat → Nat → Prop} (h : s.EntitledBut X Y) (sub : ∀ op a, Y op a → Z op a) :
    s.EntitledBut X Z :=
  ⟨h.logonsListed, h.transitRoom, h.onePlace, h.areas, fun a op st owner =>
    let ⟨logged, permits, level⟩ := h.owners a op st owner
    ⟨logged, permits, fun no => level (fun y => no (sub op a y))⟩, h.takeovers⟩

end State

/-! ### What the invariant reads -/

theorem Handover.Lessens.of_takingOver {x : Option Handover} {t : Takeover} (h : Lessens x (some (.takingOver t))) :
    x = some (.takingOver t) := by
  rcases x with _ | x
  · exact h.elim
  · cases x with
    | takingOver u => exact congrArg (fun t => some (Handover.takingOver t)) (show t = u from h).symm
    | _ => exact (show False from h).elim

theorem Handover.Lessens.of_quiescing {x : Option Handover} {y : Session} (h : Lessens x (some (.quiescing y))) :
    ∃ z, x = some (.quiescing z) ∧ z.Relisted y := by
  rcases x with _ | x
  · exact h.elim
  · cases x with
    | quiescing z => exact ⟨z, rfl, h⟩
    | _ => exact (show False from h).elim

theorem Handover.Lessens.isSome {x y : Option Handover} (h : Lessens x y) (some_ : y.isSome = true) : x.isSome = true := by
  rcases y with _ | y
  · simp at some_
  · rcases x with _ | x
    · cases y <;> exact h.elim
    · rfl

namespace State

/-- The parts besides the transit table and the handovers that the invariant reads. -/
def entitledParts : List Part := [.stations, .roster, .logon, .owner]

/-- Where neither owners nor what entitles them change, no wait begins and no area's last command in flight ends, the
invariant is kept. -/
theorem EntitledBut.of_flight {X : Option Nat} {Y : Nat → Nat → Prop} {l : List Part} {s t : State} (e : s.EntitledBut X Y)
    (h : Touches l s t) (hl : ∀ p ∈ entitledParts, p ∉ l) (hands : Hands s t) (transit : s.TransitRoom → t.TransitRoom)
    (flight : ∀ k x, s.gate.transit.look k = some x → x.state ≠ .awaiting → X ≠ some x.area →
      ∃ j y, t.gate.transit.look j = some y ∧ y.area = x.area ∧ y.state ≠ .awaiting) : t.EntitledBut X Y := by
  have logon := h.logonAt_eq (hl _ (by decide))
  have owner := h.ownerOf_eq (hl _ (by decide))
  refine ⟨?_, transit e.transitRoom, fun st st' op => ?_, fun a held => ?_, fun a op st owned => ?_, fun a x other look => ?_⟩
  · rw [show t.auth.logon = s.auth.logon from h .logon (hl _ (by decide))]
    exact e.logonsListed
  · simp only [logon]
    exact e.onePlace st st' op
  · rw [owner] at held
    exact e.areas a (held.imp_right (hands a).isSome)
  · rw [owner] at owned
    rw [logon, h.permits_eq (hl _ (by decide)), h.levelOf_eq (hl _ (by decide))]
    exact e.owners a op st owned
  · obtain ⟨flying, op, st, owned, ne⟩ := e.takeovers a x other ((look ▸ hands a).of_takingOver)
    obtain ⟨k, y, listed, inArea, state⟩ := (inFlight_ne_nil e.transitRoom.1).mp flying
    obtain ⟨j, z, listed', inArea', state'⟩ := flight k y listed state (inArea ▸ other)
    exact ⟨(inFlight_ne_nil (transit e.transitRoom).1).mpr ⟨j, z, listed', inArea'.trans inArea, state'⟩, op, st,
      (owner a).trans owned, ne⟩

theorem EntitledBut.of_touches {X : Option Nat} {Y : Nat → Nat → Prop} {l : List Part} {s t : State} (e : s.EntitledBut X Y)
    (h : Touches l s t) (hl : ∀ p ∈ .transit :: entitledParts, p ∉ l) (hands : Hands s t) : t.EntitledBut X Y := by
  have transit : t.gate.transit = s.gate.transit := h .transit (hl _ (by decide))
  refine e.of_flight h (fun p hp => hl p (List.mem_cons_of_mem _ hp)) hands (fun room => by rw [TransitRoom, transit]; exact room)
    (fun k x look state _ => ⟨k, x, ?_, rfl, state⟩)
  rw [transit]
  exact look

end State

/-! ### The relation that operations meet -/

/-- The operator to whom an area passes of itself, once its commands in flight have ended (R161, R167). -/
def Passing (s : State) (a op : Nat) : Prop :=
  (∃ x, s.hand.look a = some (.quiescing x) ∧ x.inOp = op) ∨ ∃ x, s.hand.look a = some (.takingOver x) ∧ x.op = op

/-- From `s` to `t` the owners stay entitled, no area comes to wait, and an area passes to another owner only where it
waited to. -/
structure Governs (s t : State) : Prop where
  entitled : ∀ Y, s.EntitledBut none Y → t.EntitledBut none Y
  hands : Hands s t
  owners : ∀ a op st, t.ownerOf a = some (op, st) → (∃ st', s.ownerOf a = some (op, st')) ∨ Passing s a op

theorem Hands.passing {s t : State} (h : Hands s t) {a op : Nat} (p : Passing t a op) : Passing s a op := by
  rcases p with ⟨x, look, rfl⟩ | ⟨x, look, rfl⟩
  · obtain ⟨y, same, relisted⟩ := (look ▸ h a).of_quiescing
    exact .inl ⟨y, same, by rw [relisted]⟩
  · exact .inr ⟨x, (look ▸ h a).of_takingOver, rfl⟩

namespace Governs

variable {s t u : State}

theorem refl (s : State) : Governs s s := ⟨fun _ h => h, .refl s, fun _ _ st h => .inl ⟨st, h⟩⟩

theorem trans (h : Governs s t) (k : Governs t u) : Governs s u := by
  refine ⟨fun Y e => k.entitled Y (h.entitled Y e), fun a => (h.hands a).trans (k.hands a), fun a op st owned => ?_⟩
  rcases k.owners a op st owned with ⟨st', owned'⟩ | passing
  · exact h.owners a op st' owned'
  · exact .inr (h.hands.passing passing)

theorem after (k : Governs t u) (h : Governs s t) : Governs s u := h.trans k

theorem ite {c : Prop} [Decidable c] (h : Governs s t) (k : Governs s u) : Governs s (if c then t else u) := by
  split
  · exact h
  · exact k

theorem foldl {α : Type} {f : State → α → State} (h : ∀ s x, Governs s (f s x)) (xs : List α) (s : State) :
    Governs s (xs.foldl f s) := by
  induction xs generalizing s with
  | nil => exact refl s
  | cons x xs ih => exact (h s x).trans (ih _)

theorem of_flight {l : List Part} (k : Keeps s t) (h : Touches l s t) (hl : ∀ p ∈ State.entitledParts, p ∉ l)
    (flight : s.TransitRoom → ∀ k x, s.gate.transit.look k = some x → x.state ≠ .awaiting →
      ∃ j y, t.gate.transit.look j = some y ∧ y.area = x.area ∧ y.state ≠ .awaiting) : Governs s t :=
  ⟨fun _ e => e.of_flight h hl k.hands k.transit (fun k x look state _ => flight e.transitRoom k x look state), k.hands,
    fun a op st owned => .inl ⟨st, (h.ownerOf_eq (hl _ (by decide)) a).symm.trans owned⟩⟩

theorem of_touches {l : List Part} (k : Keeps s t) (h : Touches l s t) (hl : ∀ p ∈ .transit :: State.entitledParts, p ∉ l) :
    Governs s t :=
  ⟨fun _ e => e.of_touches h hl k.hands, k.hands,
    fun a op st owned => .inl ⟨st, (h.ownerOf_eq (hl _ (by decide)) a).symm.trans owned⟩⟩

end Governs

end Sys2Proof.Machine
end

section
/-! PROOFS. What each operation does to owners and to what the areas wait for. -/

namespace Sys2Proof.Machine

namespace State

variable (s : State)

/-! ### Transfers -/

section

variable {s} {Y : Nat → Nat → Prop} {a : Nat}

/-- R32: the operator who is given an area meets the owner conditions there. -/
theorem EntitledBut.transferOwner {op : Nat} {t : State} (e : s.EntitledBut (some a) Y) (range : 1 ≤ a ∧ a ≤ 12)
    (given : s.transferOwner a op = some t) : t.EntitledBut (some a) Y := by
  obtain ⟨st, conditions, rfl⟩ := transferOwner_eq_some.mp given
  obtain ⟨place, permits, level⟩ := ownerConditions_eq_some.mp conditions
  have gave := s.giveOwner_touches a op st
  have logon := gave.logonAt_eq (by decide)
  have hand := gave.lookHand_eq (by decide)
  have flight := gave.inFlight_eq (by decide)
  have kept : Keeps s (s.giveOwner a op st) := .of_touches gave (by decide)
  refine ⟨(gave .logon (by decide) : _ = _) ▸ e.logonsListed, kept.transit e.transitRoom, fun st st' op => ?_,
    fun b held => ?_, fun b op' st' owned => ?_, fun b x other look => ?_⟩
  · simp only [logon]
    exact e.onePlace st st' op
  · by_cases same : b = a
    · exact same ▸ range
    · rw [ownerOf_giveOwner, if_neg same, hand] at held
      exact e.areas b held
  · rw [logon, gave.permits_eq (by decide), gave.levelOf_eq (by decide)]
    rw [ownerOf_giveOwner] at owned
    split at owned
    · cases owned
      subst_vars
      exact ⟨logonAt_of_stationOf e.logonsListed place, permits, fun _ => level⟩
    · exact e.owners b op' st' owned
  · rw [hand] at look
    rw [flight, ownerOf_giveOwner, if_neg (fun same => other (congrArg some same.symm))]
    exact e.takeovers b x other look

theorem EntitledBut.concludeTransfer (e : s.EntitledBut (some a) Y) (op : Nat) (k : TransferKind)
    (old : Option (Nat × Nat)) : (s.concludeTransfer a op k old).EntitledBut none Y := by
  refine EntitledBut.settle (a := a) (e.of_touches (s.concludeTransfer_touches a op k old) (by decide)
    (s.concludeTransfer_keeps a op k old).hands) (fun x => ?_)
  simp [lookHand_concludeTransfer]

theorem EntitledBut.cancelTakeover (e : s.EntitledBut (some a) Y) (r : CloseReason) :
    (s.cancelTakeover a r).EntitledBut none Y := by
  refine EntitledBut.settle (a := a) (e.of_touches (s.cancelTakeover_touches a r) (by decide)
    (s.cancelTakeover_keeps a r).hands) (fun x look => ?_)
  rw [lookHand_cancelTakeover] at look
  split at look
  · simp at look
  case isFalse other => exact other ⟨rfl, Option.isSome_iff_exists.mpr ⟨x, takingOver?_eq_some.mpr look⟩⟩

theorem EntitledBut.coverScan {X : Option Nat} (e : s.EntitledBut X Y) : s.coverScan.EntitledBut X Y :=
  e.of_touches s.coverScan_touches (by decide) s.coverScan_keeps.hands

theorem EntitledBut.completeTakeover (e : s.EntitledBut (some a) Y) (range : 1 ≤ a ∧ a ≤ 12) (op : Nat) :
    (s.completeTakeover a op).EntitledBut none Y := by
  unfold State.completeTakeover
  split
  · exact e.cancelTakeover _
  case h_2 given => exact (e.transferOwner range given).coverScan.concludeTransfer _ _ _

theorem EntitledBut.takeArea (e : s.EntitledBut (some a) Y) (range : 1 ≤ a ∧ a ≤ 12) (op : Nat) :
    (s.takeArea a op).EntitledBut none Y := by
  unfold State.takeArea
  split
  · exact e.cancelTakeover _
  case h_2 given => exact (e.transferOwner range given).concludeTransfer _ _ _

theorem EntitledBut.completeHandover {x : Session} (e : s.EntitledBut (some a) Y) (range : 1 ≤ a ∧ a ≤ 12)
    (open_ : s.session? a = some x) : (s.completeHandover a).EntitledBut none Y := by
  simp only [State.completeHandover, open_]
  split
  · refine EntitledBut.settle (a := a) (e.of_touches (s.closeSession_touches a _) (by decide)
      (s.closeSession_keeps a _).hands) (fun y => ?_)
    rw [lookHand_closeSession, if_pos ⟨rfl, by simp [open_]⟩]
    simp
  case h_2 given => exact (e.transferOwner range given).coverScan.concludeTransfer _ _ _

end

theorem ownerOf_transferOwner {s t : State} {a op : Nat} (given : s.transferOwner a op = some t) (b : Nat) :
    t.ownerOf b = if b = a then (s.ownerConditions op a).map (fun st => (op, st)) else s.ownerOf b := by
  obtain ⟨st, conditions, rfl⟩ := transferOwner_eq_some.mp given
  rw [ownerOf_giveOwner, conditions]
  rfl

/-- R32, R167: the area passes to the operator who meets the owner conditions; declined, it stays as it was. -/
theorem ownerOf_completeTakeover (a op b : Nat) :
    (s.completeTakeover a op).ownerOf b =
      if b = a ∧ (s.ownerConditions op a).isSome = true then (s.ownerConditions op a).map (fun st => (op, st))
      else s.ownerOf b := by
  unfold completeTakeover
  split
  case h_1 declined =>
    have : s.ownerConditions op a = none := by simpa [transferOwner] using declined
    rw [(s.cancelTakeover_touches a _).ownerOf_eq (by decide)]
    simp [this]
  case h_2 t given =>
    obtain ⟨st, conditions, -⟩ := transferOwner_eq_some.mp given
    rw [(concludeTransfer_touches _ _ _ _ _).ownerOf_eq (by decide), t.coverScan_touches.ownerOf_eq (by decide),
      ownerOf_transferOwner given]
    simp [conditions]

theorem ownerOf_takeArea (a op b : Nat) :
    (s.takeArea a op).ownerOf b =
      if b = a ∧ (s.ownerConditions op a).isSome = true then (s.ownerConditions op a).map (fun st => (op, st))
      else s.ownerOf b := by
  unfold takeArea
  split
  case h_1 declined =>
    have : s.ownerConditions op a = none := by simpa [transferOwner] using declined
    rw [(s.cancelTakeover_touches a _).ownerOf_eq (by decide)]
    simp [this]
  case h_2 t given =>
    obtain ⟨st, conditions, -⟩ := transferOwner_eq_some.mp given
    rw [(concludeTransfer_touches _ _ _ _ _).ownerOf_eq (by decide), ownerOf_transferOwner given]
    simp [conditions]

theorem ownerOf_completeHandover {x : Session} {a : Nat} (open_ : s.session? a = some x) (b : Nat) :
    (s.completeHandover a).ownerOf b =
      if b = a ∧ (s.ownerConditions x.inOp a).isSome = true then (s.ownerConditions x.inOp a).map (fun st => (x.inOp, st))
      else s.ownerOf b := by
  simp only [completeHandover, open_]
  split
  case h_1 declined =>
    have : s.ownerConditions x.inOp a = none := by simpa [transferOwner] using declined
    rw [(s.closeSession_touches a _).ownerOf_eq (by decide)]
    simp [this]
  case h_2 t given =>
    obtain ⟨st, conditions, -⟩ := transferOwner_eq_some.mp given
    rw [(concludeTransfer_touches _ _ _ _ _).ownerOf_eq (by decide), t.coverScan_touches.ownerOf_eq (by decide),
      ownerOf_transferOwner given]
    simp [conditions]

/-- Where an area may pass to one operator, its owner is that operator or the one it was. -/
theorem owner_of_passed {o o' : Option (Nat × Nat)} {c : Option Nat} {p : Prop} [Decidable p] {op op' st : Nat}
    (passed : o' = if p ∧ c.isSome = true then c.map (fun st => (op, st)) else o) (owned : o' = some (op', st)) :
    o = some (op', st) ∨ p ∧ op' = op := by
  rw [passed] at owned
  split at owned
  case isTrue may =>
    obtain ⟨st', -, same⟩ := Option.map_eq_some_iff.mp owned
    exact .inr ⟨may.1, (congrArg Prod.fst same).symm⟩
  · exact .inl owned

/-! ### The endings of commands -/

theorem quiescing_session {s : State} {a : Nat} {x : Session} (look : s.hand.look a = some (.quiescing x)) :
    s.session? a = some x := by simp [session?, look]

/-- R134 step 3: an area's wait ends with its last command in flight. -/
theorem EntitledBut.quiesced {s : State} {Y : Nat → Nat → Prop} {a : Nat} (e : s.EntitledBut (some a) Y)
    (owned : ∀ t, s.hand.look a = some (.takingOver t) → ∃ op st, s.ownerOf a = some (op, st) ∧ op ≠ t.op) :
    (s.quiesced a).EntitledBut none Y := by
  have range {x : Handover} (look : s.hand.look a = some x) := e.areas a (.inr (by simp [look]))
  unfold State.quiesced
  split
  case isTrue flying =>
    exact ⟨e.logonsListed, e.transitRoom, e.onePlace, e.areas, e.owners, fun b t _ look => by
      by_cases same : b = a
      · subst same; exact ⟨flying, owned t look⟩
      · exact e.takeovers b t (fun h => same (Option.some.inj h).symm) look⟩
  · split
    case h_1 look => exact e.completeHandover (range look) (quiescing_session look)
    case h_2 look => exact e.completeTakeover (range look) _
    case h_3 other => exact e.settle (fun t => other t)

theorem quiesced_owners (a b op st : Nat) (owned : (s.quiesced a).ownerOf b = some (op, st)) :
    (∃ st', s.ownerOf b = some (op, st')) ∨ Passing s b op := by
  unfold quiesced at owned
  split at owned
  · exact .inl ⟨st, owned⟩
  · split at owned
    case h_1 x look =>
      rcases owner_of_passed (s.ownerOf_completeHandover (quiescing_session look) b) owned with same | ⟨rfl, rfl⟩
      · exact .inl ⟨st, same⟩
      · exact .inr (.inl ⟨x, look, rfl⟩)
    case h_2 x look =>
      rcases owner_of_passed (s.ownerOf_completeTakeover a x.op b) owned with same | ⟨rfl, rfl⟩
      · exact .inl ⟨st, same⟩
      · exact .inr (.inr ⟨x, look, rfl⟩)
    · exact .inl ⟨st, owned⟩

theorem endFlight_governs (k : Nat) (o : ResultOutcome) (d : Nat) : Governs s (s.endFlight k o d) := by
  have hands := (s.endFlight_keeps k o d).hands
  unfold endFlight at hands ⊢
  split at hands
  case h_1 none_ => exact .refl s
  case h_2 x look =>
    have freed := s.freeTransit_touches k
    have said : Touches [.said .result] (s.freeTransit k) _ := say_results _ _ (kind_resultMsgs s (k := k) (t := x) (o := o)
      (d := d) (also := none))
    have resolved := resolveItems_touches ((s.freeTransit k).say (s.resultMsgs k x o d none)) x.area (namesCommand k x.tag)
    have ended : Touches [.handover, .said .result] (s.freeTransit k) (((s.freeTransit k).say
        (s.resultMsgs k x o d none)).resolveItems x.area (namesCommand k x.tag)) :=
      .after resolved (by decide) (said.mono (by decide))
    have kept := (s.freeTransit_keeps k).trans (.after (resolveItems_keeps _ x.area (namesCommand k x.tag))
      (say_keeps _ (s.resultMsgs k x o d none)))
    have owner (a : Nat) := (ended.ownerOf_eq (by decide) a).trans (freed.ownerOf_eq (by decide) a)
    refine ⟨fun Y e => ?_, hands, fun a op st owned => ?_⟩
    · have e1 : (s.freeTransit k).EntitledBut (some x.area) Y := by
        refine e.except.of_flight freed (by decide) (s.freeTransit_keeps k).hands (s.freeTransit_keeps k).transit
          (fun j y look' flying other => ⟨j, y, ?_, rfl, flying⟩)
        rw [transit_freeTransit, if_neg]
        · exact look'
        · rintro rfl
          rw [look] at look'
          exact other (congrArg (fun y => some y.area) (Option.some.inj look'))
      refine (e1.of_touches ended (by decide) (.after (resolveItems_keeps _ x.area (namesCommand k x.tag))
        (say_keeps _ (s.resultMsgs k x o d none)) : Keeps _ _).hands).quiesced (fun t taking => ?_)
      obtain ⟨-, owned⟩ := e.takeovers x.area t (by simp) ((taking ▸ kept.hands x.area).of_takingOver)
      rw [owner]
      exact owned
    · rcases quiesced_owners _ _ _ _ _ owned with ⟨st', same⟩ | passing
      · exact .inl ⟨st', (owner a).symm.trans same⟩
      · exact .inr (kept.hands.passing passing)

/-- R134: the end of an entry that waits for a countersignature frees it. -/
theorem lookTransit_endAwaiting (k : Nat) (o : ResultOutcome) (d : Nat) (c : ClosedOutcome) (cause also : Option Nat)
    (j : Nat) : (s.endAwaiting k o d c cause also).gate.transit.look j =
      if j = k then none else s.gate.transit.look j := by
  unfold endAwaiting
  split
  case h_1 none_ => split <;> simp_all
  case h_2 x look =>
    rw [(resolveItems_touches _ _ _).lookTransit_eq (by decide)]
    exact s.transit_freeTransit k j

theorem endAwaiting_governs {k : Nat} (waits : ∀ x, s.gate.transit.look k = some x → x.state = .awaiting)
    (o : ResultOutcome) (d : Nat) (c : ClosedOutcome) (cause also : Option Nat) :
    Governs s (s.endAwaiting k o d c cause also) := by
  refine .of_flight (s.endAwaiting_keeps k o d c cause also) (s.endAwaiting_touches k o d c cause also) (by decide)
    (fun _ j x look flying => ⟨j, x, ?_, rfl, flying⟩)
  rw [lookTransit_endAwaiting, if_neg]
  · exact look
  · rintro rfl
    exact flying (waits x look)

theorem withdrawWaiting_governs (p : Transit → Bool) (r : WithdrawReason) : Governs s (s.withdrawWaiting p r) := by
  refine ⟨?_, (s.withdrawWaiting_keeps p r).hands, fun a op st owned =>
    .inl ⟨st, ((s.withdrawWaiting_touches p r).ownerOf_eq (by decide) a).symm.trans owned⟩⟩
  intro Y e
  have waits : ∀ k ∈ s.transitWhere (fun t => decide (t.state = .awaiting) && p t), ∀ x,
      s.gate.transit.look k = some x → x.state = .awaiting := by
    intro k hk x look
    obtain ⟨⟨k', y⟩, listed, rfl⟩ := List.mem_map.mp hk
    obtain ⟨listed, fits⟩ := List.mem_filter.mp listed
    rw [Tbl.look_of_mem e.transitRoom.1 listed] at look
    cases look
    simp only [Bool.and_eq_true, decide_eq_true_eq] at fits
    exact fits.1
  unfold withdrawWaiting
  generalize s.transitWhere (fun t => decide (t.state = .awaiting) && p t) = ks at waits
  induction ks generalizing s with
  | nil => exact e
  | cons k ks ih =>
    refine ih (s.endAwaiting k .withdrawn r.number .withdrawn none none)
      ((s.endAwaiting_governs (waits k (by simp)) _ _ _ _ _).entitled Y e) (fun k' hk' x look => ?_)
    rw [lookTransit_endAwaiting] at look
    split at look
    · simp at look
    · exact waits k' (by simp [hk']) x look

/-! ### The Command Gate -/

theorem forwardEntry_governs (k : Nat) : Governs s (s.forwardEntry k) := by
  refine .of_flight (s.forwardEntry_keeps k) (s.forwardEntry_touches k) (by decide) (fun _ j x look flying => ?_)
  cases found : s.gate.transit.look k with
  | none => exact ⟨j, x, by simpa [forwardEntry, found] using look, rfl, flying⟩
  | some y =>
    rw [forwardEntry_of_look found]
    by_cases same : j = k
    · subst same
      rw [found] at look
      cases look
      exact ⟨j, _, Tbl.look_put_self _ _ _, rfl, by simp [forwardedNow]⟩
    · exact ⟨j, x, (Tbl.look_put_ne _ _ same).trans look, rfl, flying⟩

theorem updTransit_governs (k : Nat) {f : Transit → Transit}
    (flight : ∀ x, s.gate.transit.look k = some x → x.state ≠ .awaiting → (f x).area = x.area ∧ (f x).state ≠ .awaiting) :
    Governs s (s.updTransit k f) := by
  refine .of_flight (s.updTransit_keeps k f) (s.updTransit_touches k f) (by decide) (fun _ j x look flying => ?_)
  rw [updTransit_transit]
  by_cases same : j = k
  · subst same
    obtain ⟨area, state⟩ := flight x look flying
    exact ⟨j, f x, by simp [Tbl.look_upd, look], area, state⟩
  · exact ⟨j, x, by simp [Tbl.look_upd, same, look], rfl, flying⟩

theorem say_governs (os : List Out) : Governs s (s.say os) :=
  ⟨fun _ e => ⟨e.logonsListed, e.transitRoom, e.onePlace, e.areas, e.owners, e.takeovers⟩, .refl s,
    fun _ _ st owned => .inl ⟨st, owned⟩⟩

theorem createTransit_governs (room : s.gate.transit.length < Config.transitEntries) (op st tag : Nat) (r : TagRec)
    (act : Action) (v : BitVec 32) : Governs s (s.createTransit op st tag r act v) := by
  refine .of_flight (s.createTransit_keeps room op st tag r act v) (s.createTransit_touches op st tag r act v) (by decide)
    (fun fits j x look flying => ⟨j, x, ?_, rfl, flying⟩)
  obtain ⟨-, -, free, -⟩ := ticketNow_free fits.2
  rw [(s.createTransit_gate op st tag r act v).2, if_neg]
  · exact look
  · rintro rfl
    simp [free] at look

theorem takeCommand_governs (st tag code : Nat) (v : BitVec 32) (rsv : Nat) :
    Governs s (s.takeCommand st tag code v rsv).1 := by
  rcases s.takeCommand_cases st tag code v rsv with ⟨same, -⟩ | ⟨op, act, r, -, fits, created⟩
  · rw [same]; exact .refl s
  · rw [created]; exact s.createTransit_governs fits.room op st tag r act v

/-- R142: what a COUNTERSIGN that passes its checks names. -/
structure SignerFits (st k tag op : Nat) (x : Transit) : Prop where
  ticket : 1 ≤ k ∧ k ≤ 65535
  known : tag ≤ 4095
  logged : s.logonAt st = some op
  look : s.gate.transit.look k = some x
  named : x.tag = tag
  waits : x.state = .awaiting
  other : op ≠ x.origOp ∧ st ≠ x.origStation
  level : 3 ≤ s.levelOf op x.area

theorem countersignChecks_ok {st k tag rsv op : Nat} {x : Transit} :
    s.countersignChecks st k tag rsv = .ok (op, x) ↔ rsv = 0 ∧ s.SignerFits st k tag op x := by
  constructor
  · intro ok
    unfold countersignChecks at ok
    repeat' split at ok
    case h_2.isFalse.isFalse =>
      rename_i unreserved ranges _ _ logged _ _ look fits eligible
      cases ok
      simp only [not_or, not_not] at unreserved ranges fits eligible
      exact ⟨unreserved, by omega, by omega, logged, look, fits.1, fits.2, ⟨eligible.1, eligible.2.1⟩, by omega⟩
    all_goals simp at ok
  · rintro ⟨rfl, ticket, known, logged, look, named, waits, other, level⟩
    simp only [countersignChecks, logged, look]
    rw [if_neg (by simp), if_neg (by omega), if_neg (by simp [named, waits]), if_neg]
    simp only [other.1, other.2, false_or]
    omega

theorem SignerFits.waiting {s : State} {st k tag op : Nat} {x : Transit} (fits : s.SignerFits st k tag op x) (y : Transit)
    (look : s.gate.transit.look k = some y) : y.state = .awaiting := by
  rw [fits.look] at look
  cases look
  exact fits.waits

theorem takeDecline_governs (st k tag rsv : Nat) : Governs s (s.takeDecline st k tag rsv).1 := by
  unfold takeDecline
  split
  · exact .refl s
  case h_2 ok =>
    exact s.endAwaiting_governs (s.countersignChecks_ok.mp ok).2.waiting _ _ _ _ _

theorem takeAgree_governs (st k tag rsv : Nat) : Governs s (s.takeAgree st k tag rsv).1 := by
  unfold takeAgree
  split
  · exact .refl s
  case h_2 ok =>
    split
    · exact s.endAwaiting_governs (s.countersignChecks_ok.mp ok).2.waiting _ _ _ _ _
    · exact .after (say_governs _ _) (.after (forwardEntry_governs _ k) (s.updTransit_governs k
        (fun _ _ flying => ⟨rfl, flying⟩)))

theorem takeWithdraw_governs (st k rsv : Nat) : Governs s (s.takeWithdraw st k rsv).1 := by
  unfold takeWithdraw
  repeat' split
  all_goals try dsimp only
  case h_3.isFalse.isFalse =>
    rename_i look waits _
    exact s.endAwaiting_governs (fun y look' => by rw [look] at look'; cases look'; simpa using waits) _ _ _ _ _
  all_goals exact .refl s

theorem windowEnds_governs {k : Nat} (due : s.windowDue k = true) : Governs s (s.windowEnds k) := by
  refine s.endAwaiting_governs (fun x look => ?_) _ _ _ _ _
  simp only [windowDue, ticketWhere, look, Option.map_some, Option.getD_some, decide_eq_true_eq] at due
  exact due.1

theorem countGate_governs (f : CountersG → CountersG) : Governs s (s.countGate f) :=
  .of_touches (s.countGate_keeps f) (s.countGate_touches f) (by decide)

theorem takeReply_governs (k tag outcome arg : Nat) : Governs s (s.takeReply k tag outcome arg) := by
  have final (o : ResultOutcome) (d : Nat) : Governs s (s.finalReply k tag o d) := by
    unfold finalReply
    split
    · exact s.countGate_governs _
    · exact s.endFlight_governs k o d
  have extended (n : Nat) : Governs s (s.extendReply k tag n) := by
    unfold extendReply
    split
    · exact s.countGate_governs _
    · exact s.updTransit_governs k (fun _ _ flying => ⟨rfl, flying⟩)
  have busy : Governs s (s.busyReply k tag) := by
    unfold busyReply
    split
    · exact s.countGate_governs _
    case h_2 x found =>
      refine .ite (.after (endFlight_governs _ _ _ _) (s.countGate_governs _)) (.ite (.refl s) ?_)
      refine s.updTransit_governs k (fun y look flying => ?_)
      have same : x = y := by
        simp only [replyEntry?, look, Option.ite_none_right_eq_some, Option.some.injEq] at found
        exact found.2.symm
      subst same
      exact ⟨rfl, by simp⟩
  unfold takeReply
  split
  · exact final _ _
  · exact final _ _
  · exact busy
  · exact extended _
  · exact extended _

theorem replyFrame_governs (k tag outcome rsv arg : Nat) : Governs s (s.replyFrame k tag outcome rsv arg) := by
  have served : Governs s s.serveLink := .of_touches s.serveLink_keeps s.serveLink_touches (by decide)
  unfold replyFrame
  exact .ite (.after (.of_touches (countB_keeps _ _) (countB_touches _ _) (by decide)) served)
    (.after (takeReply_governs _ _ _ _ _) served)

theorem resend_governs {k : Nat} : Governs s (s.resend k) := by
  unfold resend
  split
  · exact .refl s
  · exact .after (say_governs _ _) (s.updTransit_governs k (fun _ _ _ => ⟨rfl, by simp⟩))

theorem replyMissing_governs (k : Nat) : Governs s (s.replyMissing k) := by
  unfold replyMissing
  split
  · exact .refl s
  · exact .after (endFlight_governs _ k _ _) (s.countGate_governs _)

theorem failOne_governs (k : Nat) : Governs s (s.failOne k) := .after (endFlight_governs _ k _ _) (s.countGate_governs _)

theorem setEv_governs (e : EvBuf) : Governs s { s with ev := e } :=
  ⟨fun _ e => ⟨e.logonsListed, e.transitRoom, e.onePlace, e.areas, e.owners, e.takeovers⟩, .refl s,
    fun _ _ st owned => .inl ⟨st, owned⟩⟩

theorem failInTurn_governs (k : Nat) : Governs s (s.failInTurn k) :=
  .after (setEv_governs _ _) (.after (failOne_governs _ k) (s.setEv_governs _))

theorem failInFlight_governs : Governs s s.failInFlight := by
  unfold failInFlight
  dsimp only
  split
  · exact .refl s
  · exact .after (failOne_governs _ _) (.foldl (fun s k => s.failInTurn_governs k) _ s)

theorem enterLost_governs : Governs s s.enterLost := by
  have still {u t : State} {l : List Part} (k : Keeps u t) (h : Touches l u t)
      (hl : ∀ p ∈ .transit :: entitledParts, p ∉ l) (before : Governs s u) : Governs s t :=
    before.trans (.of_touches k h hl)
  unfold enterLost
  dsimp only
  refine still (moveLink_keeps _ _) (moveLink_touches _ _) (by decide)
    (still (countB_keeps _ _) (countB_touches _ _) (by decide) (.after (failInFlight_governs _) ?_))
  refine still (setPlant_keeps _ _) (setPlant_touches _ _) (by decide) (still (markStale_keeps _) (markStale_touches _)
    (by decide) (still (sysRaise_keeps _ (by decide) _) (sysRaise_touches _ 513 _) (by decide) ?_))
  exact .ite (.of_touches (s.sysReturn_keeps 512) (s.sysReturn_touches 512) (by decide)) (.refl s)

end State

end Sys2Proof.Machine
end

section
/-! PROOFS. What logons, roster changes and the requests of the Handover Controller do to owners, and the two statements
about owners that every step meets (R27, R32). -/

namespace Sys2Proof.Machine

namespace State

variable (s : State)

/-! ### The loss of areas -/

theorem EntitledBut.disown {s : State} {Y : Nat → Nat → Prop} {a : Nat} (e : s.EntitledBut none Y) :
    (s.disown a).EntitledBut (some a) Y := by
  have lost := s.disown_touches a
  have logon := lost.logonAt_eq (by decide)
  have hand := lost.lookHand_eq (by decide)
  have kept : Keeps s (s.disown a) := .of_touches lost (by decide)
  refine ⟨(lost .logon (by decide) : _ = _) ▸ e.logonsListed, kept.transit e.transitRoom, fun st st' op => ?_,
    fun b held => ?_, fun b op st owned => ?_, fun b x other look => ?_⟩
  · simp only [logon]
    exact e.onePlace st st' op
  · rw [ownerOf_disown, hand] at held
    exact e.areas b (held.imp_left (fun owned => by split at owned <;> simp_all))
  · rw [logon, lost.permits_eq (by decide), lost.levelOf_eq (by decide)]
    rw [ownerOf_disown] at owned
    split at owned
    · simp at owned
    · exact e.owners b op st owned
  · rw [hand] at look
    rw [lost.inFlight_eq (by decide), ownerOf_disown, if_neg (fun same => other (congrArg some same.symm))]
    exact e.takeovers b x (by simp) look

/-- R10 step 1, R34 step 1: the area goes to nobody, or at once to the supervisor who waits for it. -/
theorem ownerOf_loseArea (a b op st : Nat) (owned : (s.loseArea a).ownerOf b = some (op, st)) :
    b ≠ a ∧ s.ownerOf b = some (op, st) ∨ b = a ∧ ∃ x, s.hand.look a = some (.takingOver x) ∧ x.op = op := by
  have hand := (s.disown_touches a).lookHand_eq (by decide) a
  have disowned (owned : (s.disown a).ownerOf b = some (op, st)) : b ≠ a ∧ s.ownerOf b = some (op, st) := by
    rw [ownerOf_disown] at owned
    split at owned
    · simp at owned
    · exact ⟨‹_›, owned⟩
  unfold loseArea at owned
  dsimp only at owned
  split at owned
  case h_1 x look =>
    rcases owner_of_passed (ownerOf_takeArea (s.disown a) a x.op b) owned with same | ⟨rfl, rfl⟩
    · exact .inl (disowned same)
    · exact .inr ⟨rfl, x, hand ▸ look, rfl⟩
  · exact .inl (disowned owned)

theorem ownerOf_loseArea_ne {a b : Nat} (h : b ≠ a) : (s.loseArea a).ownerOf b = s.ownerOf b := by
  have disowned : (s.disown a).ownerOf b = s.ownerOf b := by rw [ownerOf_disown, if_neg h]
  unfold loseArea
  dsimp only
  split
  · rw [ownerOf_takeArea, if_neg (by simp [h]), disowned]
  · exact disowned

theorem loseArea_governs (a : Nat) : Governs s (s.loseArea a) := by
  refine ⟨fun Y e => ?_, (s.loseArea_keeps a).hands, fun b op st owned => ?_⟩
  · have hand := (s.disown_touches a).lookHand_eq (by decide) a
    have lost := e.disown (a := a)
    unfold loseArea
    dsimp only
    split
    case h_1 x look => exact lost.takeArea (e.areas a (.inr (by rw [← hand, look]; rfl))) x.op
    case h_2 other => exact lost.settle (fun x => other x)
  · rcases s.ownerOf_loseArea a b op st owned with ⟨-, same⟩ | ⟨rfl, waits⟩
    · exact .inl ⟨st, same⟩
    · exact .inr (.inr waits)

/-- What takes an area from an operator: `loseArea`, and what R11 makes of it. -/
structure Loses (f : State → Nat → State) : Prop where
  governs : ∀ s a, Governs s (f s a)
  other : ∀ s a b, b ≠ a → (f s a).ownerOf b = s.ownerOf b
  away : ∀ s a op st, (f s a).ownerOf a = some (op, st) → ∃ x, s.hand.look a = some (.takingOver x) ∧ x.op = op
  level : ∀ s a op b, (f s a).levelOf op b = s.levelOf op b

theorem loseArea_loses : Loses loseArea where
  governs := loseArea_governs
  other s _ _ h := s.ownerOf_loseArea_ne h
  away s a op st owned := by
    rcases s.ownerOf_loseArea a a op st owned with ⟨ne, -⟩ | ⟨-, waits⟩
    · exact absurd rfl ne
    · exact waits
  level s a op b := (s.loseArea_touches a).levelOf_eq (by decide) op b

theorem loseAtZero_loses (op : Nat) : Loses (loseAtZero op) := by
  have closed (s : State) (a : Nat) : Governs (s.loseArea a) (loseAtZero op s a) :=
    .ite (.of_touches (closeSession_keeps _ a _) (closeSession_touches _ a _) (by decide)) (.refl _)
  have touched (s : State) (a : Nat) : Touches [.handover, .recs, .attnStacks, .said .notice] (s.loseArea a)
      (loseAtZero op s a) := .ite (closeSession_touches _ a _) (.refl _ _)
  refine ⟨fun s a => (s.loseArea_governs a).trans (closed s a), fun s a b h => ?_, fun s a op' st owned => ?_,
    fun s a op' b => ?_⟩
  · rw [(touched s a).ownerOf_eq (by decide)]
    exact s.ownerOf_loseArea_ne h
  · rw [(touched s a).ownerOf_eq (by decide)] at owned
    exact loseArea_loses.away s a op' st owned
  · rw [(touched s a).levelOf_eq (by decide)]
    exact loseArea_loses.level s a op' b

/-- R10, R11, R34: once each such area is lost, the operator owns none of them: it goes to nobody, or to another operator who
waits for it (R166). -/
theorem foldl_loses {f : State → Nat → State} (loses : Loses f) {op : Nat} {P : Nat → Prop} (as : List Nat) (s : State)
    (once : as.Nodup) (owned : ∀ a, a ∈ as ↔ (∃ st, s.ownerOf a = some (op, st)) ∧ P a) {Y : Nat → Nat → Prop}
    (e : s.EntitledBut none Y) :
    (as.foldl f s).EntitledBut none Y ∧ (∀ a st, P a → (as.foldl f s).ownerOf a ≠ some (op, st)) ∧
      ∀ op b, (as.foldl f s).levelOf op b = s.levelOf op b := by
  induction as generalizing s with
  | nil => exact ⟨e, fun a st hP h => List.not_mem_nil ((owned a).mpr ⟨⟨st, h⟩, hP⟩), fun _ _ => rfl⟩
  | cons a as ih =>
    obtain ⟨fresh, once⟩ := List.nodup_cons.mp once
    obtain ⟨st, mine⟩ := ((owned a).mp (by simp)).1
    have awayFrom (st' : Nat) : (f s a).ownerOf a ≠ some (op, st') := fun again => by
      obtain ⟨x, waits, same⟩ := loses.away s a op st' again
      obtain ⟨-, op', st', owner, ne⟩ := e.takeovers a x (by simp) waits
      rw [mine] at owner
      cases owner
      exact ne same.symm
    have owned' (b : Nat) : b ∈ as ↔ (∃ st, (f s a).ownerOf b = some (op, st)) ∧ P b := by
      by_cases same : b = a
      · subst same
        exact ⟨fun h => absurd h fresh, fun ⟨⟨st', h⟩, _⟩ => absurd h (awayFrom st')⟩
      · rw [loses.other s a b same]
        simpa [same] using owned b
    obtain ⟨e', none', level⟩ := ih (f s a) once owned' ((loses.governs s a).entitled Y e)
    exact ⟨e', none', fun op b => (level op b).trans (loses.level s a op b)⟩

/-! ### Logons -/

theorem closeSession_governs (a : Nat) (r : CloseReason) : Governs s (s.closeSession a r) :=
  .of_touches (s.closeSession_keeps a r) (s.closeSession_touches a r) (by decide)

theorem cancelTakeover_governs (a : Nat) (r : CloseReason) : Governs s (s.cancelTakeover a r) :=
  .of_touches (s.cancelTakeover_keeps a r) (s.cancelTakeover_touches a r) (by decide)

theorem endIncoming_governs (op : Nat) : Governs s (s.endIncoming op) :=
  .of_touches (s.endIncoming_keeps op) (s.endIncoming_touches op) (by decide)

theorem endOutgoing_governs (op : Nat) : Governs s (s.endOutgoing op) :=
  .of_touches (s.endOutgoing_keeps op) (s.endOutgoing_touches op) (by decide)

theorem coverScan_governs : Governs s s.coverScan := .of_touches s.coverScan_keeps s.coverScan_touches (by decide)

theorem logonAt_endLogon (st st' : Nat) : (s.endLogon st).logonAt st' = if st' = st then none else s.logonAt st' :=
  Tbl.look_del _ _ _

/-- The logon of an operator who owns nothing ends. -/
theorem EntitledBut.endLogon {s : State} {Y : Nat → Nat → Prop} {st op : Nat} (e : s.EntitledBut none Y)
    (logged : s.logonAt st = some op) (idle : ∀ a st', s.ownerOf a ≠ some (op, st')) :
    (s.endLogon st).EntitledBut none Y := by
  refine ⟨Tbl.wf_del e.logonsListed st, e.transitRoom, fun st1 st2 op' h1 h2 => ?_, e.areas, fun a op' st' owned => ?_,
    e.takeovers⟩
  · rw [logonAt_endLogon] at h1 h2
    split at h1 <;> split at h2 <;> simp_all
    exact e.onePlace st1 st2 op' h1 h2
  · obtain ⟨logged', permits, level⟩ := e.owners a op' st' owned
    refine ⟨?_, permits, level⟩
    rw [logonAt_endLogon, if_neg]
    · exact logged'
    · rintro rfl
      rw [logged] at logged'
      cases logged'
      exact idle a _ owned

theorem nodup_areaNumbers : areaNumbers.Nodup := by decide

theorem mem_areasOf {s : State} (bounds : ∀ a, (s.ownerOf a).isSome = true → 1 ≤ a ∧ a ≤ 12) {op a : Nat} :
    a ∈ s.areasOf op ↔ ∃ st, s.ownerOf a = some (op, st) := by
  simp only [areasOf, List.mem_filter, mem_areaNumbers, decide_eq_true_eq, Option.map_eq_some_iff, Prod.exists]
  constructor
  · rintro ⟨-, op', st, owned, rfl⟩; exact ⟨st, owned⟩
  · rintro ⟨st, owned⟩; exact ⟨bounds a (by simp [owned]), op, st, owned, rfl⟩

/-- R10, R34: an operator is forced off: nothing that the operator lacks of an owner is needed any more. -/
theorem EntitledBut.forceOff {s : State} {Y : Nat → Nat → Prop} {op st : Nat}
    (e : s.EntitledBut none (fun op' a => op' = op ∨ Y op' a)) (logged : s.logonAt st = some op) (r : LogoffReason)
    (w : WithdrawReason) : (s.forceOff op st r w).EntitledBut none Y := by
  have owned (a : Nat) : a ∈ s.areasOf op ↔ (∃ st, s.ownerOf a = some (op, st)) ∧ True := by
    rw [mem_areasOf (fun a h => e.areas a (.inl h)), and_true]
  obtain ⟨e1, idle1, -⟩ := foldl_loses loseArea_loses (s.areasOf op) s (nodup_areaNumbers.filter _) owned e
  have logon1 : ((s.areasOf op).foldl loseArea s).logonAt st = some op :=
    ((Touches.foldl (fun s a => s.loseArea_touches a) _ s).logonAt_eq (by decide) st).trans logged
  unfold State.forceOff
  dsimp only
  generalize (s.areasOf op).foldl loseArea s = s1 at e1 idle1 logon1
  have ended := ((s1.endOutgoing_governs op).trans (endIncoming_governs _ op)).trans (withdrawWaiting_governs _
    (fun t => decide (t.origOp = op)) w)
  have touched : Touches ([.recs, .attnStacks] ++ waitingParts) s1 (((s1.endOutgoing op).endIncoming op).withdrawWaiting
      (fun t => decide (t.origOp = op)) w) :=
    .after (withdrawWaiting_touches _ _ _) (by decide) (.after (endIncoming_touches _ op) (by decide)
      ((s1.endOutgoing_touches op).mono (by decide)))
  have e2 := ended.entitled _ e1
  generalize ((s1.endOutgoing op).endIncoming op).withdrawWaiting (fun t => decide (t.origOp = op)) w = s2 at touched e2
  have idle2 (a st' : Nat) : s2.ownerOf a ≠ some (op, st') := by
    rw [touched.ownerOf_eq (by decide)]; exact idle1 a st' trivial
  have e3 : s2.EntitledBut none Y := ⟨e2.logonsListed, e2.transitRoom, e2.onePlace, e2.areas, fun a op' st' owned =>
    let ⟨logged, permits, level⟩ := e2.owners a op' st' owned
    ⟨logged, permits, fun no => level (fun h => h.elim (fun same => idle2 a st' (same ▸ owned)) no)⟩, e2.takeovers⟩
  have e4 := e3.endLogon ((touched.logonAt_eq (by decide) st).trans logon1) idle2
  exact ((say_governs _ _).trans (coverScan_governs _)).entitled Y e4

end State

end Sys2Proof.Machine
end

section
/-! PROOFS. The requests that change an owner, a logon or a record, and the shape of every command as to owners. -/

namespace Sys2Proof.Machine

namespace State

variable (s : State)

theorem forceOff_touches_lost (op st : Nat) (r : LogoffReason) (w : WithdrawReason) :
    Touches ([.logon, .grace] ++ waitingParts ++ coverParts) ((s.areasOf op).foldl loseArea s) (s.forceOff op st r w) := by
  unfold forceOff
  dsimp only
  generalize (s.areasOf op).foldl loseArea s = s1
  have left : Touches ([.logon, .grace, .recs, .attnStacks] ++ waitingParts) s1
      ((((s1.endOutgoing op).endIncoming op).withdrawWaiting (fun t => decide (t.origOp = op)) w).endLogon st) :=
    .after (endLogon_touches _ st) (by decide) (.after (withdrawWaiting_touches _ _ _) (by decide)
      (.after (endIncoming_touches _ op) (by decide) ((s1.endOutgoing_touches op).mono (by decide))))
  exact .after (coverScan_touches _) (by decide) (.after (say_notices _ _ kind_heardBy_notice) (by decide)
    (left.mono (by decide)))

theorem forceOff_governs {op st : Nat} (logged : s.logonAt st = some op) (r : LogoffReason) (w : WithdrawReason) :
    Governs s (s.forceOff op st r w) := by
  have lost : Governs s ((s.areasOf op).foldl loseArea s) := .foldl loseArea_governs _ s
  refine ⟨fun Y e => (e.mono (fun _ _ => .inr)).forceOff logged r w, (s.forceOff_keeps op st r w).hands,
    fun a op' st' owned => lost.owners a op' st' ?_⟩
  rw [← owned, (s.forceOff_touches_lost op st r w).ownerOf_eq (by decide)]

theorem graceEnds_governs (st : Nat) : Governs s (s.graceEnds st) := by
  unfold graceEnds
  split
  case h_1 logged => exact s.forceOff_governs logged _ _
  · exact .of_touches (.of_touches (s.stopGrace_touches st) (by decide)) (s.stopGrace_touches st) (by decide)

/-! ### Logging on and off -/

/-- R27, R28: an operator logged on nowhere logs on at a station where nobody is. -/
theorem EntitledBut.logon {s : State} {Y : Nat → Nat → Prop} {st op : Nat} (e : s.EntitledBut none Y)
    (free : s.logonAt st = none) (nowhere : s.stationOf op = none) :
    ({ s with auth := { s.auth with logon := s.auth.logon.put st op } } : State).EntitledBut none Y := by
  have look (st' : Nat) : ({ s with auth := { s.auth with logon := s.auth.logon.put st op } } : State).logonAt st' =
      if st' = st then some op else s.logonAt st' := Tbl.look_put _ _ _ _
  refine ⟨Tbl.wf_put e.logonsListed _ _, e.transitRoom, fun st1 st2 op' h1 h2 => ?_, e.areas, fun a op' st' owned => ?_,
    e.takeovers⟩
  · rw [look] at h1 h2
    split at h1 <;> split at h2
    · simp_all
    · cases h1; exact absurd h2 (stationOf_eq_none nowhere st2)
    · cases h2; exact absurd h1 (stationOf_eq_none nowhere st1)
    · exact e.onePlace st1 st2 op' h1 h2
  · obtain ⟨logged, permits, level⟩ := e.owners a op' st' owned
    refine ⟨?_, permits, level⟩
    rw [look, if_neg]
    · exact logged
    · rintro rfl
      simp [free] at logged

theorem takeLogon_governs (st badge rsv : Nat) : Governs s (s.takeLogon st badge rsv).1 := by
  unfold takeLogon
  split
  · exact .refl s
  split
  · exact .refl s
  split
  · exact .refl s
  · exact .refl s
  · exact .refl s
  case h_4 free _ _ =>
    split
    · exact .refl s
    split
    · exact .refl s
    split
    · exact .refl s
    split
    · exact .refl s
    case h_2 nowhere =>
      exact .after (coverScan_governs _)
        ⟨fun Y e => e.logon free nowhere, .refl s, fun a op st owned => .inl ⟨st, owned⟩⟩

theorem heldArea?_eq_none {s : State} {op : Nat} (h : s.heldArea? op = none) {a : Nat} (h1 : 1 ≤ a) (h12 : a ≤ 12) :
    (∀ st, s.ownerOf a ≠ some (op, st)) ∧ ∀ x, s.session? a = some x → x.outOp ≠ op := by
  have := List.find?_eq_none.mp h a (mem_areaNumbers.mpr ⟨h1, h12⟩)
  simp only [Bool.or_eq_true, decide_eq_true_eq, not_or] at this
  exact ⟨fun st owned => this.1 (by simp [owned]), fun x open_ same => this.2 (by simp [open_, same])⟩

theorem takeLogoff_governs (st : Nat) : Governs s (s.takeLogoff st).1 := by
  unfold takeLogoff
  split
  · exact .refl s
  case h_2 op logged =>
    split
    · exact .refl s
    case h_2 holdsNone =>
      have ended := (s.endIncoming_governs op).trans (withdrawWaiting_governs _ (fun t => decide (t.origOp = op)) .logoff)
      have touched : Touches ([.recs, .attnStacks] ++ waitingParts) s ((s.endIncoming op).withdrawWaiting
          (fun t => decide (t.origOp = op)) .logoff) :=
        .after (withdrawWaiting_touches _ _ _) (by decide) ((s.endIncoming_touches op).mono (by decide))
      dsimp only
      generalize (s.endIncoming op).withdrawWaiting (fun t => decide (t.origOp = op)) .logoff = s1 at ended touched
      have left : Governs s (s1.endLogon st) := by
        refine ⟨fun Y e => (ended.entitled Y e).endLogon ((touched.logonAt_eq (by decide) st).trans logged)
          (fun a st' owned => ?_), ended.hands, ended.owners⟩
        rw [touched.ownerOf_eq (by decide)] at owned
        obtain ⟨h1, h12⟩ := e.areas a (.inl (by simp [owned]))
        exact (heldArea?_eq_none holdsNone h1 h12).1 st' owned
      have scanned := left.trans (coverScan_governs _)
      exact scanned.trans (.of_touches (.of_touches (forceAttention_touches _ st) (by decide))
        (forceAttention_touches _ st) (by decide))

/-! ### Station records -/

/-- Station records are written where nobody is logged on, so that no owner's station changes. -/
theorem setStations_governs {t : Tbl StationRec} {i : Nat} (unstaffed : s.logonAt i = none)
    (other : ∀ st, st ≠ i → t.look st = s.stationRec? st) :
    Governs s (s.setTables { s.tables with stations := t }) := by
  refine ⟨fun Y e => ⟨e.logonsListed, e.transitRoom, e.onePlace, e.areas, fun a op st owned => ?_, e.takeovers⟩, .refl s,
    fun _ _ st owned => .inl ⟨st, owned⟩⟩
  obtain ⟨logged, permits, level⟩ := e.owners a op st owned
  refine ⟨logged, ?_, level⟩
  have same : (s.setTables { s.tables with stations := t }).stationRec? st = s.stationRec? st :=
    other st (by rintro rfl; simp [unstaffed] at logged)
  rwa [State.permits, same]

theorem resetStation_governs (st : Nat) : Governs s (s.resetStation st) :=
  .of_touches (s.resetStation_keeps st) (s.resetStation_touches st) (by decide)

theorem takeStationWrite_governs (st i : Nat) (r : Option RawStation) (rsv : Nat) :
    Governs s (s.takeStationWrite st i r rsv).1 := by
  have put (h : s.logonAt i = none) (r : StationRec) : Governs s (s.putStation i r) := by
    have written : Governs s (s.setTables { s.tables with stations := s.tables.stations.put i r }) :=
      s.setStations_governs h (fun st ne => (Tbl.look_put _ _ _ _).trans (if_neg ne))
    exact .ite written (written.trans (resetStation_governs _ i))
  have cleared (h : s.logonAt i = none) : Governs s (s.clearStation i) :=
    (s.setStations_governs h (fun st ne => (Tbl.look_del _ _ _).trans (if_neg ne))).trans (resetStation_governs _ i)
  unfold takeStationWrite
  repeat' split
  all_goals try dsimp only
  all_goals first
    | with_reducible exact .refl _
    | exact cleared (by simpa [staffed] using ‹¬ s.staffed i = true›)
    | exact put (by simpa [staffed] using ‹¬ s.staffed i = true›) _

end State

/-! ### The requests that give an area -/

/-- To whom a request may give an area that has an owner (R159, R166); a CLAIM is of an area without one. -/
def MayTake (i : Instr) (s : State) (a op : Nat) : Prop :=
  match i with
  | .claim _ _ _ => s.ownerOf a = none
  | .accept h b rsv => b = a ∧ rsv = 0 ∧ ∃ x, s.hand.look a = some (.offered x) ∧ x.inOp = op ∧ x.inStation = h.station ∧
      s.logonAt h.station = some op
  | .takeover h b rsv => b = a ∧ rsv = 0 ∧ s.logonAt h.station = some op ∧ s.isSupervisorStation h.station = true
  | _ => False

/-- From `s` to `t` a command keeps owners entitled, and passes an area only as the rules of transfers say. -/
structure Allows (i : Instr) (s t : State) : Prop where
  entitled : s.OwnersEntitled → t.OwnersEntitled
  owners : ∀ a op st, t.ownerOf a = some (op, st) → (∃ st', s.ownerOf a = some (op, st')) ∨ Passing s a op ∨ MayTake i s a op

theorem Governs.allows {s t : State} (h : Governs s t) (i : Instr) : Allows i s t :=
  ⟨fun e => State.ownersEntitled_iff.mpr (h.entitled _ (State.ownersEntitled_iff.mp e)),
    fun a op st owned => (h.owners a op st owned).imp_right .inl⟩

theorem Allows.refl (i : Instr) (s : State) : Allows i s s := (Governs.refl s).allows i

namespace State

variable (s : State)

theorem leaveAtZero_governs (op a : Nat) : Governs s (leaveAtZero op s a) := by
  have closed : Governs s (if (s.session? a).map (·.inOp) = some op then s.closeSession a .incomingGone else s) :=
    .ite (s.closeSession_governs a _) (.refl s)
  unfold leaveAtZero
  dsimp only
  split
  · exact .ite (closed.trans (cancelTakeover_governs _ a _)) closed
  · exact closed

theorem releaseAtZero_governs (op : Nat) : Governs s (s.releaseAtZero op) :=
  (Governs.foldl (loseAtZero_loses op).governs _ s).trans ((withdrawWaiting_governs _ _ _).trans
    (.foldl (fun s a => s.leaveAtZero_governs op a) _ _))

/-- R11: afterwards the operator owns no area at level 0. -/
theorem EntitledBut.releaseAtZero {s : State} {op : Nat}
    (e : s.EntitledBut none (fun op' a => op' = op ∧ s.levelOf op a = 0)) :
    (s.releaseAtZero op).EntitledBut none (fun _ _ => False) := by
  unfold State.releaseAtZero
  dsimp only
  set owned := (areaNumbers.filter (fun a => decide (s.levelOf op a = 0))).filter
    (fun a => decide ((s.ownerOf a).map Prod.fst = some op))
  have mem (a : Nat) : a ∈ owned ↔ (∃ st, s.ownerOf a = some (op, st)) ∧ s.levelOf op a = 0 := by
    have := mem_areasOf (s := s) (fun a h => e.areas a (.inl h)) (op := op) (a := a)
    rw [← this]
    simp only [owned, areasOf, List.mem_filter, decide_eq_true_eq]
    tauto
  obtain ⟨e1, none1, level1⟩ := foldl_loses (loseAtZero_loses op) owned s
    ((nodup_areaNumbers.filter _).filter _) mem e
  have e2 : (owned.foldl (loseAtZero op) s).EntitledBut none (fun _ _ => False) :=
    ⟨e1.logonsListed, e1.transitRoom, e1.onePlace, e1.areas, fun a op' st owner =>
      let ⟨logged, permits, level⟩ := e1.owners a op' st owner
      ⟨logged, permits, fun _ => level (fun ⟨same, zero⟩ => none1 a st zero (same ▸ owner))⟩, e1.takeovers⟩
  exact ((withdrawWaiting_governs _ _ _).trans (.foldl (fun s a => s.leaveAtZero_governs op a) _ _)).entitled _ e2

/-- R10 to R12: while a new record of an operator has not taken effect, only this operator may own at level 0. -/
theorem setRoster_entitled {op : Nat} {r : Tbl RosterRec} (other : ∀ op', op' ≠ op → r.look op' = s.rosterRec? op')
    (e : s.OwnersEntitled) : (s.setTables { s.tables with roster := r }).EntitledBut none
      (fun op' a => op' = op ∧ (s.setTables { s.tables with roster := r }).levelOf op a = 0) := by
  have e := ownersEntitled_iff.mp e
  refine ⟨e.logonsListed, e.transitRoom, e.onePlace, e.areas, fun a op' st owned => ?_, e.takeovers⟩
  obtain ⟨logged, permits, level⟩ := e.owners a op' st owned
  refine ⟨logged, permits, fun no => ?_⟩
  by_cases same : op' = op
  · subst same
    exact Nat.pos_of_ne_zero (fun zero => no ⟨rfl, zero⟩)
  · have : (s.setTables { s.tables with roster := r }).rosterRec? op' = s.rosterRec? op' := other op' same
    rw [levelOf, this]
    exact level (fun f => f)

/-- R10 to R12: whatever the new record says, the operator keeps only what an owner may keep. -/
theorem rosterEffects_allows (i : Instr) (op : Nat) (r : Tbl RosterRec)
    (other : ∀ op', op' ≠ op → r.look op' = s.rosterRec? op') :
    Allows i s ((s.setTables { s.tables with roster := r }).rosterEffects op) := by
  have entitled (e : s.OwnersEntitled) := s.setRoster_entitled other e
  have owners {t : State} (h : Governs (s.setTables { s.tables with roster := r }) t) (a op st : Nat)
      (owned : t.ownerOf a = some (op, st)) :
      (∃ st', s.ownerOf a = some (op, st')) ∨ Passing s a op ∨ MayTake i s a op :=
    (h.owners a op st owned).imp_right .inl
  generalize s.setTables { s.tables with roster := r } = u at entitled owners
  unfold rosterEffects
  split
  case h_1 nowhere =>
    refine ⟨fun e => ownersEntitled_iff.mpr (u.coverScan_governs.entitled _ ?_), owners u.coverScan_governs⟩
    have e := entitled e
    exact ⟨e.logonsListed, e.transitRoom, e.onePlace, e.areas, fun a op' st owned =>
      let ⟨logged, permits, level⟩ := e.owners a op' st owned
      ⟨logged, permits, fun _ => level (fun ⟨same, _⟩ => stationOf_eq_none nowhere st (same ▸ logged))⟩, e.takeovers⟩
  case h_2 st place =>
    split
    · exact ⟨fun e => ownersEntitled_iff.mpr ((coverScan_governs _).entitled _ (entitled e).releaseAtZero),
        owners ((u.releaseAtZero_governs op).trans (coverScan_governs _))⟩
    · have shown (t : State) : Governs t (t.forceAttention st) :=
        .of_touches (.of_touches (t.forceAttention_touches st) (by decide)) (t.forceAttention_touches st) (by decide)
      refine ⟨fun e => ownersEntitled_iff.mpr ((shown _).entitled _ ?_), ?_⟩
      · exact ((entitled e).mono (fun _ _ h => .inl h.1)).forceOff
          (logonAt_of_stationOf (entitled e).logonsListed place) _ _
      · intro a op' st' owned
        have lost : Governs u ((u.areasOf op).foldl loseArea u) := .foldl loseArea_governs _ u
        refine owners lost a op' st' ?_
        rw [← owned, (forceAttention_touches _ st).ownerOf_eq (by decide),
          (u.forceOff_touches_lost op st _ _).ownerOf_eq (by decide)]

theorem takeRosterWrite_allows (i : Instr) (st n : Nat) (r : Option RawRoster) (rsv : Nat) :
    Allows i s (s.takeRosterWrite st n r rsv).1 := by
  unfold takeRosterWrite
  repeat' split
  all_goals try dsimp only
  all_goals first
    | with_reducible exact .refl i _
    | exact s.rosterEffects_allows i n _ (fun op ne => (Tbl.look_del _ _ _).trans (if_neg ne))
    | exact s.rosterEffects_allows i n _ (fun op ne => (Tbl.look_put _ _ _ _).trans (if_neg ne))

/-! ### CLAIM and RELEASE -/

theorem areaFault?_eq_none {a rsv : Nat} : areaFault? a rsv = none ↔ (1 ≤ a ∧ a ≤ 12) ∧ rsv = 0 := by
  unfold areaFault?
  split
  · simp; omega
  · split <;> simp_all
    omega

theorem handoverFault?_eq_none {a rsv : Nat} : handoverFault? a rsv = none ↔ (1 ≤ a ∧ a ≤ 12) ∧ rsv = 0 := by
  unfold handoverFault?
  split
  · simp_all
  · split <;> simp_all <;> omega

/-- R30: an area without owner goes to an operator who may own it. -/
theorem EntitledBut.claim {s : State} {Y : Nat → Nat → Prop} {a op st : Nat} (e : s.EntitledBut none Y)
    (range : 1 ≤ a ∧ a ≤ 12) (unowned : s.ownerOf a = none) (logged : s.logonAt st = some op)
    (permits : s.permits st a = true) (level : 1 ≤ s.levelOf op a) : (s.giveOwner a op st).EntitledBut none Y := by
  have gave := s.giveOwner_touches a op st
  have logon := gave.logonAt_eq (by decide)
  have hand := gave.lookHand_eq (by decide)
  have kept : Keeps s (s.giveOwner a op st) := .of_touches gave (by decide)
  refine ⟨(gave .logon (by decide) : _ = _) ▸ e.logonsListed, kept.transit e.transitRoom, fun st st' op => ?_,
    fun b held => ?_, fun b op' st' owned => ?_, fun b x other look => ?_⟩
  · simp only [logon]
    exact e.onePlace st st' op
  · by_cases same : b = a
    · exact same ▸ range
    · rw [ownerOf_giveOwner, if_neg same, hand] at held
      exact e.areas b held
  · rw [logon, gave.permits_eq (by decide), gave.levelOf_eq (by decide)]
    rw [ownerOf_giveOwner] at owned
    split at owned
    · cases owned
      subst_vars
      exact ⟨logged, permits, fun _ => level⟩
    · exact e.owners b op' st' owned
  · rw [hand] at look
    obtain ⟨flying, op', st', owned, ne⟩ := e.takeovers b x (by simp) look
    rw [gave.inFlight_eq (by decide), ownerOf_giveOwner, if_neg (by rintro rfl; simp [unowned] at owned)]
    exact ⟨flying, op', st', owned, ne⟩

theorem takeClaim_allows (h : Hdr) (a rsv : Nat) : Allows (.claim h a rsv) s (s.takeClaim h.station a rsv).1 := by
  unfold takeClaim
  split
  · exact .refl _ s
  · exact .refl _ s
  case h_3 fits logged =>
    obtain ⟨range, -⟩ := areaFault?_eq_none.mp fits
    split
    · exact .refl _ s
    case isFalse permits =>
      split
      · exact .refl _ s
      case isFalse level =>
        split
        · split <;> exact .refl _ s
        case h_2 unowned =>
          refine ⟨fun e => ownersEntitled_iff.mpr ((coverScan_governs _).entitled _ ((ownersEntitled_iff.mp e).claim range
            unowned logged (by simpa using permits) (by omega))), fun b op st owned => ?_⟩
          rw [(coverScan_touches _).ownerOf_eq (by decide), ownerOf_giveOwner] at owned
          split at owned
          · subst_vars
            exact .inr (.inr unowned)
          · exact .inl ⟨st, owned⟩

theorem takeRelease_governs (st a rsv : Nat) : Governs s (s.takeRelease st a rsv).1 := by
  unfold takeRelease
  repeat' split
  case h_3.isFalse.isFalse.isFalse.isFalse =>
    rename_i single
    refine .after (coverScan_governs _) ⟨fun Y e => (e.disown (a := a)).settle (fun x look => ?_),
      .of_eq ((s.disown_touches a) .handover (by decide)), fun b op st owned => ?_⟩
    · rw [(s.disown_touches a).lookHand_eq (by decide)] at look
      obtain ⟨flying, -⟩ := e.takeovers a x (by simp) look
      obtain ⟨k, y, listed, inArea, -⟩ := (inFlight_ne_nil e.transitRoom.1).mp flying
      refine single (fun none_ => ?_)
      simp only [transitWhere, List.map_eq_nil_iff, List.filter_eq_nil_iff] at none_
      exact none_ (k, y) (Tbl.mem_of_look listed) (by simpa using inArea)
    · rw [ownerOf_disown] at owned
      split at owned
      · simp at owned
      · exact .inl ⟨st, owned⟩
  all_goals exact .refl s

end State

end Sys2Proof.Machine
end

section
/-! PROOFS. The Handover Controller's requests, RESTART and the start of the unit as to owners, and the two statements about
owners that every step meets (R27, R32). -/

namespace Sys2Proof.Machine

namespace State

variable (s : State)

/-! ### Waits that begin -/

/-- R155, R159, R166: an area comes to wait: for a takeover only where commands are in flight and another operator owns it. -/
theorem EntitledBut.putHand {s : State} {Y : Nat → Nat → Prop} (e : s.EntitledBut none Y) {a : Nat} (range : 1 ≤ a ∧ a ≤ 12)
    (x : Handover) (taking : ∀ t, x = .takingOver t → s.inFlight a ≠ [] ∧ ∃ op st, s.ownerOf a = some (op, st) ∧ op ≠ t.op) :
    ({ s with hand := s.hand.put a x } : State).EntitledBut none Y := by
  refine ⟨e.logonsListed, e.transitRoom, e.onePlace, fun b held => ?_, e.owners, fun b t _ look => ?_⟩
  · rw [Tbl.look_put] at held
    split at held
    · exact ‹b = a› ▸ range
    · exact e.areas b held
  · rw [Tbl.look_put] at look
    split at look
    · subst_vars
      exact taking t (Option.some.inj look)
    · exact e.takeovers b t (by simp) look

theorem sayAfter_governs (os : List Out) : Governs s (s.sayAfter os) := by
  unfold sayAfter
  exact s.setEv_governs _

theorem withdrawForHandover_governs (a out : Nat) : Governs s (s.withdrawForHandover a out) :=
  .after (setEv_governs _ _) (s.withdrawWaiting_governs _ _)

theorem takeAccept_allows (h : Hdr) (a rsv : Nat) : Allows (.accept h a rsv) s (s.takeAccept h.station a rsv).1 := by
  unfold takeAccept
  split
  case h_3 op x fits logged look =>
    obtain ⟨range, unreserved⟩ := handoverFault?_eq_none.mp fits
    split
    · exact .refl _ s
    case isFalse incoming =>
      split
      · exact .refl _ s
      · simp only [not_or, not_not] at incoming
        obtain ⟨byOp, atStation⟩ := incoming
        have withdrawn := s.withdrawForHandover_governs a x.outOp
        have touched := s.withdrawForHandover_touches a x.outOp
        have offered : (s.session? a).isSome = true := by simp [session?, look]
        unfold acceptSession
        dsimp only
        have lessens := look ▸ withdrawn.hands a
        generalize s.withdrawForHandover a x.outOp = s1 at withdrawn touched lessens
        have owner (b : Nat) : s1.ownerOf b = s.ownerOf b := touched.ownerOf_eq (by decide) b
        split
        · unfold completeHandover
          split
          · exact withdrawn.allows _
          case h_2 y open1 =>
            have same : y.inOp = op := by
              unfold session? at open1
              split at open1
              case h_1 z look1 =>
                rw [look1] at lessens
                cases open1
                exact (congrArg Session.inOp (show y = _ from lessens)).trans byOp
              case h_2 z look1 =>
                rw [look1] at lessens
                exact (show False from lessens).elim
              · simp at open1
            have may : MayTake (.accept h a rsv) s a y.inOp :=
              ⟨rfl, unreserved, x, look, byOp.trans same.symm, atStation, same ▸ logged⟩
            refine ⟨fun e => ?_, fun b op st owned => ?_⟩
            · have e1 := withdrawn.entitled _ (ownersEntitled_iff.mp e)
              have := e1.except.completeHandover range open1
              rw [completeHandover, open1] at this
              exact ownersEntitled_iff.mpr this
            · have passed := s1.ownerOf_completeHandover open1 b
              rw [completeHandover, open1] at passed
              rcases owner_of_passed passed owned with kept | ⟨rfl, rfl⟩
              · exact .inl ⟨st, (owner b) ▸ kept⟩
              · exact .inr (.inr may)
        · refine ⟨fun e => ?_, fun b op st owned => .inl ⟨st, ?_⟩⟩
          · have e1 := withdrawn.entitled _ (ownersEntitled_iff.mp e)
            exact ownersEntitled_iff.mpr ((sayAfter_governs _ _).entitled _ (e1.putHand range _ (fun _ h => by simp at h)))
          · rw [(startQuiescing_touches _ _ _ _).ownerOf_eq (by decide), owner] at owned
            exact owned
  case h_4 => split <;> exact .refl _ s
  all_goals exact .refl _ s

theorem takeRecall_governs (st a rsv : Nat) : Governs s (s.takeRecall st a rsv).1 :=
  .of_touches (s.takeRecall_keeps st a rsv) (s.takeRecall_touches st a rsv) (by decide)

theorem takeReview_governs (st a first count rsv : Nat) : Governs s (s.takeReview st a first count rsv).1 :=
  .of_touches (s.takeReview_keeps st a first count rsv) (s.takeReview_touches st a first count rsv) (by decide)

theorem takeOffer_allows (i : Instr) (st a b rsv : Nat) : Allows i s (s.takeOffer st a b rsv).1 := by
  refine ⟨fun e => ?_, fun c op st' owned => .inl ⟨st', ((s.takeOffer_touches st a b rsv).ownerOf_eq (by decide) c).symm.trans owned⟩⟩
  unfold takeOffer
  repeat' split
  case h_5 =>
    rename_i fits _ _ _ _ _ _ _ _ _ _ _
    exact ownersEntitled_iff.mpr ((sayAfter_governs _ _).entitled _
      ((ownersEntitled_iff.mp e).putHand (handoverFault?_eq_none.mp fits).1 _ (fun _ h => by simp at h)))
  all_goals exact e

theorem takeFromOwner_allows {i : Instr} {a op st owner ost : Nat} (range : 1 ≤ a ∧ a ≤ 12)
    (owned : s.ownerOf a = some (owner, ost)) (other : owner ≠ op) (may : MayTake i s a op) :
    Allows i s (s.takeFromOwner a op st owner ost).1 := by
  have closed := (s.closeSession_governs a .takeover).trans (withdrawWaiting_governs _ (fun t => decide (t.area = a ∧ t.origOp = owner)) .takeover)
  have touched : Touches ([.recs, .attnStacks] ++ waitingParts) s ((s.closeSession a .takeover).withdrawWaiting
      (fun t => decide (t.area = a ∧ t.origOp = owner)) .takeover) :=
    .after (withdrawWaiting_touches _ _ _) (by decide) ((s.closeSession_touches a _).mono (by decide))
  unfold takeFromOwner
  dsimp only
  generalize (s.closeSession a .takeover).withdrawWaiting (fun t => decide (t.area = a ∧ t.origOp = owner)) .takeover = s1
    at closed touched
  have same (b : Nat) : s1.ownerOf b = s.ownerOf b := touched.ownerOf_eq (by decide) b
  split
  · refine ⟨fun e => ownersEntitled_iff.mpr ((closed.entitled _ (ownersEntitled_iff.mp e)).except.completeTakeover range op),
      fun b op' st' taken => ?_⟩
    rcases owner_of_passed (s1.ownerOf_completeTakeover a op b) taken with kept | ⟨rfl, rfl⟩
    · exact .inl ⟨st', same b ▸ kept⟩
    · exact .inr (.inr may)
  case isFalse flying =>
    refine ⟨fun e => ?_, fun b op' st' taken => .inl ⟨st', ?_⟩⟩
    · refine ownersEntitled_iff.mpr ((sayAfter_governs _ _).entitled _ ((closed.entitled _ (ownersEntitled_iff.mp e)).putHand
        range _ (fun t taking => ?_)))
      cases taking
      exact ⟨fun none_ => flying (by simp [none_]), owner, ost, (same a).trans owned, other⟩
    · rw [(startTakingOver_touches _ _ _ _ _ _).ownerOf_eq (by decide), same] at taken
      exact taken

theorem takeTakeover_allows (h : Hdr) (a rsv : Nat) : Allows (.takeover h a rsv) s (s.takeTakeover h.station a rsv).1 := by
  unfold takeTakeover
  split
  · exact .refl _ s
  · exact .refl _ s
  case h_3 op fits logged =>
    obtain ⟨range, unreserved⟩ := handoverFault?_eq_none.mp fits
    split
    · exact .refl _ s
    case isFalse supervisor =>
      have may : MayTake (.takeover h a rsv) s a op := ⟨rfl, unreserved, logged, by simpa using supervisor⟩
      split
      · exact .refl _ s
      split
      · exact .refl _ s
      unfold takeoverBy
      split
      · split <;> exact .refl _ s
      · refine ⟨fun e => ownersEntitled_iff.mpr ((ownersEntitled_iff.mp e).except.completeTakeover range op),
          fun b op' st' taken => ?_⟩
        rcases owner_of_passed (s.ownerOf_completeTakeover a op b) taken with kept | ⟨rfl, rfl⟩
        · exact .inl ⟨st', kept⟩
        · exact .inr (.inr may)
      case h_3 owned =>
        split
        · exact .refl _ s
        case isFalse other =>
          split
          · split <;> exact .refl _ s
          · exact s.takeFromOwner_allows range owned other may

/-! ### The start of the unit -/

/-- Nobody is logged on, nothing is owned and no area waits. -/
structure Bare (t : State) : Prop where
  logon : t.auth.logon = []
  owner : t.auth.owner = []
  transit : t.gate.transit = []
  hand : t.hand = []

theorem Bare.ownersEntitled {t : State} (b : t.Bare) : t.OwnersEntitled := by
  have none_ (a : Nat) : t.ownerOf a = none := by simp [ownerOf, b.owner]
  refine ⟨b.logon ▸ List.Pairwise.nil, b.transit ▸ List.Pairwise.nil, by simp [b.transit], fun st st' op h => ?_, fun a h => ?_,
    fun a op st h => ?_, fun a t h => ?_⟩
  · simp [logonAt, b.logon] at h
  · simp [none_, b.hand] at h
  · simp [none_] at h
  · simp [b.hand] at h

theorem Bare.of_touches {t u : State} (b : t.Bare) {l : List Part} (h : Touches l t u)
    (hl : ∀ p ∈ [Part.logon, .owner, .transit, .handover], p ∉ l) : u.Bare :=
  ⟨(h .logon (hl _ (by decide))).trans b.logon, (h .owner (hl _ (by decide))).trans b.owner,
    (h .transit (hl _ (by decide))).trans b.transit, (h .handover (hl _ (by decide))).trans b.hand⟩

theorem Bare.allows {t : State} (b : t.Bare) (i : Instr) : Allows i s t :=
  ⟨fun _ => b.ownersEntitled, fun a op st owned => by simp [ownerOf, b.owner] at owned⟩

theorem cleared_bare : s.cleared.Bare := ⟨rfl, rfl, rfl, rfl⟩

theorem dark_bare (power reset : Bool) (image : Image) : (s.dark power reset image).Bare := ⟨rfl, rfl, rfl, rfl⟩

theorem startUp_bare (p : Straps) : (s.startUp p).Bare := by
  have woken : (s.woken p).Bare := ⟨rfl, rfl, rfl, rfl⟩
  exact (woken.of_touches (startUpAlarms_touches _) (by decide)).of_touches (finish_touches _) (by decide)

theorem takeRestart_allows (i : Instr) (st : Nat) : Allows i s (s.takeRestart st).1 := by
  unfold takeRestart
  repeat' split
  all_goals try dsimp only
  all_goals first
    | with_reducible exact .refl _ _
    | exact (s.cleared_bare.of_touches (startUpAlarms_touches _) (by decide)).allows s i

end State

/-! ### What every command comes to -/

/-- What the arrival of a frame, the end of an event, the clock, the counters and the messages touch. -/
def asideParts : List Part := requestParts ++ passingParts ++ State.storedParts

/-- A command makes the unit bare, or it stands in `Q` but for what goes on beside it. -/
def ComesTo (Q : State → State → Prop) (s t : State) : Prop :=
  t.Bare ∨ ∃ u v, Touches asideParts s u ∧ (v = u ∨ Q u v) ∧ Touches asideParts v t

namespace ComesTo

variable {Q : State → State → Prop} {s t : State}

theorem aside (h : Touches asideParts s t) : ComesTo Q s t := .inr ⟨s, s, .refl _ s, .inl rfl, h⟩

theorem before {u : State} (h : Touches asideParts s u) (c : ComesTo Q u t) : ComesTo Q s t := by
  rcases c with bare | ⟨v, w, before, done, after⟩
  · exact .inl bare
  · exact .inr ⟨v, w, h.trans before, done, after⟩

theorem event {f : State → State} (h : ∀ s, ComesTo Q s (f s)) (taken : Machine.event f s = .next t) : ComesTo Q s t := by
  have freshened : Touches asideParts s s.fresh := (fresh_touches s).mono (by decide)
  rcases event_cases f s with ⟨off, -⟩ | ⟨on, -⟩
  · rw [off] at taken; injection taken with taken; exact taken ▸ aside freshened
  · rw [on] at taken; injection taken with taken; exact taken ▸ before freshened (h _)

theorem receive {f : State → State} (h : ∀ s, ComesTo Q s (f s)) (s : State) (hd : Hdr) : ComesTo Q s (s.receive hd f) := by
  rcases s.receive_cases hd f with ⟨c, stranger⟩ | admitted
  · rw [stranger]
    exact aside ((s.countA_touches c).mono (by decide))
  · rw [admitted]
    exact before ((s.admitFrame_touches hd.station).mono (by decide)) (h _)

theorem request {f : State → State} (h : ∀ s, ComesTo Q s (f s)) (s : State) (hd : Hdr) : ComesTo Q s (s.request hd f) := by
  refine receive (fun s => ?_) s hd
  split
  · exact aside ((s.answer_touches hd _).mono (by decide))
  · exact h s

theorem handle {f : State → State × Ans} (h : ∀ s, Q s (f s).1) (s : State) (hd : Hdr) : ComesTo Q s (s.handle hd f) := by
  refine .inr ⟨s, (f s).1, .refl _ s, .inr (h s), ?_⟩
  rcases s.handle_cases hd f with ⟨done, -⟩ | ⟨refused, -⟩
  · rw [done]
    exact (State.finish_answer_touches _ hd _).mono (by decide)
  · rw [refused]
    exact (State.answer_touches _ hd _).mono (by decide)

theorem finished (h : Q s t) : ComesTo Q s t.finish :=
  .inr ⟨s, t, .refl _ s, .inr h, (State.finish_touches _).mono (by decide)⟩

end ComesTo

/-- Every command comes to its operation, with nothing beside it but what `asideParts` lists. -/
theorem Shape.comesTo {Q : State → State → Prop} {i : Instr} (shape : Shape Q i) {s t : State} (taken : exec i s = .next t) :
    ComesTo Q s t := by
  cases shape with
  | powerUp p =>
    injection taken with taken
    subst taken
    unfold State.powerOn
    split
    · exact .inl (State.dark_bare _ _ _ _)
    · exact .inl (State.startUp_bare _ _)
  | resetAssert m => injection taken with taken; exact .inl (taken ▸ State.dark_bare _ _ _ _)
  | resetDeassert p =>
    injection taken with taken
    subst taken
    split
    · exact .inl (State.startUp_bare _ _)
    · exact .inl (State.dark_bare _ _ _ _)
  | powerLoss m => injection taken with taken; exact .inl (taken ▸ State.dark_bare _ _ _ _)
  | keyLine closed =>
    injection taken with taken
    refine .before ((fresh_touches s).mono (by decide)) (taken ▸ .aside ?_)
    exact (s.fresh.setKeyLine_touches closed).mono (by decide)
  | beat h => exact .event (fun s => .receive (fun s => .aside (.refl _ s)) s h) taken
  | unknown h r => exact .event (fun s => .aside ((s.unknownRequest_touches h r).mono (by decide))) taken
  | store h =>
    exact .event (fun s => .request (fun s => .aside ((s.takeStore_touches h).mono (by decide))) s h) taken
  | storeDone matched => exact .event (fun s => .aside ((s.storeDone_touches matched).mono (by decide))) taken
  | quiet _ f way passing => exact .event (fun s => .aside ((passing s).mono (by decide))) ((way s).symm.trans taken)
  | ask _ h f way =>
    exact .event (fun s => .request (fun s => .aside ((s.answer_touches h _).mono (by decide))) s h) ((way s).symm.trans taken)
  | change _ h f way _ done => exact .event (fun s => .request (fun s => .handle done s h) s h) ((way s).symm.trans taken)
  | plant _ f way done => exact .event (fun s => .finished (done s)) ((way s).symm.trans taken)
  | timer _ due f way done =>
    refine .event (fun s => ?_) ((way s).symm.trans taken)
    split
    case isTrue now => exact .finished (done s now)
    case isFalse => exact .aside (.refl _ s)

/-! ### Owners after every step -/

theorem Allows.of_touches {i : Instr} {l : List Part} {s t : State} (k : Keeps s t) (h : Touches l s t)
    (hl : ∀ p ∈ .transit :: State.entitledParts, p ∉ l) : Allows i s t := (Governs.of_touches k h hl).allows i

theorem shape_allows (i : Instr) : Shape (Allows i) i := by
  cases i with
  | powerUp straps => exact .powerUp _
  | resetAssert moment => exact .resetAssert _
  | resetDeassert straps => exact .resetDeassert _
  | powerLoss moment => exact .powerLoss _
  | masterKeyLineChange closed => exact .keyLine closed
  | keyAsserted =>
    exact .timer _ _ _ (fun _ => rfl)
      (fun s _ => .of_touches s.assertKey_keeps s.assertKey_touches (by decide))
  | keyReleased =>
    exact .timer _ _ _ (fun _ => rfl)
      (fun s _ => .of_touches s.releaseKey_keeps s.releaseKey_touches (by decide))
  | portAFrameDiscarded src payload =>
    exact .quiet _ _ (fun _ => rfl) (fun s => (s.discardPortA_touches src payload).mono (by decide))
  | unknownKind h r => exact .unknown h r
  | beat h => exact .beat h
  | consoleSilenceTimeout st =>
    exact .timer _ (fun s => s.silenceDue st) _ (fun _ => rfl)
      (fun s _ => .of_touches (s.stationLost_keeps st) (s.stationLost_touches st) (by decide))
  | graceExpiry st =>
    exact .timer _ (fun s => s.graceDue st) _ (fun _ => rfl) (fun s _ => (s.graceEnds_governs st).allows _)
  | logon h badge rsv =>
    exact .change _ _ _ (fun _ => rfl) (fun s => s.takeLogon_unmoved _ _ _)
      (fun s => (s.takeLogon_governs _ badge rsv).allows _)
  | logoff h =>
    exact .change _ _ _ (fun _ => rfl) (fun s => s.takeLogoff_unmoved _) (fun s => (s.takeLogoff_governs _).allows _)
  | claim h a rsv =>
    exact .change _ _ _ (fun _ => rfl) (fun s => s.takeClaim_unmoved _ _ _)
      (fun s => s.takeClaim_allows h a rsv)
  | release h a rsv =>
    exact .change _ _ _ (fun _ => rfl) (fun s => s.takeRelease_unmoved _ _ _)
      (fun s => (s.takeRelease_governs _ a rsv).allows _)
  | ack h r rsv =>
    exact .change _ _ _ (fun _ => rfl) (fun s => s.takeAck_unmoved _ _ _)
      (fun s => .of_touches (s.takeAck_keeps _ r rsv) (s.takeAck_touches _ r rsv) (by decide))
  | silenceTop h r rsv =>
    exact .change _ _ _ (fun _ => rfl) (fun s => s.takeSilenceTop_unmoved _ _ _)
      (fun s => .of_touches (s.takeSilenceTop_keeps _ r rsv) (s.takeSilenceTop_touches _ r rsv) (by decide))
  | silenceAll h rsv =>
    exact .change _ _ _ (fun _ => rfl) (fun s => s.takeSilenceAll_unmoved _ _)
      (fun s => .of_touches (s.takeSilenceAll_keeps _ rsv) (s.takeSilenceAll_touches _ rsv) (by decide))
  | serviceOut h a rsv =>
    exact .change _ _ _ (fun _ => rfl) (fun s => s.takeServiceOut_unmoved _ _ _)
      (fun s => .of_touches (s.takeServiceOut_keeps _ a rsv) (s.takeServiceOut_touches _ a rsv) (by decide))
  | serviceIn h a rsv =>
    exact .change _ _ _ (fun _ => rfl) (fun s => s.takeServiceIn_unmoved _ _ _)
      (fun s => .of_touches (s.takeServiceIn_keeps _ a rsv) (s.takeServiceIn_touches _ a rsv) (by decide))
  | shelve h tag d r rsv =>
    exact .change _ _ _ (fun _ => rfl) (fun s => s.takeOverride_unmoved _ _ _ _ _ _)
      (fun s =>
        .of_touches (s.takeOverride_keeps .shelve _ tag d r rsv)
          (s.takeOverride_touches .shelve _ tag d r rsv) (by decide))
  | unshelve h tag rsv =>
    exact .change _ _ _ (fun _ => rfl) (fun s => s.takeEnding_unmoved _ _ _ _)
      (fun s => .of_touches (s.takeEnding_keeps .shelve _ tag rsv) (s.takeEnding_touches .shelve _ tag rsv) (by decide))
  | bypass h tag d r rsv =>
    exact .change _ _ _ (fun _ => rfl) (fun s => s.takeOverride_unmoved _ _ _ _ _ _)
      (fun s => .of_touches (s.takeOverride_keeps .bypass _ tag d r rsv) (s.takeBypass_touches _ tag d r rsv) (by decide))
  | unbypass h tag rsv =>
    exact .change _ _ _ (fun _ => rfl) (fun s => s.takeEnding_unmoved _ _ _ _)
      (fun s => .of_touches (s.takeEnding_keeps .bypass _ tag rsv) (s.takeEnding_touches .bypass _ tag rsv) (by decide))
  | overrideExpiry n =>
    exact .timer _ (fun s => s.overrideDue n) _ (fun _ => rfl)
      (fun s _ => .of_touches (s.overrideExpires_keeps n) (s.overrideExpires_touches n) (by decide))
  | command h tag act v rsv =>
    exact .change _ _ _ (fun _ => rfl) (fun s => s.takeCommand_unmoved _ _ _ _ _)
      (fun s => (s.takeCommand_governs _ tag act v rsv).allows _)
  | countersignAgree h k tag rsv =>
    exact .change _ _ _ (fun _ => rfl) (fun s => s.takeAgree_unmoved _ _ _ _)
      (fun s => (s.takeAgree_governs _ k tag rsv).allows _)
  | countersignDecline h k tag rsv =>
    exact .change _ _ _ (fun _ => rfl) (fun s => s.takeDecline_unmoved _ _ _ _)
      (fun s => (s.takeDecline_governs _ k tag rsv).allows _)
  | withdraw h k rsv =>
    exact .change _ _ _ (fun _ => rfl) (fun s => s.takeWithdraw_unmoved _ _ _)
      (fun s => (s.takeWithdraw_governs _ k rsv).allows _)
  | countersignWindowExpiry k =>
    exact .timer _ (fun s => s.windowDue k) _ (fun _ => rfl) (fun s due => (s.windowEnds_governs due).allows _)
  | replyDone k tag => exact .plant _ _ (fun _ => rfl) (fun s => (s.replyFrame_governs k tag 1 0 0).allows _)
  | replyRefused k tag code => exact .plant _ _ (fun _ => rfl) (fun s => (s.replyFrame_governs k tag 2 0 code).allows _)
  | replyBusy k tag => exact .plant _ _ (fun _ => rfl) (fun s => (s.replyFrame_governs k tag 3 0 0).allows _)
  | replyExtend k tag n => exact .plant _ _ (fun _ => rfl) (fun s => (s.replyFrame_governs k tag 4 0 n).allows _)
  | replyHoldOn k tag => exact .plant _ _ (fun _ => rfl) (fun s => (s.replyFrame_governs k tag 5 0 0).allows _)
  | reSend k =>
    exact .timer _ (fun s => s.resendDue k) _ (fun _ => rfl) (fun s _ => (s.resend_governs).allows _)
  | replyDeadlineExpiry k =>
    exact .timer _ (fun s => s.replyDeadlineDue k) _ (fun _ => rfl) (fun s _ => (s.replyMissing_governs k).allows _)
  | offer h a b rsv =>
    exact .change _ _ _ (fun _ => rfl) (fun s => s.takeOffer_unmoved _ _ _ _)
      (fun s => s.takeOffer_allows _ _ a b rsv)
  | review h a first count rsv =>
    exact .change _ _ _ (fun _ => rfl) (fun s => s.takeReview_unmoved _ _ _ _ _)
      (fun s => (s.takeReview_governs _ a first count rsv).allows _)
  | accept h a rsv =>
    exact .change _ _ _ (fun _ => rfl) (fun s => s.takeAccept_unmoved _ _ _)
      (fun s => s.takeAccept_allows h a rsv)
  | recallOffer h a rsv =>
    exact .change _ _ _ (fun _ => rfl) (fun s => s.takeRecall_unmoved _ _ _)
      (fun s => (s.takeRecall_governs _ a rsv).allows _)
  | handoverLapse a =>
    exact .timer _ (fun s => s.lapseDue a) _ (fun _ => rfl) (fun s _ => (s.closeSession_governs a .lapsed).allows _)
  | takeover h a rsv =>
    exact .change _ _ _ (fun _ => rfl) (fun s => s.takeTakeover_unmoved _ _ _)
      (fun s => s.takeTakeover_allows h a rsv)
  | queryUnitStatus h rsv => exact .ask _ _ _ (fun _ => rfl)
  | queryAreaStatus h a rsv => exact .ask _ _ _ (fun _ => rfl)
  | queryAlarmPage h a page f rsv => exact .ask _ _ _ (fun _ => rfl)
  | queryAlarmEntry h r rsv => exact .ask _ _ _ (fun _ => rfl)
  | queryTransitList h rsv => exact .ask _ _ _ (fun _ => rfl)
  | queryOverrideList h rsv => exact .ask _ _ _ (fun _ => rfl)
  | queryHandoverList h a rsv => exact .ask _ _ _ (fun _ => rfl)
  | queryStationStatus h st rsv => exact .ask _ _ _ (fun _ => rfl)
  | stationWrite h i r rsv =>
    exact .change _ _ _ (fun _ => rfl) (fun s => s.takeStationWrite_unmoved _ _ _ _)
      (fun s => (s.takeStationWrite_governs _ i r rsv).allows _)
  | rosterWrite h i r rsv =>
    exact .change _ _ _ (fun _ => rfl) (fun s => s.takeRosterWrite_unmoved _ _ _ _)
      (fun s => s.takeRosterWrite_allows _ _ i r rsv)
  | areaWrite h i r rsv =>
    exact .change _ _ _ (fun _ => rfl) (fun s => s.takeAreaWrite_unmoved _ _ _ _)
      (fun s => .of_touches (s.takeAreaWrite_keeps _ i r rsv) (s.takeAreaWrite_touches _ i r rsv) (by decide))
  | tagWrite h i r rsv =>
    exact .change _ _ _ (fun _ => rfl) (fun s => s.takeTagWrite_unmoved _ _ _ _)
      (fun s =>
        .of_touches (Keeps.of_touches (s.takeTagWrite_touches _ i r rsv) (by decide))
          (s.takeTagWrite_touches _ i r rsv) (by decide))
  | readRecord h table index rsv => exact .ask _ _ _ (fun _ => rfl)
  | store h => exact .store h
  | storeComplete matched => exact .storeDone matched
  | setClock h time rsv =>
    exact .change _ _ _ (fun _ => rfl) (fun s => s.takeSetClock_unmoved _ _ _)
      (fun s =>
        .of_touches (Keeps.of_touches (s.takeSetClock_touches _ time rsv) (by decide))
          (s.takeSetClock_touches _ time rsv) (by decide))
  | restart h =>
    exact .change _ _ _ (fun _ => rfl) (fun s => s.takeRestart_unmoved _) (fun s => s.takeRestart_allows _ _)
  | millTimeAdvance => exact .quiet _ _ (fun _ => rfl) (fun s => s.advanceMill_touches.mono (by decide))
  | plantFrameDiscarded payload =>
    exact .quiet _ _ (fun _ => rfl) (fun s => (s.discardPortB_touches payload).mono (by decide))
  | alarmNoticeRaise n =>
    exact .plant _ _ (fun _ => rfl)
      (fun s =>
        .of_touches (s.noticeFrame_keeps n.seq n.tag n.cond 1 _ 0 n.time)
          (s.noticeFrame_touches n.seq n.tag n.cond 1 _ 0 n.time) (by decide))
  | alarmNoticeReturn n =>
    exact .plant _ _ (fun _ => rfl)
      (fun s =>
        .of_touches (s.noticeFrame_keeps n.seq n.tag n.cond 2 _ 0 n.time)
          (s.noticeFrame_touches n.seq n.tag n.cond 2 _ 0 n.time) (by decide))
  | decayEvent a =>
    exact .timer _ (fun s => s.decayDue a) _ (fun _ => rfl)
      (fun s _ => .of_touches (Keeps.of_touches (s.decay_touches a) (by decide)) (s.decay_touches a) (by decide))
  | releaseTimerExpiry a =>
    exact .timer _ (fun s => s.releaseDue a) _ (fun _ => rfl)
      (fun s _ => .of_touches (s.releaseOldest_keeps a) (s.releaseOldest_touches a) (by decide))
  | stage1Expiry n =>
    exact .timer _ (fun s => s.deadlineDue n 1) _ (fun _ => rfl)
      (fun s _ => .of_touches (s.escalate_keeps n) (s.escalate_touches n) (by decide))
  | stage2Expiry n =>
    exact .timer _ (fun s => s.deadlineDue n 2) _ (fun _ => rfl)
      (fun s _ => .of_touches (s.fallOverdue_keeps n) (s.fallOverdue_touches n) (by decide))
  | plantBeat =>
    exact .plant _ _ (fun _ => rfl)
      (fun s => .of_touches s.serveLink_keeps s.serveLink_touches (by decide))
  | resyncEnd scope n =>
    exact .plant _ _ (fun _ => rfl)
      (fun s => Governs.allows (.after (.of_touches (State.takeResyncEnd_keeps _ scope n) (State.takeResyncEnd_touches _ scope n) (by decide))
        (.of_touches s.serveLink_keeps s.serveLink_touches (by decide))) _)
  | plantSilenceTimeout =>
    exact .timer _ _ _ (fun _ => rfl)
      (fun s _ => .of_touches s.enterDegraded_keeps s.enterDegraded_touches (by decide))
  | plantDegradedTimeout => exact .timer _ _ _ (fun _ => rfl) (fun s _ => (s.enterLost_governs).allows _)
  | plantStartTimeout => exact .timer _ _ _ (fun _ => rfl) (fun s _ => (s.enterLost_governs).allows _)
  | resyncTimerExpiry =>
    exact .timer _ _ _ (fun _ => rfl)
      (fun s _ => .of_touches s.resyncTimesOut_keeps s.resyncTimesOut_touches (by decide))
  | unitBeat => exact .quiet _ _ (fun _ => rfl) (fun s => s.unitBeat_touches.mono (by decide))
  | malformedContent c =>
    cases c with
    | notice seq tag cond transition flag rsv time =>
      exact .plant _ _ (fun _ => rfl)
        (fun s =>
        .of_touches (s.noticeFrame_keeps seq tag cond transition flag rsv time)
          (s.noticeFrame_touches seq tag cond transition flag rsv time) (by decide))
    | reply k tag outcome rsv arg =>
      exact .plant _ _ (fun _ => rfl) (fun s => (s.replyFrame_governs k tag outcome rsv arg).allows _)


/-- What goes on beside an operation reads nothing of owners. -/
theorem State.OwnersEntitled.aside {s t : State} (e : s.OwnersEntitled) (h : Touches asideParts s t) : t.OwnersEntitled :=
  State.ownersEntitled_iff.mpr ((State.ownersEntitled_iff.mp e).of_touches h (by decide) (.of_eq (h .handover (by decide))))

theorem exec_ownersEntitled {i : Instr} {s t : State} (e : s.OwnersEntitled) (taken : exec i s = .next t) :
    t.OwnersEntitled := by
  rcases (shape_allows i).comesTo taken with bare | ⟨u, v, before, rfl | done, after⟩
  · exact bare.ownersEntitled
  · exact (e.aside before).aside after
  · exact (done.entitled (e.aside before)).aside after

theorem Passing.aside {s u : State} (h : Touches asideParts s u) {a op : Nat} (p : Passing u a op) : Passing s a op :=
  Hands.passing (.of_eq (h .handover (by decide))) p

theorem MayTake.aside {i : Instr} {s u : State} (h : Touches asideParts s u) {a op : Nat} (p : MayTake i u a op) :
    MayTake i s a op := by
  have owner := h.ownerOf_eq (by decide) a
  have hand := h.lookHand_eq (by decide) a
  have logon := h.logonAt_eq (by decide)
  have kind := h.isSupervisorStation_eq (by decide)
  cases i with
  | claim _ _ _ => exact owner.symm.trans p
  | accept _ _ _ => simpa only [MayTake, hand, logon] using p
  | takeover _ _ _ => simpa only [MayTake, logon, kind] using p
  | _ => exact (show False from p).elim

/-- R32: who owns an area after a command owned it before, or was to be given it. -/
theorem exec_owner {i : Instr} {s t : State} (taken : exec i s = .next t) {a op st : Nat}
    (owned : t.ownerOf a = some (op, st)) : (∃ st', s.ownerOf a = some (op, st')) ∨ Passing s a op ∨ MayTake i s a op := by
  rcases (shape_allows i).comesTo taken with bare | ⟨u, v, before, rfl | done, after⟩
  · simp [State.ownerOf, bare.owner] at owned
  · rw [after.ownerOf_eq (by decide), before.ownerOf_eq (by decide)] at owned
    exact .inl ⟨st, owned⟩
  · rw [after.ownerOf_eq (by decide)] at owned
    rcases done.owners a op st owned with ⟨st', same⟩ | passing | may
    · exact .inl ⟨st', (before.ownerOf_eq (by decide) a).symm.trans same⟩
    · exact .inr (.inl (passing.aside before))
    · exact .inr (.inr (may.aside before))

end Sys2Proof.Machine

open Sys2Proof.Machine in
/-- Settles O5: the clock leaves what the owners need, and every command keeps it. -/
theorem ownersStayEntitled : Obligations.OwnersStayEntitled := by
  unfold Obligations.OwnersStayEntitled
  intro s t entitled stepped
  unfold step at stepped
  split at stepped
  · have passed : Touches asideParts s t := by
      rcases tick_cases stepped with rfl | rfl
      · exact (fresh_touches s).mono (by decide)
      · exact (elapse_touches s).mono (by decide) |> (fresh_touches s |>.mono (by decide)).trans
    exact entitled.aside passed
  · exact exec_ownersEntitled (entitled.aside ((setQueue_touches s _).mono (by decide))) stepped

open Sys2Proof.Machine in
/-- Settles O12: of those who may be given an area, the claimant is given only one that nobody owns. -/
theorem ownershipPassesOnlyByTransfer : Obligations.OwnershipPassesOnlyByTransfer := by
  unfold Obligations.OwnershipPassesOnlyByTransfer
  intro i s t a op st op' st' taken owned owned' other
  rcases exec_owner taken owned' with ⟨st1, same⟩ | quiescing | takingOver
  · rw [owned] at same
    cases same
    exact absurd rfl other
  · exact quiescing.elim .inl (fun h => .inr (.inr (.inl h)))
  · cases i with
    | claim _ _ _ => rw [MayTake, owned] at takingOver; simp at takingOver
    | accept h b rsv =>
      obtain ⟨rfl, rfl, x, offered⟩ := takingOver
      exact .inr (.inl ⟨h, x, rfl, offered⟩)
    | takeover h b rsv =>
      obtain ⟨rfl, rfl, given⟩ := takingOver
      exact .inr (.inr (.inr ⟨h, rfl, given⟩))
    | _ => exact (show False from takingOver).elim
end

section
/-! PROOFS. The clock (R187): which events join the queue. -/

namespace Sys2Proof.Machine

namespace State

theorem mem_stationNumbers {st : Nat} : st ∈ stationNumbers ↔ 1 ≤ st ∧ st ≤ 16 := by
  simp only [stationNumbers, List.mem_cons, List.not_mem_nil, or_false]
  omega

theorem mem_dueOf {α : Type} {t : Tbl α} {due : Nat → Bool} {event : Nat → Instr} {i : Instr}
    (listed : ∀ k, due k = true → (t.look k).isSome = true) : i ∈ dueOf t due event ↔ ∃ k, due k = true ∧ event k = i := by
  simp only [dueOf, List.mem_map, List.mem_filter]
  constructor
  · rintro ⟨k, ⟨-, now⟩, rfl⟩; exact ⟨k, now, rfl⟩
  · rintro ⟨k, now, rfl⟩
    obtain ⟨x, look⟩ := Option.isSome_iff_exists.mp (listed k now)
    exact ⟨k, ⟨List.mem_map_of_mem (f := Prod.fst) (Tbl.mem_of_look look), now⟩, rfl⟩

variable (s : State)

/-! ### What is due is listed -/

theorem listed_of_ticketWhere {k : Nat} {p : Transit → Bool} (h : s.ticketWhere k p = true) :
    (s.gate.transit.look k).isSome = true := by
  cases look : s.gate.transit.look k <;> simp_all [ticketWhere]

theorem listed_of_graceDue {st : Nat} (h : s.graceDue st = true) : (s.auth.grace.look st).isSome = true := by
  cases look : s.auth.grace.look st <;> simp_all [graceDue]

theorem listed_of_releaseDue {a : Nat} (h : s.releaseDue a = true) : (s.flood.release.look a).isSome = true := by
  cases look : s.flood.release.look a <;> simp_all [releaseDue]

theorem listed_of_deadlineDue {n stage : Nat} (h : s.deadlineDue n stage = true) : (s.ann.recs.look n).isSome = true := by
  cases look : s.ann.recs.look n <;> simp_all [deadlineDue, annRec, Tbl.getD]

theorem listed_of_overrideDue {n : Nat} (h : s.overrideDue n = true) : (s.overrides.look n).isSome = true := by
  cases look : s.overrides.look n <;> simp_all [overrideDue]

theorem listed_of_lapseDue {a : Nat} (h : s.lapseDue a = true) : (s.hand.look a).isSome = true := by
  cases look : s.hand.look a <;> simp_all [lapseDue]

/-! ### The events of a moment -/

theorem mem_fineEvents (i : Instr) : i ∈ s.fineEvents ↔
    (s.assertDue = true ∧ i = .keyAsserted) ∨ (s.releaseKeyDue = true ∧ i = .keyReleased) ∨
      (∃ k, s.resendDue k = true ∧ .reSend k = i) ∨ (∃ k, s.replyDeadlineDue k = true ∧ .replyDeadlineExpiry k = i) ∨
      ∃ k, s.windowDue k = true ∧ .countersignWindowExpiry k = i := by
  simp only [fineEvents, List.mem_append, List.mem_ite_nil_right, List.mem_singleton, or_assoc,
    mem_dueOf (due := s.resendDue) (fun _ => s.listed_of_ticketWhere),
    mem_dueOf (due := s.replyDeadlineDue) (fun _ => s.listed_of_ticketWhere),
    mem_dueOf (due := s.windowDue) (fun _ => s.listed_of_ticketWhere)]

theorem mem_secondEvents (i : Instr) : i ∈ s.secondEvents ↔
    i = .millTimeAdvance ∨ i = .unitBeat ∨ (∃ a, (1 ≤ a ∧ a ≤ 12) ∧ .decayEvent a = i) ∨
      (∃ st, ((1 ≤ st ∧ st ≤ 16) ∧ s.silenceDue st = true) ∧ .consoleSilenceTimeout st = i) ∨
      (∃ st, s.graceDue st = true ∧ .graceExpiry st = i) ∨ (s.resyncTimerDue = true ∧ i = .resyncTimerExpiry) ∨
      (s.plantStartDue = true ∧ i = .plantStartTimeout) ∨ (s.plantDegradedDue = true ∧ i = .plantDegradedTimeout) ∨
      (s.plantSilenceDue = true ∧ i = .plantSilenceTimeout) ∨ (∃ a, s.releaseDue a = true ∧ .releaseTimerExpiry a = i) ∨
      (∃ n, s.deadlineDue n 1 = true ∧ .stage1Expiry n = i) ∨ (∃ n, s.deadlineDue n 2 = true ∧ .stage2Expiry n = i) ∨
      (∃ n, s.overrideDue n = true ∧ .overrideExpiry n = i) ∨ ∃ a, s.lapseDue a = true ∧ .handoverLapse a = i := by
  simp only [secondEvents, List.mem_append, List.mem_ite_nil_right, List.mem_cons, List.not_mem_nil,
    or_false, or_assoc, List.mem_map, List.mem_filter, mem_areaNumbers, mem_stationNumbers,
    mem_dueOf (fun _ => s.listed_of_graceDue), mem_dueOf (fun _ => s.listed_of_releaseDue),
    mem_dueOf (fun _ => s.listed_of_deadlineDue), mem_dueOf (fun _ => s.listed_of_overrideDue),
    mem_dueOf (fun _ => s.listed_of_lapseDue)]

theorem mem_dueEvents (i : Instr) : i ∈ s.dueEvents ↔ i ∈ s.fineEvents ∨ s.time.unit % 100 = 0 ∧ i ∈ s.secondEvents := by
  rw [dueEvents, List.mem_append, List.mem_ite_nil_right, onSecond, decide_eq_true_eq]
  rfl

theorem mem_dueEvents_of_fine {i : Instr} (other : i ∉ s.secondEvents) : i ∈ s.dueEvents ↔ i ∈ s.fineEvents := by
  simp [mem_dueEvents, other]

theorem mem_dueEvents_of_second {i : Instr} (other : i ∉ s.fineEvents) :
    i ∈ s.dueEvents ↔ s.time.unit % 100 = 0 ∧ i ∈ s.secondEvents := by
  simp [mem_dueEvents, other]

end State

end Sys2Proof.Machine

open Sys2Proof.Machine State in
/-- Settles O2: of the two lists of due events, each sort of event is in one only. -/
theorem clockRunsOnEmptyQueue : Obligations.ClockRunsOnEmptyQueue := by
  unfold Obligations.ClockRunsOnEmptyQueue
  intro s idle
  have ticks : step s = s.tick := by simp [step, idle]
  refine ⟨fun off => by simp [ticks, tick, off], fun on spent => ?_, fun on unspent => ?_⟩
  · rw [ticks, tick, if_neg (by simp [on]), if_pos (by exact spent)]
  · refine ⟨s.elapse, ?_, rfl, rfl, elapse_touches s, ?_⟩
    · rw [ticks, tick, if_neg (by simp [on]), if_neg (by exact Nat.not_le.mpr unspent)]
    · have due (i : Sys2Proof.Instr) : i ∈ s.elapse.pending ↔ i ∈ s.elapse.dueEvents := by
        have : s.elapse.pending = s.pending ++ s.elapse.dueEvents := rfl
        rw [this, idle, List.nil_append]
      simp only [due]
      refine ⟨?_, ?_, fun _ => ?_, fun _ => ?_, fun _ => ?_, ?_, ?_, fun _ => ?_, fun _ => ?_, fun _ => ?_, ?_, ?_, ?_, ?_,
        fun _ => ?_, fun _ => ?_, fun _ => ?_, fun _ => ?_, fun _ => ?_⟩
      · rw [mem_dueEvents_of_fine _ (by simp [mem_secondEvents]), mem_fineEvents]; simp
      · rw [mem_dueEvents_of_fine _ (by simp [mem_secondEvents]), mem_fineEvents]; simp
      · rw [mem_dueEvents_of_fine _ (by simp [mem_secondEvents]), mem_fineEvents]; simp
      · rw [mem_dueEvents_of_fine _ (by simp [mem_secondEvents]), mem_fineEvents]; simp
      · rw [mem_dueEvents_of_fine _ (by simp [mem_secondEvents]), mem_fineEvents]; simp
      all_goals rw [mem_dueEvents_of_second _ (by simp [mem_fineEvents]), mem_secondEvents]; simp [and_assoc]
end

section
/-! PROOFS. The messages of an event: what has been said stays said, and what the end of the event sends (R25, R62, R92). -/

namespace Sys2Proof.Machine

namespace State

variable (s : State)

/-! ### What has been said -/

/-- The messages that the event has sent or has ready to send. -/
def said : List Out := s.sent ++ s.ev.pre ++ s.ev.post

theorem mem_saidOf {k : MsgKind} {o : Out} : o ∈ s.saidOf k ↔ o ∈ s.said ∧ o.kind = k := by
  rw [saidOf, said, List.mem_filter, decide_eq_true_eq]

/-- Nothing that `s` has said is lost in `t`. -/
def Says (s t : State) : Prop := ∀ o ∈ s.said, o ∈ t.said

theorem Says.refl : Says s s := fun _ h => h

variable {s} in
theorem Says.trans {t u : State} (h : Says s t) (k : Says t u) : Says s u := fun o ho => k o (h o ho)

variable {s} in
theorem Says.foldl {α : Type} {f : State → α → State} (h : ∀ s x, Says s (f s x)) (xs : List α) : Says s (xs.foldl f s) := by
  induction xs generalizing s with
  | nil => exact .refl s
  | cons x xs ih => exact (h s x).trans ih

theorem said_say (os : List Out) {o : Out} : o ∈ (s.say os).said ↔ o ∈ s.said ∨ o ∈ os := by
  simp only [said, say, List.mem_append]; tauto

theorem said_sayAfter (os : List Out) {o : Out} : o ∈ (s.sayAfter os).said ↔ o ∈ s.said ∨ o ∈ os := by
  simp only [said, sayAfter, List.mem_append]; tauto

theorem say_says (os : List Out) : Says s (s.say os) := fun _ h => (s.said_say os).mpr (.inl h)

theorem sayAfter_says (os : List Out) : Says s (s.sayAfter os) := fun _ h => (s.said_sayAfter os).mpr (.inl h)

/-- Where nothing is half done, what is said is sent. -/
theorem said_of_quiet {s : State} (quiet : s.ev = EvBuf.empty) : s.said = s.sent := by
  simp [said, quiet, EvBuf.empty]

end State

/-- Where a part of the event says nothing of a sort, what was said of it stands. -/
theorem Touches.said_of {l : List Part} {s t : State} (h : Touches l s t) {o : Out} (hl : Part.said o.kind ∉ l)
    (ho : o ∈ s.said) : o ∈ t.said := by
  have same : t.saidOf o.kind = s.saidOf o.kind := h _ hl
  exact (t.mem_saidOf.mp (same ▸ s.mem_saidOf.mpr ⟨ho, rfl⟩)).1

theorem Touches.says {l : List Part} {s t : State} (h : Touches l s t) (hl : ∀ k, Part.said k ∉ l) : State.Says s t :=
  fun o ho => h.said_of (hl o.kind) ho

namespace State

variable (s : State)

/-! ### What the end of an event sends -/

/-- Only a NOTICE FLOOD is rewritten as it leaves (R67). -/
theorem mem_sent_finish {o : Out} (ho : o ∈ s.said) (plain : s.withLoad o = o) : o ∈ s.finish.sent := by
  simp only [said, List.mem_append] at ho
  simp only [finish, List.mem_append]
  rcases ho with (sent | pre) | post
  · simp [sent]
  · have : o ∈ s.ev.pre.map s.withLoad := plain ▸ List.mem_map_of_mem pre
    simp [this]
  · have : o ∈ s.ev.post.map s.withLoad := plain ▸ List.mem_map_of_mem post
    simp [this]

/-- R67: NOTICE FLOOD leaves with the load that the event has come to. -/
theorem flood_mem_sent_finish {st a x : Nat} {addr : LinkAddr} {flag : Bool}
    (ho : .console st addr (.notice (.flood a flag x)) ∈ s.ev.pre) :
    .console st addr (.notice (.flood a flag (s.load a))) ∈ s.finish.sent := by
  have := List.mem_map_of_mem (f := s.withLoad) ho
  simp only [withLoad] at this
  simp [finish, this]

theorem withLoad_notice (st : Nat) {n : Notice} (other : ∀ a f l, n ≠ .flood a f l) :
    s.withLoad (s.outTo st (.notice n)) = s.outTo st (.notice n) := by
  unfold withLoad outTo
  split
  case h_1 same => cases same; exact absurd rfl (other _ _ _)
  · rfl

theorem mem_sent_answer {h : Hdr} {a : Ans} {o : Out} (ho : o ∈ s.sent) : o ∈ (s.answer h a).sent := by
  rw [answer_sent]
  exact List.mem_append_left _ ho

/-- R25: a NOTICE to every UP station reaches each. -/
theorem mem_toUp {st : Nat} (low : 1 ≤ st) (high : st ≤ 16) (up : s.isUp st = true) (n : Notice) :
    s.outTo st (.notice n) ∈ s.toUp n :=
  List.mem_map_of_mem (List.mem_filter.mpr ⟨mem_stationNumbers.mpr ⟨low, high⟩, up⟩)

theorem mem_heardBy {st : Nat} (present : s.link st ≠ .absent) (m : ConsoleMsg) : s.outTo st m ∈ s.heardBy st m := by
  simp [heardBy, present]

theorem mem_toBoth_left {a : Nat} (present : s.link a ≠ .absent) (b : Nat) (n : Notice) :
    s.outTo a (.notice n) ∈ s.toBoth a b n := by
  simp [toBoth, mem_heardBy s present]

theorem mem_toBoth_right {b : Nat} (present : s.link b ≠ .absent) (a : Nat) (n : Notice) :
    s.outTo b (.notice n) ∈ s.toBoth a b n := by
  by_cases same : b = a
  · subst same; exact s.mem_toBoth_left present b n
  · simp [toBoth, same, mem_heardBy s present]

/-! ### ATTENTION -/

theorem present_force (st n : Nat) : (s.present st n).ev.force = s.ev.force := by
  unfold present
  split
  · rfl
  · split <;> rfl

theorem unstack_force (st n : Nat) : (s.unstack st n).ev.force = s.ev.force := by
  unfold unstack
  split <;> rfl

theorem foldl_force {α : Type} {f : State → α → State} (h : ∀ s x, (f s x).ev.force = s.ev.force) (xs : List α) :
    (xs.foldl f s).ev.force = s.ev.force := by
  induction xs generalizing s with
  | nil => rfl
  | cons x xs ih => exact (ih _).trans (h s x)

theorem rerouteAt_force (news : List (Nat × NSet)) (st : Nat) : (s.rerouteAt news st).ev.force = s.ev.force := by
  have joins := foldl_force (f := fun s (p : Nat × Entry) => s.present st p.1) (h := fun s p => s.present_force st p.1)
  have leaves := foldl_force (f := fun s (p : Nat × NSet) => s.leaveRoute st p.1) (h := fun s p => s.unstack_force st p.1)
  exact (joins _ _).trans (leaves s _)

theorem reroute_force : s.reroute.ev.force = s.ev.force := by
  have noted := foldl_force (f := fun s (p : Nat × NSet) => s.updAnnRec p.1 (fun a => { a with route := p.2 }))
    (h := fun _ _ => rfl)
  exact (noted _ _).trans (foldl_force _ (fun s st => s.rerouteAt_force _ st) _)

theorem refillAll_force : s.refillAll.ev.force = s.ev.force := by
  refine foldl_force _ (fun s st => ?_) _
  unfold refillAt
  split
  · rfl
  · split <;> rfl

theorem tone?_finish (st : Nat) : s.finish.tone? st = s.reroute.refillAll.tone? st := by
  have touched : Touches [.recs, .attnStacks] s s.reroute.refillAll :=
    .after (refillAll_touches _) (by decide) s.reroute_touches
  have top : s.finish.top? st = s.reroute.refillAll.top? st := rfl
  unfold tone?
  rw [top]
  split
  · rfl
  · rw [touched.entry?_eq (by decide), touched.refOf_eq (by decide)]
    rfl

/-- R92: a station that is to be sent ATTENTION is sent the tone that the event leaves it. -/
theorem attention_finish {st : Nat} (low : 1 ≤ st) (high : st ≤ 16) (up : s.isUp st = true) (forced : st ∈ s.ev.force) :
    s.outTo st (.attention (s.finish.tone? st)) ∈ s.finish.sent := by
  have touched : Touches [.recs, .attnStacks] s s.reroute.refillAll :=
    .after (refillAll_touches _) (by decide) s.reroute_touches
  have due : s.reroute.refillAll.attentionDue st = true := by
    simp [attentionDue, touched.isUp_eq (by decide), up, refillAll_force, reroute_force, forced]
  have listed : s.outTo st (.attention (s.finish.tone? st)) ∈ s.reroute.refillAll.attentions := by
    rw [tone?_finish, ← touched.outTo_eq (by decide)]
    exact List.mem_map_of_mem (List.mem_filter.mpr ⟨mem_stationNumbers.mpr ⟨low, high⟩, due⟩)
  simp only [finish, List.mem_append]
  exact .inl (.inl (.inr listed))

end State

end Sys2Proof.Machine
end

section
/-! PROOFS. The arrival of an accepted frame at Port A (R21, R23, R24, R183). -/

namespace Sys2Proof.Machine

namespace State

variable (s : State)

/-- R21: an accepted frame renews the last-heard time. -/
def hearing (st : Nat) : State := { s with console := { s.console with heard := s.console.heard.put st s.now } }

theorem hearing_touches (st : Nat) : Touches [.heard] s (s.hearing st) := by
  intro p hp
  cases p with
  | heard => exact absurd (by decide) hp
  | keyLine => exact ⟨rfl, rfl⟩
  | _ => rfl

theorem serveWatch_of_up {st : Nat} (up : s.link st = .up) : s.serveWatch st = s.hearing st := by
  have : (s.hearing st).link st = .up := up
  unfold serveWatch
  dsimp only
  split <;> simp_all [hearing]

theorem serveWatch_of_absent {st : Nat} (absent : s.link st = .absent) :
    s.serveWatch st = (((s.hearing st).setLink st .up).coverScan).finish := by
  have : (s.hearing st).link st = .absent := absent
  unfold serveWatch
  dsimp only
  split <;> simp_all [hearing]

theorem serveWatch_of_lost {st : Nat} (lost : s.link st = .lost) :
    s.serveWatch st = ((s.hearing st).stationReturns st).finish := by
  have : (s.hearing st).link st = .lost := lost
  unfold serveWatch
  dsimp only
  split <;> simp_all [hearing]

/-- R23: the link state of a station that returns. -/
theorem stationReturns_touches_up (st : Nat) : Touches (.grace :: coverParts) (s.setLink st .up) (s.stationReturns st) := by
  have lost : Touches (.grace :: coverParts) (s.setLink st .up) (((s.setLink st .up).stopGrace st).followLost s.lostSet) :=
    .after (followLost_touches _ _) (by decide) ((stopGrace_touches _ st).mono (by decide))
  unfold stationReturns
  dsimp only
  refine .after (forceAttention_touches _ st) (by decide) (.after (say_notices _ _ ?_) (by decide)
    (.after (coverScan_touches _) (by decide) lost))
  intro o ho
  simp only [List.mem_singleton] at ho
  subst ho
  rfl

theorem link_serveWatch (st st' : Nat) : (s.serveWatch st).link st' = if st' = st then .up else s.link st' := by
  have heard (l : LinkState) : ((s.hearing st).setLink st l).link st' = if st' = st then l else s.link st' := link_setLink _ _ _ _
  cases link : s.link st with
  | up =>
    rw [serveWatch_of_up s link, (s.hearing_touches st).link_eq (by decide)]
    split
    · subst_vars; exact link
    · rfl
  | absent =>
    rw [serveWatch_of_absent s link, (finish_touches _).link_eq (by decide), (coverScan_touches _).link_eq (by decide), heard]
  | lost =>
    rw [serveWatch_of_lost s link, (finish_touches _).link_eq (by decide),
      (stationReturns_touches_up _ st).link_eq (by decide), heard]

/-- What the watch touches once the frame has been heard (R23). -/
theorem serveWatch_touches_hearing (st : Nat) :
    Touches ([.link, .grace] ++ coverParts ++ endParts) (s.hearing st) (s.serveWatch st) := by
  cases link : s.link st with
  | up => rw [serveWatch_of_up s link]; exact .refl _ _
  | absent =>
    rw [serveWatch_of_absent s link]
    exact .after (finish_touches _) (by decide) (.after (coverScan_touches _) (by decide)
      ((setLink_touches _ st .up).mono (by decide)))
  | lost =>
    rw [serveWatch_of_lost s link]
    exact .after (finish_touches _) (by decide) (.after (stationReturns_touches_up _ st) (by decide)
      ((setLink_touches _ st .up).mono (by decide)))

theorem heard_serveWatch (st : Nat) : (s.serveWatch st).console.heard.look st = some s.now := by
  rw [((s.serveWatch_touches_hearing st) .heard (by decide) : _ = _)]
  exact Tbl.look_put_self _ _ _

theorem serveRestarted_of_pending {st : Nat} (pending : st ∈ s.console.restartPending) :
    (s.serveRestarted st).sent = s.sent ++ [s.outTo st (.notice (.restarted s.time.mill s.time.clockUnset))] := by
  simp [serveRestarted, pending]

theorem serveRestarted_of_not_pending {st : Nat} (none_ : st ∉ s.console.restartPending) : s.serveRestarted st = s := by
  simp [serveRestarted, none_]

theorem restartPending_serveRestarted (st : Nat) : st ∉ (s.serveRestarted st).console.restartPending := by
  unfold serveRestarted
  split
  · simp [NSet.mem_del]
  · assumption

theorem mem_sent_serveRestarted {st : Nat} {o : Out} (ho : o ∈ s.sent) : o ∈ (s.serveRestarted st).sent := by
  unfold serveRestarted
  split
  · exact List.mem_append_left _ ho
  · exact ho

theorem tone?_serveRestarted (st st' : Nat) : (s.serveRestarted st).tone? st' = s.tone? st' := by
  unfold serveRestarted
  split <;> rfl

theorem forceAttention_force (st : Nat) : st ∈ (s.forceAttention st).ev.force := by
  simp [forceAttention, NSet.mem_ins]

theorem grace_stationReturns (st : Nat) : (s.stationReturns st).auth.grace.look st = none := by
  unfold stationReturns
  dsimp only
  rw [(forceAttention_touches _ st .grace (by decide) : _ = _)]
  have scanned := coverScan_touches (((s.setLink st .up).stopGrace st).followLost s.lostSet)
  have told := followLost_touches ((s.setLink st .up).stopGrace st) s.lostSet
  have same : (((s.setLink st .up).stopGrace st).followLost s.lostSet).coverScan.auth.grace = s.auth.grace.del st :=
    (scanned .grace (by decide)).trans (told .grace (by decide))
  exact (congrArg (Tbl.look · st) same).trans (Tbl.look_del_self _ _)

/-- R23: what the return of a LOST station sends it. -/
theorem serveWatch_of_lost_sent {st : Nat} (low : 1 ≤ st) (high : st ≤ 16) (lost : s.link st = .lost) :
    s.outTo st (.notice (s.resumeNotice st)) ∈ (s.serveWatch st).sent ∧
      s.outTo st (.attention ((s.serveWatch st).tone? st)) ∈ (s.serveWatch st).sent := by
  have up : (s.serveWatch st).isUp st = true := by simp [isUp, link_serveWatch]
  rw [serveWatch_of_lost s lost] at up ⊢
  have arrived : Touches (.heard :: .link :: .grace :: coverParts) s ((s.hearing st).stationReturns st) :=
    .after (stationReturns_touches_up _ st) (by decide) (.after (setLink_touches _ st .up) (by decide)
      ((s.hearing_touches st).mono (by decide)))
  have upBefore : ((s.hearing st).stationReturns st).isUp st = true := by
    rwa [(finish_touches _).isUp_eq (by decide)] at up
  refine ⟨mem_sent_finish _ ?_ ?_, ?_⟩
  · have before : Touches (.heard :: .link :: .grace :: sysParts) s
        ((((s.hearing st).setLink st .up).stopGrace st).followLost (s.hearing st).lostSet) :=
      .after (followLost_touches _ _) (by decide) (.after (stopGrace_touches _ st) (by decide)
        (.after (setLink_touches _ st .up) (by decide) ((s.hearing_touches st).mono (by decide))))
    have notice : ((((s.hearing st).setLink st .up).stopGrace st).followLost (s.hearing st).lostSet).resumeNotice st =
        s.resumeNotice st := by
      simp only [resumeNotice, areasOf, before.logonAt_eq (by decide), before.badgeOf_eq (by decide),
        before.ownerOf_eq (by decide)]
    refine (forceAttention_touches _ st).says (by simp) _ ((said_say _ _).mpr (.inr ?_))
    rw [notice, before.outTo_eq (by decide)]
    exact List.mem_singleton_self _
  · rw [← arrived.outTo_eq (by decide)]
    refine withLoad_notice _ st (fun a f l => ?_)
    unfold resumeNotice
    split <;> simp
  · rw [← arrived.outTo_eq (by decide)]
    exact attention_finish _ low high upBefore (by
      unfold stationReturns
      exact forceAttention_force _ st)

end State

end Sys2Proof.Machine

open Sys2Proof.Machine State in
/-- Settles O13: a BEAT does what the arrival of its frame does. -/
theorem acceptedFrameArrives : Obligations.AcceptedFrameArrives := by
  unfold Obligations.AcceptedFrameArrives
  intro s h accepted
  obtain ⟨on, low, high, addr⟩ := id accepted
  refine ⟨arrived s h, exec_beat accepted, rfl, ?_⟩
  obtain ⟨r, present, same⟩ := Option.map_eq_some_iff.mp addr
  have counted := s.fresh.countA_touches (fun c => { c with accepted := bump c.accepted })
  have touched := arrived_touches s h
  generalize counting : s.fresh.countA (fun c => { c with accepted := bump c.accepted }) = u at counted
  have arrival : arrived s h = (u.serveWatch h.station).serveRestarted h.station := by rw [← counting]; rfl
  have watched : Touches ([.heard, .link, .grace] ++ coverParts ++ endParts) u (u.serveWatch h.station) :=
    .after (u.serveWatch_touches_hearing h.station) (by decide) ((u.hearing_touches h.station).mono (by decide))
  have out (m : ConsoleMsg) : u.outTo h.station m = .console h.station h.src m := by
    have : u.stationRec? h.station = some r := (counted.stationRec?_eq (by decide) _).trans present
    simp [outTo, this, same]
  have restarted : Touches [.restartPending, .said .notice] (u.serveWatch h.station) (arrived s h) :=
    arrival ▸ serveRestarted_touches _ _
  have link (st : Nat) : (arrived s h).link st = if st = h.station then .up else s.link st := by
    rw [restarted.link_eq (by decide), link_serveWatch, counted.link_eq (by decide)]
    rfl
  refine ⟨by simp [isUp, link], fun st other => by simp [link, other], ?_, ?_, ?_, touched, fun up calm => ?_, fun pending => ?_,
    fun lost => ?_⟩
  · rw [(restarted .heard (by decide) : _ = _), heard_serveWatch, counted.now_eq (by decide)]
    rfl
  · rw [arrival]
    exact restartPending_serveRestarted _ _
  · rw [(restarted .countersA (by decide) : _ = _), (watched .countersA (by decide) : _ = _), ← counting]
    rfl
  · have up : u.link h.station = .up := (counted.link_eq (by decide) _).trans (decide_eq_true_eq.mp up)
    have calm : h.station ∉ (u.serveWatch h.station).console.restartPending := by
      rwa [(watched .restartPending (by decide) : _ = _), (counted .restartPending (by decide) : _ = _)]
    have still : arrived s h = u.hearing h.station := by
      rw [arrival, serveRestarted_of_not_pending _ calm, serveWatch_of_up u up]
    rw [still]
    exact ⟨counting ▸ rfl, .after (u.hearing_touches _) (by decide) (counted.mono (by decide))⟩
  · have pending : h.station ∈ (u.serveWatch h.station).console.restartPending := by
      rwa [(watched .restartPending (by decide) : _ = _), (counted .restartPending (by decide) : _ = _)]
    rw [arrival, serveRestarted_of_pending _ pending, watched.outTo_eq (by decide), out, watched.mill_eq (by decide),
      counted.mill_eq (by decide), (watched .clockUnset (by decide) : _ = _), (counted .clockUnset (by decide) : _ = _)]
    exact List.getLast?_concat
  · have lost : u.link h.station = .lost := (counted.link_eq (by decide) _).trans lost
    obtain ⟨resumed, attended⟩ := serveWatch_of_lost_sent u low high lost
    have notice : u.resumeNotice h.station = s.resumeNotice h.station := by
      simp only [resumeNotice, areasOf, counted.logonAt_eq (by decide), counted.badgeOf_eq (by decide),
        counted.ownerOf_eq (by decide)]
      rfl
    refine ⟨?_, ?_, ?_⟩
    · rw [(restarted .grace (by decide) : _ = _), serveWatch_of_lost u lost, (finish_touches _ .grace (by decide) : _ = _)]
      exact grace_stationReturns _ _
    · rw [arrival, ← notice, ← out]
      exact mem_sent_serveRestarted _ resumed
    · rw [arrival, tone?_serveRestarted, ← out]
      exact mem_sent_serveRestarted _ attended
end

section
/-! PROOFS. Requests that only read, and requests that are no request the unit knows (R184, R185, R16). -/

namespace Sys2Proof.Machine

/-- A request that is answered and changes nothing. -/
def JustAnswered (i : Instr) (s : State) (h : Hdr) (a : Ans) : Prop :=
  ∃ t, exec i s = .next t ∧ Answered t h a ∧ Touches [.said .answer] (arrived s h) t

theorem justAnswered {i : Instr} {s : State} {h : Hdr} {a : Ans} (done : exec i s = .next ((arrived s h).answer h a)) :
    JustAnswered i s h a :=
  ⟨_, done, answered_answer _ h a, State.answer_touches _ h a⟩

theorem justAnswered_of_ask {i : Instr} {s : State} {h : Hdr} (taken : Taken s h) {f : State → Ans}
    (asks : exec i s = askEvent h f s) : JustAnswered i s h (f (arrived s h)) :=
  justAnswered (asks.trans (askEvent_of_taken taken f))

/-- R184: the header's reserved field is tested before the request is looked at. -/
theorem justAnswered_of_reserved {i : Instr} {s : State} {h : Hdr} (accepted : Accepted s h) (rsv : h.rsv ≠ 0)
    (header : requestHeader? i = some h) (noBeat : i ≠ .beat h) (known : ∀ c, i ≠ .unknownKind h (.kind c)) :
    JustAnswered i s h (ans .reserved) := by
  have reserved (f : State → State) : event (fun s => s.request h f) s = .next ((arrived s h).answer h (ans .reserved)) :=
    (event_of_running accepted.1 _).trans (congrArg _ (request_of_reserved accepted rsv f))
  refine justAnswered ?_
  cases requestShape_of_header header with
  | beat => exact absurd rfl noBeat
  | unknown r =>
    cases r with
    | kind c => exact absurd rfl (known c)
    | _ => exact reserved _
  | ask _ f shape => exact (shape s).trans (reserved _)
  | change _ f shape _ => exact (shape s).trans (reserved _)
  | store => exact reserved _

namespace State

variable {s : State}

/-- R185: a query with its arguments in range is answered where somebody is logged on. -/
theorem ask_of_logged {st : Nat} (logged : (s.logonAt st).isSome = true) (result : Ans) :
    s.ask st 0 none result = result := by
  obtain ⟨op, logged⟩ := Option.isSome_iff_exists.mp logged
  simp [ask, logged]

theorem outside_of_mem {lo hi n : Nat} (low : lo ≤ n) (high : n ≤ hi) : outside lo hi n = none := by
  simp only [outside]
  rw [if_neg (by omega)]

end State

end Sys2Proof.Machine

open Sys2Proof.Machine State in
/-- Settles O15: each such request is answered against the state its frame has left. -/
theorem unknownRequestIsRefused : Obligations.UnknownRequestIsRefused := by
  unfold Obligations.UnknownRequestIsRefused
  intro s h accepted
  refine ⟨fun c => justAnswered (exec_unknownKind accepted c), fun rsv i header noBeat known =>
    justAnswered_of_reserved accepted rsv header noBeat known, fun unreserved => ?_⟩
  have odd {r : Sys2Proof.OddRequest} (known : ∀ c, r ≠ .kind c) {a : Ans} (answer : (arrived s h).oddAnswer h r = a) :
      JustAnswered (.unknownKind h r) s h a :=
    answer ▸ justAnswered (exec_unknownSelector ⟨accepted, unreserved⟩ known)
  refine ⟨fun m r rsv => odd (by simp) rfl, fun a x rsv low high => odd (by simp) ?_, fun k g d low high tag => odd (by simp) ?_,
    fun c => odd (by simp) rfl, fun c x entitled idle => odd (by simp) ?_⟩
  · rw [oddAnswer, if_neg (by omega)]
  · rw [oddAnswer, if_neg (by simp), if_neg (by omega)]
  · have touched := arrived_touches s h
    have entitled : (arrived s h).entitled h.station = true := by
      rw [touched.entitled_eq (by decide) (by decide) (by decide) (by decide)]
      exact entitled
    have idle : (arrived s h).store.job = none := (touched .storeJob (by decide)).trans idle
    simp [oddAnswer, writeFault?, entitled, idle]

open Sys2Proof.Machine State in
/-- Settles O16: of what a query shows, the arrival of its own frame changes only what the statement reads after it. -/
theorem queriesAnswerAndChangeNothing : Obligations.QueriesAnswerAndChangeNothing := by
  unfold Obligations.QueriesAnswerAndChangeNothing
  intro s h taken
  have touched := arrived_touches s h
  refine ⟨justAnswered_of_ask (f := fun s => s.askUnitStatus 0) taken rfl, fun table index p entitled found => ?_,
    fun logged => ?_⟩
  · have asked := justAnswered_of_ask (f := fun s => s.askRecord h.station table index 0) (i := .readRecord h table index 0)
      taken rfl
    have entitled : (arrived s h).entitled h.station = true := by
      rw [touched.entitled_eq (by decide) (by decide) (by decide) (by decide)]
      exact entitled
    have found : (arrived s h).recordAt table index = some p := by
      simp only [recordAt, touched.stationRec?_eq (by decide), touched.rosterRec?_eq (by decide),
        touched.areaRec_eq (by decide), touched.tagRec?_eq (by decide)]
      exact found
    have answer : (arrived s h).askRecord h.station table index 0 = ⟨.done, 0, p⟩ := by simp [askRecord, entitled, found]
    exact answer ▸ asked
  · have logged : ((arrived s h).logonAt h.station).isSome = true := by
      rw [touched.logonAt_eq (by decide)]
      exact logged
    have result {i : Sys2Proof.Instr} {f : State → Ans} {p : Payload} (asks : exec i s = askEvent h f s)
        (answer : f (arrived s h) = (arrived s h).ask h.station 0 none (State.found p)) :
        JustAnswered i s h ⟨.done, 0, p⟩ := by
      have asked := justAnswered_of_ask taken asks
      rw [answer, ask_of_logged logged] at asked
      exact asked
    refine ⟨fun a low high => result (f := fun s => s.askAreaStatus h.station a 0) rfl ?_, fun a page f p high filter => ?_,
      fun r e high entry gen => ?_, ?_, ?_, fun a low high => ?_, fun st low high =>
        result (f := fun s => s.askStationStatus h.station st 0) rfl ?_⟩
    · rw [askAreaStatus, outside_of_mem low high]
    · refine result (f := fun s => s.askAlarmPage h.station a page f 0) rfl ?_
      simp only [askAlarmPage, filter, outside_of_mem (Nat.zero_le a) high]
    · refine result (f := fun s => s.askAlarmEntry h.station r 0) rfl ?_
      have high : r.num ≤ Sys2Proof.Config.lastEntry := high
      simp only [askAlarmEntry, entry, current, gen, outside_of_mem (Nat.zero_le _) high, Option.isSome_some, decide_true,
        Bool.and_self, if_true]
    · have same : (arrived s h).gate.transit.map (arrived s h).transitView = s.gate.transit.map s.transitView := by
        rw [(touched .transit (by decide) : _ = _)]
        refine List.map_congr_left (fun q _ => ?_)
        simp only [transitView, msLeft, touched.badgeOf_eq (by decide), touched.now_eq (by decide)]
        rfl
      exact result (f := fun s => s.askTransitList h.station 0) rfl (by rw [askTransitList, same])
    · have same : (arrived s h).overrideViews = s.overrideViews := by
        rw [overrideViews, (touched .overrides (by decide) : _ = _)]
        refine List.map_congr_left (fun q _ => ?_)
        simp only [touched.badgeOf_eq (by decide), touched.secondsLeft_eq (by decide)]
        rfl
      exact result (f := fun s => s.askOverrideList h.station 0) rfl (by rw [askOverrideList, same])
    · have same : (arrived s h).handoverView a = s.handoverView a := by
        have left : (arrived s h).secondsLeft = s.secondsLeft := funext (touched.secondsLeft_eq (by decide))
        rw [handoverView, touched.lookHand_eq (by decide), left]
        rfl
      exact result (f := fun s => s.askHandoverList h.station a 0) rfl
        (by rw [askHandoverList, same, outside_of_mem low high])
    · rw [askStationStatus, outside_of_mem low high]
end

section
/-! PROOFS. System alarms (R44) and the plant link (R170 to R174): what each leaves of the entries and of the Plant Port. -/

namespace Sys2Proof.Machine

namespace State

variable (s : State)

/-! ### System alarms -/

/-- R44 *raise*: the entry that it leaves. -/
def raisedAlarm (n : Nat) (subject : Subject) : Entry :=
  match s.entry? n with
  | none => { Entry.systemAtReset (systemPriority n) subject with raiseTime := s.time.mill }
  | some e =>
    { e with raiseCount := min (e.raiseCount + 1) Config.raiseCountMax, subject := subject, active := true,
             returnTime := if e.active then e.returnTime else none }

/-- R44 *return*: what it leaves of an alarm. -/
def returnedAlarm (e : Entry) : Option Entry :=
  if !e.active then some e else if e.ack.isSome then none
  else some { e with active := false, returnTime := some s.time.mill }

theorem entry?_announceAt (n m : Nat) : (s.announceAt n).entry? m = s.entry? m :=
  (s.announceAt_touches n).entry?_eq (by decide) m

theorem entry?_represent (n m : Nat) : (s.represent n).entry? m = s.entry? m :=
  (s.represent_touches n).entry?_eq (by decide) m

theorem entry?_sysRaise (n : Nat) (x : Subject) (m : Nat) :
    (s.sysRaise n x).entry? m = if m = n then some (s.raisedAlarm n x) else s.entry? m := by
  cases found : s.entry? n with
  | none =>
    have raised : s.sysRaise n x = (s.setEntry n (s.raisedAlarm n x)).announceAt n := by
      simp only [sysRaise, raisedAlarm, found]
    rw [raised, entry?_announceAt, entry_setEntry]
  | some e =>
    by_cases active : e.active = true
    · have raised : s.sysRaise n x = s.setEntry n (s.raisedAlarm n x) := by
        simp [sysRaise, raisedAlarm, found, active]
      rw [raised, entry_setEntry]
    · have raised : s.sysRaise n x = (s.setEntry n (s.raisedAlarm n x)).represent n := by
        simp [sysRaise, raisedAlarm, found, active]
      rw [raised, entry?_represent, entry_setEntry]

theorem raisedAlarm_active (n : Nat) (x : Subject) : (s.raisedAlarm n x).active = true := by
  unfold raisedAlarm
  split <;> rfl

theorem entry?_sysRaise_self (n : Nat) (x : Subject) : (s.sysRaise n x).entry? n = some (s.raisedAlarm n x) := by
  rw [entry?_sysRaise, if_pos rfl]

theorem entry?_sysRaise_ne {n m : Nat} (h : m ≠ n) (x : Subject) : (s.sysRaise n x).entry? m = s.entry? m := by
  rw [entry?_sysRaise, if_neg h]

theorem entry?_sysReturn_self (n : Nat) : (s.sysReturn n).entry? n = (s.entry? n).bind s.returnedAlarm := by
  unfold sysReturn
  split
  case h_1 none_ => simp [none_]
  case h_2 e found =>
    simp only [found, Option.bind_some, returnedAlarm]
    split
    · exact found
    · split
      · rw [sysRemove, entry?_dropEntry, if_pos rfl]
      · rw [entry_setEntry, if_pos rfl]

theorem inactive_of_returnedAlarm {e e' : Entry} (h : s.returnedAlarm e = some e') : e'.active = false := by
  unfold returnedAlarm at h
  split at h
  case isTrue inactive => cases h; simpa using inactive
  · split at h
    · simp at h
    · cases h; rfl

/-- R44: an alarm that has returned is not ACTIVE. -/
theorem inactive_sysReturn {n : Nat} {e : Entry} (h : (s.sysReturn n).entry? n = some e) : e.active = false := by
  rw [entry?_sysReturn_self] at h
  obtain ⟨e', -, same⟩ := Option.bind_eq_some_iff.mp h
  exact s.inactive_of_returnedAlarm same

theorem entry?_sysUpdate_self (n : Nat) (x : Subject) :
    (s.sysUpdate n x).entry? n = (s.entry? n).map (fun e => if e.active then { e with subject := x } else e) := by
  unfold sysUpdate
  split
  case h_1 none_ => simp [none_]
  case h_2 e found =>
    split
    · rw [entry_setEntry, if_pos rfl, found]; simp [*]
    · rw [found]; simp [*]

/-! ### The Plant Port -/

end State

theorem Touches.plant_eq {l : List Part} {s t : State} (h : Touches l s t) (hl : ∀ p ∈ State.plantParts, p ∉ l) :
    t.plant = s.plant := by
  have link : t.plant.link = s.plant.link := h .plantLink (hl _ (by decide))
  have ret : t.plant.ret = s.plant.ret := h .plantReturn (hl _ (by decide))
  have heard : t.plant.heard = s.plant.heard := h .plantHeard (hl _ (by decide))
  have mark : t.plant.mark = s.plant.mark := h .plantMark (hl _ (by decide))
  have expected : t.plant.expected = s.plant.expected := h .plantExpected (hl _ (by decide))
  have resync : t.plant.resync = s.plant.resync := h .plantResync (hl _ (by decide))
  have timer : t.plant.timer = s.plant.timer := h .plantTimer (hl _ (by decide))
  have counters : t.plant.counters = s.plant.counters := h .countersB (hl _ (by decide))
  cases hs : s.plant
  cases ht : t.plant
  simp_all

namespace State

variable (s : State)

theorem moveLink_plant (l : PlantLink) : (s.moveLink l).plant = { s.plant with link := l } := by
  unfold moveLink
  split
  case isTrue same => rw [← same]
  · rfl

theorem enterResync_plant : s.enterResync.plant =
    { s.plant with link := .resync, resync := (s.plant.resync + 1) % 65536, expected := none,
                   timer := some (s.now + Config.resyncTime), mark := s.now } := by
  unfold enterResync
  rw [moveLink_plant]
  rfl

theorem leaveDegraded_plant : s.leaveDegraded.plant =
    { s.plant with link := if s.plant.ret then .resync else .up, mark := s.now } := by
  have returned := s.sysReturn_touches 512
  unfold leaveDegraded
  rw [moveLink_plant, markSilence, setPlant_plant, returned.plant_eq (by decide), returned.now_eq (by decide)]

/-- R170: an accepted frame sets the last-heard time of the plant. -/
def hearingPlant : State := s.setPlant (fun p => { p with heard := some s.now })

theorem serveLink_of_begun (h : s.plant.link = .start ∨ s.plant.link = .lost) : s.serveLink = s.hearingPlant.enterResync := by
  rcases h with h | h <;> simp [serveLink, hearingPlant, h]

theorem serveLink_of_degraded (h : s.plant.link = .degraded) : s.serveLink = s.hearingPlant.leaveDegraded := by
  simp [serveLink, hearingPlant, h]

/-- R172, R174: the state that an accepted frame brings the link to. -/
def servedLink (p : PlantPort) : PlantLink :=
  if p.link = .start ∨ p.link = .lost then .resync
  else if p.link = .degraded then (if p.ret then .resync else .up) else p.link

/-- What an accepted frame leaves of the Plant Port (R170 to R174). -/
theorem serveLink_plant : s.serveLink.plant =
    if s.plant.link = .start ∨ s.plant.link = .lost then
      { s.plant with heard := some s.now, link := .resync, resync := (s.plant.resync + 1) % 65536, expected := none,
                     timer := some (s.now + Config.resyncTime), mark := s.now }
    else { s.plant with heard := some s.now, link := servedLink s.plant, mark := s.now } := by
  split
  case isTrue begun =>
    rw [serveLink_of_begun s begun, enterResync_plant]
    rfl
  case isFalse standing =>
    cases link : s.plant.link with
    | start => simp [link] at standing
    | lost => simp [link] at standing
    | degraded =>
      rw [serveLink_of_degraded s link, leaveDegraded_plant]
      simp [hearingPlant, servedLink, link]
      rfl
    | up =>
      rw [serveLink_of_standing (.inl link)]
      simp [servedLink, link, markSilence]
      rfl
    | resync =>
      rw [serveLink_of_standing (.inr link)]
      simp [servedLink, link, markSilence]
      rfl

/-! ### What the changes of the link say -/

theorem moveLink_says (l : PlantLink) : Says s (s.moveLink l) := by
  unfold moveLink
  split
  · exact .refl s
  · exact fun o ho => (said_sayAfter _ _).mpr (.inl ho)

/-- R171: NOTICE PLANT LINK of a change. -/
theorem plantLink_said {l : PlantLink} (changed : s.plant.link ≠ l) {st : Nat} (low : 1 ≤ st) (high : st ≤ 16)
    (up : s.isUp st = true) : s.outTo st (.notice (.plantLink l)) ∈ (s.moveLink l).said := by
  rw [moveLink, if_neg changed, said_sayAfter]
  exact .inr (mem_toUp _ low high up _)

/-- What entering RESYNC does before the link changes (R174). -/
def askedResync : State :=
  (((s.setPlant (fun p => { p with resync := (s.plant.resync + 1) % 65536 })).say
    [.plant (.resyncRequest 0 ((s.plant.resync + 1) % 65536))]).clearConfirmed).setPlant
      (fun p => { p with expected := none, timer := some (s.now + Config.resyncTime), mark := s.now })

theorem enterResync_eq : s.enterResync = s.askedResync.moveLink .resync := rfl

theorem askedResync_link : s.askedResync.plant.link = s.plant.link := rfl

theorem askedResync_isUp (st : Nat) : s.askedResync.isUp st = s.isUp st := rfl

theorem askedResync_outTo (st : Nat) (m : ConsoleMsg) : s.askedResync.outTo st m = s.outTo st m := rfl

/-- R171: NOTICE PLANT LINK of the entry into RESYNC. -/
theorem resyncLink_said (changed : s.plant.link ≠ .resync) {st : Nat} (low : 1 ≤ st) (high : st ≤ 16)
    (up : s.isUp st = true) : s.outTo st (.notice (.plantLink .resync)) ∈ s.enterResync.said := by
  rw [enterResync_eq, ← askedResync_outTo]
  exact plantLink_said _ (s.askedResync_link ▸ changed) low high (s.askedResync_isUp st ▸ up)

/-- R174: entering RESYNC asks for the whole mill. -/
theorem resyncRequest_said : .plant (.resyncRequest 0 ((s.plant.resync + 1) % 65536)) ∈ s.enterResync.said := by
  unfold enterResync
  refine moveLink_says _ _ _ ?_
  have asked : Out.plant (.resyncRequest 0 ((s.plant.resync + 1) % 65536)) ∈
      ((s.setPlant (fun p => { p with resync := (s.plant.resync + 1) % 65536 })).say
        [.plant (.resyncRequest 0 ((s.plant.resync + 1) % 65536))]).said :=
    (said_say _ _).mpr (.inr (List.mem_singleton_self _))
  exact asked

end State

end Sys2Proof.Machine
end

section
/-! PROOFS. The plant link's watch and the whole-second events (R171 to R174, R178, R187). -/

namespace Sys2Proof.Machine

namespace State

variable (s : State)

/-- What the end of an event leaves of the entries and of the Plant Port. -/
theorem finish_plant : s.finish.plant = s.plant := s.finish_touches.plant_eq (by decide)

theorem entry?_finish (n : Nat) : s.finish.entry? n = s.entry? n := s.finish_touches.entry?_eq (by decide) n

/-- R174: entering RESYNC leaves no ordinary entry confirmed. -/
theorem entry?_enterResync (n : Nat) : s.enterResync.entry? n = (s.entry? n).map (unconfirmed n) := by
  unfold enterResync
  rw [(moveLink_touches _ _).entry?_eq (by decide), (setPlant_touches _ _).entry?_eq (by decide), entry?_clearConfirmed]
  rfl

theorem unconfirmed_of_ordinary {n : Nat} (h : n < 512) (e : Entry) : (unconfirmed n e).confirmed = false := by
  have ordinary : n < Config.ordinaryEntries := h
  simp [unconfirmed, ordinary]

/-- R172: PLANT LINK DEGRADED returns as the link leaves DEGRADED. -/
theorem inactive_leaveDegraded {e : Entry} (h : s.leaveDegraded.entry? 512 = some e) : e.active = false := by
  unfold leaveDegraded at h
  rw [(moveLink_touches _ _).entry?_eq (by decide), (markSilence_touches _).entry?_eq (by decide)] at h
  exact s.inactive_sysReturn h

theorem serveLink_quiet {s : State} (standing : s.plant.link = .up ∨ s.plant.link = .resync) (quiet : s.ev = EvBuf.empty) :
    Touches [.plantHeard, .plantMark, .recs, .attnStacks, .shown, .unitAlarm, .said .attention] s s.serveLink.finish :=
  .after (finish_touches_of_quiet ((serveLink_ev_of_standing standing).trans quiet)) (by decide)
    ((serveLink_touches_of_standing standing).mono (by decide))

/-- R171, R172, R174: what an accepted plant frame does, by the state of the link. -/
theorem serveLink_finish_effect {u : State} (quiet : u.ev = EvBuf.empty) :
    u.serveLink.finish.plant.heard = some u.now ∧ u.serveLink.finish.plant.mark = u.now ∧
      Touches plantArrivalParts u u.serveLink.finish ∧
      (u.plant.link = .up ∨ u.plant.link = .resync →
        u.serveLink.finish.plant.link = u.plant.link ∧ Touches [.plantHeard, .plantMark, .recs, .attnStacks, .shown,
          .unitAlarm, .said .attention] u u.serveLink.finish) ∧
      (u.plant.link = .degraded →
        u.serveLink.finish.plant.link = (if u.plant.ret then .resync else .up) ∧
          ∀ e, u.serveLink.finish.entry? 512 = some e → e.active = false) ∧
      (u.plant.link = .start ∨ u.plant.link = .lost →
        u.serveLink.finish.plant.link = .resync ∧ u.serveLink.finish.plant.resync = (u.plant.resync + 1) % 65536 ∧
        u.serveLink.finish.plant.expected = none ∧ u.serveLink.finish.plant.timer = some (u.now + 3000) ∧
        .plant (.resyncRequest 0 u.serveLink.finish.plant.resync) ∈ u.serveLink.finish.sent ∧
        (∀ st, 1 ≤ st → st ≤ 16 → u.isUp st = true →
          u.outTo st (.notice (.plantLink .resync)) ∈ u.serveLink.finish.sent) ∧
        ∀ n e, n < 512 → u.serveLink.finish.entry? n = some e → e.confirmed = false) := by
  rw [finish_plant]
  refine ⟨?_, ?_, .after (finish_touches _) (by decide) (u.serveLink_touches.mono (by decide)), fun standing => ?_,
    fun degraded => ?_, fun begun => ?_⟩
  · rw [serveLink_plant]; split <;> rfl
  · rw [serveLink_plant]; split <;> rfl
  · refine ⟨?_, serveLink_quiet standing quiet⟩
    rw [serveLink_of_standing standing]
    rfl
  · rw [serveLink_of_degraded u degraded]
    refine ⟨by rw [leaveDegraded_plant]; rfl, fun e alarm => ?_⟩
    rw [entry?_finish] at alarm
    exact inactive_leaveDegraded _ alarm
  · rw [serveLink_plant, if_pos begun, serveLink_of_begun u begun]
    have other : u.hearingPlant.plant.link ≠ .resync := fun same => by
      have same : u.plant.link = .resync := same
      simp [same] at begun
    refine ⟨rfl, rfl, rfl, rfl, mem_sent_finish _ (resyncRequest_said _) rfl, fun st low high up => ?_,
      fun n e ordinary found => ?_⟩
    · exact mem_sent_finish _ (u.hearingPlant.resyncLink_said other low high up) rfl
    · rw [entry?_finish, entry?_enterResync] at found
      obtain ⟨e', -, rfl⟩ := Option.map_eq_some_iff.mp found
      exact unconfirmed_of_ordinary ordinary e'

/-- What entering DEGRADED does before the link changes (R172). -/
def markedDegraded : State :=
  (s.setPlant (fun p => { p with ret := decide (s.plant.link = .resync), mark := s.now })).sysRaise 512 .none

theorem enterDegraded_eq : s.enterDegraded = s.markedDegraded.moveLink .degraded := rfl

theorem setPlantWatch_touches (ret : Bool) (n : Nat) :
    Touches [.plantReturn, .plantMark] s (s.setPlant (fun p => { p with ret := ret, mark := n })) := by
  intro p hp; cases p <;> first | rfl | exact ⟨rfl, rfl⟩ | exact absurd (by decide) hp

theorem markedDegraded_touches : Touches ([.plantReturn, .plantMark] ++ sysParts) s s.markedDegraded :=
  .after (sysRaise_touches _ 512 .none) (by decide) ((s.setPlantWatch_touches _ _).mono (by decide))

theorem markedDegraded_plant :
    s.markedDegraded.plant = { s.plant with ret := decide (s.plant.link = .resync), mark := s.now } :=
  (sysRaise_touches _ 512 .none).plant_eq (by decide)

theorem enterDegraded_entry : ∃ e, s.enterDegraded.entry? 512 = some e ∧ e.active = true := by
  rw [enterDegraded_eq, (moveLink_touches _ _).entry?_eq (by decide), markedDegraded, entry?_sysRaise_self]
  exact ⟨_, rfl, raisedAlarm_active _ _ _⟩

end State

end Sys2Proof.Machine

open Sys2Proof.Machine State in
/-- Settles O57: what the frame leaves of the Plant Port, and of the alarms and messages in each state of the link. -/
theorem plantWatchMovesLink : Obligations.PlantWatchMovesLink := by
  unfold Obligations.PlantWatchMovesLink
  refine ⟨fun s on => ⟨_, plantEvent_of_running on _, serveLink_finish_effect (u := s.fresh) rfl⟩, fun s on due => ?_⟩
  obtain ⟨e, alarm, active⟩ := s.fresh.enterDegraded_entry
  have marked := s.fresh.markedDegraded_touches
  have changed : s.fresh.markedDegraded.plant.link ≠ .degraded := by
    rw [markedDegraded_plant]
    intro same
    have same : s.plant.link = .degraded := same
    simp [plantSilenceDue, same] at due
  refine ⟨s.fresh.enterDegraded.finish, e, timerEvent_of_due on due _, ?_, ?_, ?_, (entry?_finish _ _).trans alarm, active,
    fun st low high up => mem_sent_finish _ ?_ rfl, ?_⟩
  · rw [finish_plant, enterDegraded_eq, moveLink_plant]
  · rw [finish_plant, enterDegraded_eq, moveLink_plant, markedDegraded_plant]
    rfl
  · rw [finish_plant, enterDegraded_eq, moveLink_plant, markedDegraded_plant]
    rfl
  · rw [enterDegraded_eq]
    have said := plantLink_said _ changed low high ((marked.isUp_eq (by decide) st).trans up)
    rwa [marked.outTo_eq (by decide)] at said
  · exact .after (finish_touches _) (by decide) (s.fresh.enterDegraded_touches.mono (by decide))

open Sys2Proof.Machine State in
/-- Settles O60: the second that the mill time advances by carries into the day. -/
theorem wholeSecondsBeatAndAdvance : Obligations.WholeSecondsBeatAndAdvance := by
  unfold Obligations.WholeSecondsBeatAndAdvance
  refine ⟨fun s on => ⟨_, event_of_running on _, rfl, s.fresh.unitBeat_touches⟩, fun s => ⟨fun h time taken entitled range => ?_,
    fun on => ⟨_, event_of_running on _, s.fresh.advanceMill_touches, fun before => ?_, fun last day => ?_, fun last day => ?_⟩⟩⟩
  · have done : (arrived s h).takeSetClock h.station time 0 =
        ({ arrived s h with time := { (arrived s h).time with mill := time, clockUnset := false } }, ans .done) := by
      have entitled : (arrived s h).entitled h.station = true := by
        rw [(arrived_touches s h).entitled_eq (by decide) (by decide) (by decide) (by decide)]
        exact entitled
      simp [takeSetClock, entitled, Nat.not_lt.mpr range]
    have touched := (arrived s h).takeSetClock_touches h.station time 0
    rw [done] at touched
    refine ⟨_, requestEvent_of_done (f := fun s => s.takeSetClock h.station time 0) taken done (by decide), rfl, rfl,
      answered_answer _ _ _, .after (finish_answer_touches _ h _) (by decide) (touched.mono (by decide))⟩
  · simp [nextSecond, before]
  · have wraps : (s.time.mill.day + 1) % 65536 = s.time.mill.day + 1 := Nat.mod_eq_of_lt (by omega)
    simp [nextSecond, last, wraps]
  · simp [nextSecond, last, day]
end

section
/-! PROOFS. Frames that fail a check at Port A or Port B, and the sequence check of a notice (R170, R176, R183). -/

namespace Sys2Proof.Machine

/-! ### Port A -/

/-- A frame of a request is received before anything else (R183). -/
theorem exec_of_received {i : Instr} {h : Hdr} (header : requestHeader? i = some h) {s : State} (on : s.running = true) :
    ∃ f, exec i s = .next (s.fresh.receive h f) := by
  have received (f : State → State) : ∃ f', event (fun s => s.receive h f) s = .next (s.fresh.receive h f') :=
    ⟨f, event_of_running on _⟩
  have requested (f : State → State) : ∃ f', event (fun s => s.request h f) s = .next (s.fresh.receive h f') :=
    ⟨_, event_of_running on _⟩
  cases requestShape_of_header header with
  | beat => exact received _
  | unknown r =>
    cases r with
    | kind c => exact received (fun s => s.answer h (s.oddAnswer h (.kind c)))
    | _ => exact requested _
  | ask _ f shape => exact shape s ▸ requested _
  | change _ f shape _ => exact shape s ▸ requested _
  | store => exact requested _

namespace State

theorem countStranger_of_unknown {s : State} {h : Hdr}
    (unknown : h.station < 1 ∨ 16 < h.station ∨ s.stationRec? h.station = none) :
    s.countStranger h = s.countA (fun c => { c with unknown := bump c.unknown }) :=
  receive_of_unknown unknown (fun _ => s)

theorem countStranger_of_present {s : State} {h : Hdr} {r : StationRec} (low : 1 ≤ h.station) (high : h.station ≤ 16)
    (present : s.stationRec? h.station = some r) :
    s.countStranger h = if r.addr ≠ h.src then s.countA (fun c => { c with mismatch := bump c.mismatch }) else s :=
  receive_of_present low high present (fun _ => s)

/-! ### The sequence check -/

theorem seqFinding_next (x : Nat) : seqFinding (some x) ((x + 1) % 65536) = .next := by simp [seqFinding]

theorem seqFinding_duplicate (x : Nat) : seqFinding (some x) x = .duplicate := by
  have other : x ≠ (x + 1) % 65536 := by omega
  simp [seqFinding, other]

theorem seqFinding_gap {x seq : Nat} (repeated : seq ≠ x) (next : seq ≠ (x + 1) % 65536) : seqFinding (some x) seq = .gap := by
  simp [seqFinding, repeated, next]

variable (s : State)

/-- R176: the sequence of a notice is noted before its content is taken. -/
def noteSeq (seq : Nat) : State := s.setPlant (fun p => { p with expected := some seq })

theorem noteSeq_touches (seq : Nat) : Touches [.plantExpected] s (s.noteSeq seq) := by
  intro p hp; cases p <;> first | rfl | exact ⟨rfl, rfl⟩ | exact absurd (by decide) hp

variable {s} {seq : Nat} (content : State → State)

theorem takeSequenced_of_base (h : seqFinding s.plant.expected seq = .base) :
    s.takeSequenced seq content = content (s.noteSeq seq) := by
  simp only [takeSequenced, h]
  rfl

theorem takeSequenced_of_next (h : seqFinding s.plant.expected seq = .next) :
    s.takeSequenced seq content = content (s.noteSeq seq) := by
  simp only [takeSequenced, h]
  rfl

theorem takeSequenced_of_duplicate (h : seqFinding s.plant.expected seq = .duplicate) :
    s.takeSequenced seq content = s.countB (fun c => { c with duplicateSeq := bump c.duplicateSeq }) := by
  simp only [takeSequenced, h]

theorem takeSequenced_of_gap (h : seqFinding s.plant.expected seq = .gap) :
    s.takeSequenced seq content =
      ((content (s.noteSeq seq)).countB (fun c => { c with gaps := bump c.gaps })).enterResync := by
  simp only [takeSequenced, h]
  rfl

/-- R176: the sequence that is expected when a notice's own is checked: a frame that begins a resync awaits a base. -/
theorem expected_serveLink (s : State) : s.serveLink.plant.expected =
    if s.plant.link = .start ∨ s.plant.link = .lost then none else s.plant.expected := by
  rw [serveLink_plant]
  split <;> rfl

theorem countersB_serveLink (s : State) : s.serveLink.plant.counters = s.plant.counters := by
  rw [serveLink_plant]
  split <;> rfl

theorem link_serveLink (s : State) : s.serveLink.plant.link = servedLink s.plant := by
  rw [serveLink_plant]
  split
  case isTrue begun => simp [servedLink, begun]
  · rfl

theorem heard_serveLink (s : State) : s.serveLink.plant.heard = some s.now ∧ s.serveLink.plant.mark = s.now := by
  rw [serveLink_plant]
  split <;> exact ⟨rfl, rfl⟩

/-- Where the link stands and nothing is half done, an operation that notes nothing leaves the end of the event only an
ATTENTION to send. -/
theorem quiet_finish {l : List Part} {s t : State} (h : Touches l s t) (quiet : t.ev = EvBuf.empty) :
    Touches (l ++ [.recs, .attnStacks, .shown, .unitAlarm, .said .attention]) s t.finish :=
  (h.mono (List.subset_append_left _ _)).trans ((finish_touches_of_quiet quiet).mono (List.subset_append_right _ _))

end State

namespace State

/-! ### Faulty content -/

/-- R170: faulty content is counted. -/
def countFaulty (s : State) : State := s.countB (fun c => { c with malformedContent := bump c.malformedContent })

theorem noticeFrame_of_faulty {tag cond transition flag rsv : Nat}
    (faulty : noticeFaulty tag cond transition flag rsv = true) (s : State) (seq : Nat) (time : MillTime) :
    s.noticeFrame seq tag cond transition flag rsv time = s.serveLink.takeSequenced seq countFaulty := by
  have content : (fun s => State.takeContent s tag cond transition flag rsv time) = countFaulty := by
    funext s
    simp [takeContent, faulty, countFaulty]
  rw [noticeFrame, content]

theorem replyFrame_of_faulty {outcome rsv arg : Nat} (faulty : replyFaulty outcome rsv arg = true) (s : State)
    (ticket tag : Nat) : s.replyFrame ticket tag outcome rsv arg = s.serveLink.countFaulty := by
  simp [replyFrame, faulty, countFaulty]

/-- What the parts of the statement name for a frame whose event notes nothing. -/
def quietParts : List Part :=
  [.plantHeard, .plantMark, .countersB, .recs, .attnStacks, .shown, .unitAlarm, .said .attention]

section

variable {u : State} {seq : Nat}

/-- R176, R170: a faulty notice whose sequence is consumed. -/
theorem faulty_of_consumed (h : seqFinding u.serveLink.plant.expected seq = .base ∨
      seqFinding u.serveLink.plant.expected seq = .next) :
    let t := (u.serveLink.takeSequenced seq countFaulty).finish
    t.plant.heard = some u.now ∧ t.plant.mark = u.now ∧ t.plant.link = servedLink u.plant ∧ t.plant.expected = some seq ∧
      t.plant.counters = { u.plant.counters with malformedContent := bump u.plant.counters.malformedContent } ∧
      (u.ev = EvBuf.empty → u.plant.link = .up ∨ u.plant.link = .resync → Touches (.plantExpected :: quietParts) u t) := by
  have taken : u.serveLink.takeSequenced seq countFaulty = (u.serveLink.noteSeq seq).countFaulty :=
    h.elim (takeSequenced_of_base _) (takeSequenced_of_next _)
  obtain ⟨heard, mark⟩ := heard_serveLink u
  dsimp only
  rw [taken, finish_plant]
  refine ⟨heard, mark, link_serveLink u, rfl, ?_, fun quiet standing => ?_⟩
  · rw [← countersB_serveLink u]
    rfl
  · exact (quiet_finish (.after (countB_touches _ _) (by decide) (.after (noteSeq_touches _ seq) (by decide)
      ((serveLink_touches_of_standing standing).mono (l' := [.plantExpected, .plantHeard, .plantMark, .countersB]) (by decide))))
      ((serveLink_ev_of_standing standing).trans quiet)).mono (by decide)

/-- R176: a faulty notice whose sequence is a repeat. -/
theorem faulty_of_repeated (h : seqFinding u.serveLink.plant.expected seq = .duplicate) :
    let t := (u.serveLink.takeSequenced seq countFaulty).finish
    t.plant.heard = some u.now ∧ t.plant.mark = u.now ∧ t.plant.link = servedLink u.plant ∧
      t.plant.expected = u.serveLink.plant.expected ∧
      t.plant.counters = { u.plant.counters with duplicateSeq := bump u.plant.counters.duplicateSeq } ∧
      (u.ev = EvBuf.empty → u.plant.link = .up ∨ u.plant.link = .resync → Touches quietParts u t) := by
  obtain ⟨heard, mark⟩ := heard_serveLink u
  dsimp only
  rw [takeSequenced_of_duplicate _ h, finish_plant]
  refine ⟨heard, mark, link_serveLink u, rfl, ?_, fun quiet standing => ?_⟩
  · rw [← countersB_serveLink u]
    rfl
  · exact (quiet_finish (.after (countB_touches _ _) (by decide)
      ((serveLink_touches_of_standing standing).mono (l' := [.plantHeard, .plantMark, .countersB]) (by decide)))
      ((serveLink_ev_of_standing standing).trans quiet)).mono (by decide)

theorem finding_of_begun (begun : u.plant.link = .start ∨ u.plant.link = .lost) (seq : Nat) :
    seqFinding u.serveLink.plant.expected seq = .base := by
  rw [expected_serveLink, if_pos begun]
  rfl

/-- R176: a faulty notice behind a gap. -/
theorem faulty_of_gap (standing : ¬ (u.plant.link = .start ∨ u.plant.link = .lost))
    (h : seqFinding u.serveLink.plant.expected seq = .gap) :
    let t := (u.serveLink.takeSequenced seq countFaulty).finish
    t.plant.heard = some u.now ∧ t.plant.mark = u.now ∧ t.plant.link = .resync ∧ t.plant.expected = none ∧
      t.plant.resync = (u.plant.resync + 1) % 65536 ∧ t.plant.timer = some (u.now + 3000) ∧
      .plant (.resyncRequest 0 t.plant.resync) ∈ t.sent ∧
      t.plant.counters = { u.plant.counters with
        malformedContent := bump u.plant.counters.malformedContent, gaps := bump u.plant.counters.gaps } := by
  obtain ⟨heard, mark⟩ := heard_serveLink u
  have served : u.serveLink.plant.resync = u.plant.resync := by rw [serveLink_plant, if_neg standing]
  have now := u.serveLink_touches.now_eq (by decide)
  dsimp only
  rw [takeSequenced_of_gap _ h]
  generalize counted : ((u.serveLink.noteSeq seq).countFaulty).countB (fun c => { c with gaps := bump c.gaps }) = v
  have plant : v.plant = { u.serveLink.plant with
      expected := some seq
      counters := { u.plant.counters with
        malformedContent := bump u.plant.counters.malformedContent, gaps := bump u.plant.counters.gaps } } := by
    rw [← counted, ← countersB_serveLink u]
    rfl
  have nowV : v.now = u.now := by rw [← counted, ← now]; rfl
  have asked := v.resyncRequest_said
  have resync : v.plant.resync = u.plant.resync := by rw [plant]; exact served
  rw [finish_plant, enterResync_plant, nowV, resync]
  rw [resync] at asked
  exact ⟨by rw [plant]; exact heard, rfl, rfl, rfl, rfl, rfl, mem_sent_finish _ asked rfl, by rw [plant]⟩

end

end State

end Sys2Proof.Machine

open Sys2Proof.Machine State in
/-- Settles O14: at Port A by the check that fails first, at Port B by what the sequence check finds. -/
theorem discardedFramesAreCounted : Obligations.DiscardedFramesAreCounted := by
  unfold Obligations.DiscardedFramesAreCounted
  refine ⟨fun s on => ⟨fun src payload => ?_, fun i h header unknown => ?_, fun i h r header low high present other => ?_⟩,
    fun s on => ⟨fun payload => ?_, fun seq tag cond transition flag rsv time faulty => ?_,
      fun ticket tag outcome rsv arg faulty => ?_⟩⟩
  · have taken : exec (.portAFrameDiscarded src payload) s = .next (s.fresh.discardPortA src payload) :=
      event_of_running on (fun s => s.discardPortA src payload)
    dsimp only
    rw [taken]
    refine ⟨fun spelled => ?_, fun spelled unknown => ?_, fun r spelled low high present => ?_⟩
    · simp only [discardPortA, spelled]
    · obtain ⟨i, spelled⟩ := Option.isSome_iff_exists.mp spelled
      simp only [discardPortA, spelled]
      exact congrArg _ (countStranger_of_unknown (s := s.fresh) unknown)
    · obtain ⟨i, spelled⟩ := Option.isSome_iff_exists.mp spelled
      simp only [discardPortA, spelled]
      rw [countStranger_of_present (s := s.fresh) low high present, ite_not]
      rfl
  · obtain ⟨f, taken⟩ := exec_of_received header on
    rw [taken]
    exact congrArg _ (receive_of_unknown (s := s.fresh) unknown f)
  · obtain ⟨f, taken⟩ := exec_of_received header on
    rw [taken, receive_of_present (s := s.fresh) low high present, if_pos other]
  · have taken : exec (.plantFrameDiscarded payload) s = .next (s.fresh.discardPortB payload) :=
      event_of_running on (fun s => s.discardPortB payload)
    rw [taken]
    refine ⟨fun spelled => by simp only [discardPortB, spelled], fun spelled => ?_⟩
    obtain ⟨i, spelled⟩ := Option.isSome_iff_exists.mp spelled
    simp only [discardPortB, spelled]
  · have frame := noticeFrame_of_faulty faulty s.fresh seq time
    have touched : Touches (.countersB :: plantArrivalParts) s.fresh
        (s.fresh.noticeFrame seq tag cond transition flag rsv time).finish :=
      .after (finish_touches _) (by decide) ((noticeFrame_touches_of_faulty faulty s.fresh seq time).mono (by decide))
    refine ⟨_, plantEvent_of_running on (fun s => s.noticeFrame seq tag cond transition flag rsv time), ?_⟩
    rw [frame] at touched ⊢
    have standing (h : ¬ (s.plant.link = .start ∨ s.plant.link = .lost)) :
        s.fresh.serveLink.plant.expected = s.plant.expected := (expected_serveLink s.fresh).trans (if_neg h)
    have heard : (s.fresh.serveLink.takeSequenced seq countFaulty).finish.plant.heard = some s.now ∧
        (s.fresh.serveLink.takeSequenced seq countFaulty).finish.plant.mark = s.now := by
      cases finding : seqFinding s.fresh.serveLink.plant.expected seq with
      | base => obtain ⟨heard, mark, -⟩ := faulty_of_consumed (.inl finding); exact ⟨heard, mark⟩
      | next => obtain ⟨heard, mark, -⟩ := faulty_of_consumed (.inr finding); exact ⟨heard, mark⟩
      | duplicate => obtain ⟨heard, mark, -⟩ := faulty_of_repeated finding; exact ⟨heard, mark⟩
      | gap =>
        have going : ¬ (s.plant.link = .start ∨ s.plant.link = .lost) := fun begun => by
          rw [finding_of_begun (u := s.fresh) begun] at finding
          simp at finding
        obtain ⟨heard, mark, -⟩ := faulty_of_gap (u := s.fresh) going finding
        exact ⟨heard, mark⟩
    refine ⟨heard.1, heard.2, fun consumed => ?_, fun x going found same => ?_, fun x going found other next => ?_, touched⟩
    · have finding : seqFinding s.fresh.serveLink.plant.expected seq = .base ∨
          seqFinding s.fresh.serveLink.plant.expected seq = .next := by
        by_cases begun : s.plant.link = .start ∨ s.plant.link = .lost
        · exact .inl (finding_of_begun (u := s.fresh) begun seq)
        · rw [standing begun]
          rcases consumed with begun' | base | ⟨x, found, rfl⟩
          · exact absurd begun' begun
          · exact .inl (by rw [base]; rfl)
          · exact .inr (by rw [found, seqFinding_next])
      obtain ⟨-, -, link, expected, counters, still⟩ := faulty_of_consumed finding
      exact ⟨link, expected, counters, still rfl⟩
    · have finding : seqFinding s.fresh.serveLink.plant.expected seq = .duplicate := by
        rw [standing going, found, same, seqFinding_duplicate]
      obtain ⟨-, -, link, expected, counters, still⟩ := faulty_of_repeated finding
      exact ⟨link, expected.trans ((standing going).trans found), counters, still rfl⟩
    · have finding : seqFinding s.fresh.serveLink.plant.expected seq = .gap := by
        rw [standing going, found, seqFinding_gap other next]
      obtain ⟨-, -, link, expected, resync, timer, asked, counters⟩ := faulty_of_gap (u := s.fresh) going finding
      exact ⟨link, expected, resync, timer, asked, counters⟩
  · refine ⟨_, plantEvent_of_running on (fun s => s.replyFrame ticket tag outcome rsv arg), ?_⟩
    rw [replyFrame_of_faulty faulty]
    obtain ⟨heard, mark⟩ := heard_serveLink s.fresh
    have counted := s.fresh.serveLink.countB_touches (fun c => { c with malformedContent := bump c.malformedContent })
    rw [finish_plant]
    refine ⟨heard, mark, link_serveLink s.fresh, ?_, fun steady => ?_, .after (finish_touches _) (by decide)
      (.after counted (by decide) (s.fresh.serveLink_touches.mono (by decide)))⟩
    · exact congrArg (fun c : CountersB => { c with malformedContent := bump c.malformedContent })
        (countersB_serveLink s.fresh)
    · exact (quiet_finish (.after counted (by decide)
        ((serveLink_touches_of_standing (s := s.fresh) steady).mono (l' := [.plantHeard, .plantMark, .countersB]) (by decide)))
        (serveLink_ev_of_standing (s := s.fresh) steady)).mono (by decide)
end

section
/-! PROOFS. Logons, claims and the MASTER KEY line (R22, R28 to R31, R38). -/

namespace Sys2Proof.Machine

/-- R184: a request that is carried out, by its operation. -/
theorem requestEvent_carriedOut {i : Instr} {s : State} {h : Hdr} {f : State → State × Ans} {u : State} {a : Ans}
    {l l' : List Part} {v : State} (taken : Taken s h) (asks : exec i s = requestEvent h f s) (arriving : arrived s h = v)
    (done : f v = (u, a)) (changes : a.code.changes = true) (touched : Touches l v u) (hl : l ⊆ l')
    (he : .said .answer :: endParts ⊆ l') :
    exec i s = .next (u.finish.answer h a) ∧ Answered (u.finish.answer h a) h a ∧ Touches l' v (u.finish.answer h a) :=
  ⟨asks.trans (requestEvent_of_done taken (arriving ▸ done) changes), answered_answer _ h a,
    (touched.mono hl).trans ((State.finish_answer_touches u h a).mono he)⟩

namespace State

variable (s : State)

/-- What the end of a request's event and its ANSWER leave alone. -/
theorem finish_answer_eq (h : Hdr) (a : Ans) : Touches (.said .answer :: endParts) s (s.finish.answer h a) :=
  s.finish_answer_touches h a

theorem takeLogon_of_fits {st badge op : Nat} {r : RosterRec} {q : StationRec} (low : 1 ≤ badge) (high : badge ≤ 65535)
    (free : s.logonAt st = none) (named : s.tables.roster.find? (fun p => decide (p.2.badge = badge)) = some (op, r))
    (enabled : r.enabled = true) (permitted : st ∈ r.stations) (present : s.stationRec? st = some q)
    (role : roleFits q.kind r.role = true) (nowhere : s.stationOf op = none) :
    s.takeLogon st badge 0 =
      (({ s with auth := { s.auth with logon := s.auth.logon.put st op } } : State).coverScan, ans .done op) := by
  simp only [takeLogon, free, named, present, nowhere, enabled, role]
  rw [if_neg (by omega)]
  simp [permitted]

end State

end Sys2Proof.Machine

open Sys2Proof.Machine State in
/-- Settles O17: past its checks a LOGON notes the logon and has the cover scanned. -/
theorem logonStaffsStation : Obligations.LogonStaffsStation := by
  unfold Obligations.LogonStaffsStation
  intro s h badge op r q taken low high free named enabled permitted present role nowhere
  have touched := arrived_touches s h
  have roster : (arrived s h).tables.roster = s.tables.roster := touched .roster (by decide)
  have done := takeLogon_of_fits (arrived s h) low high ((touched.logonAt_eq (by decide) _).trans free)
    (roster ▸ named) enabled permitted ((touched.stationRec?_eq (by decide) _).trans present) role
    ((touched.stationOf_eq (by decide) op).trans nowhere)
  have scanned := coverScan_touches ({ arrived s h with auth := { (arrived s h).auth with
    logon := (arrived s h).auth.logon.put h.station op } } : State)
  have operation := (arrived s h).takeLogon_touches h.station badge 0
  rw [done] at operation
  obtain ⟨stepped, answered, within⟩ := requestEvent_carriedOut (i := .logon h badge 0)
    (l' := ([.logon, .said .answer] : List Part) ++ coverParts ++ endParts) taken rfl rfl done rfl
    operation (by decide) (by decide)
  have logon (st : Nat) : (({ arrived s h with auth := { (arrived s h).auth with
      logon := (arrived s h).auth.logon.put h.station op } } : State).coverScan.finish.answer h (ans .done op)).logonAt st =
      if st = h.station then some op else s.logonAt st := by
    rw [(finish_answer_touches _ h _).logonAt_eq (by decide), scanned.logonAt_eq (by decide)]
    refine (Sys2Proof.Tbl.look_put _ _ _ _).trans ?_
    have same : (arrived s h).auth.logon.look st = s.logonAt st := touched.logonAt_eq (by decide) st
    rw [same]
  exact ⟨_, stepped, (logon _).trans (if_pos rfl), fun st other => (logon st).trans (if_neg other), answered, within⟩
end

section
/-! PROOFS. The Flood Monitor's flags and timers (R67 to R69, R78), the station watch (R22) and the MASTER KEY line (R38). -/

namespace Sys2Proof.Machine

namespace State

variable (s : State)

/-! ### Flood flags and release timers -/

theorem flooded_setFlooded (a : Nat) (flag : Bool) (b : Nat) :
    (s.setFlooded a flag).flooded b = if b = a then flag else s.flooded b := by
  have flagged : (s.setFlooded a flag).flood.flooded = if flag then s.flood.flooded.ins a else s.flood.flooded.del a := rfl
  unfold flooded
  rw [flagged]
  cases flag <;> by_cases same : b = a <;> simp [same, NSet.mem_ins, NSet.mem_del]

theorem look_setRelease (a : Nat) (x : Option Nat) (b : Nat) :
    (s.setRelease a x).flood.release.look b = if b = a then x else s.flood.release.look b := by
  cases x with
  | none => exact Tbl.look_del _ _ _
  | some t => exact Tbl.look_put _ _ _ _

/-- R67: the load at which an area that is not flooded becomes flooded. -/
theorem flooded_floodEntryTest (a b : Nat) : (s.floodEntryTest a).flooded b =
    if b = a then s.flooded a || decide ((s.areaRec a).floodOn ≤ s.load a) else s.flooded b := by
  have entered : ((s.setFlooded a true).setRelease a none).flooded b = if b = a then true else s.flooded b :=
    s.flooded_setFlooded a true b
  unfold floodEntryTest
  by_cases enters : s.flooded a = false ∧ (s.areaRec a).floodOn ≤ s.load a
  · rw [if_pos (by simpa using enters), entered]
    simp [enters]
  · rw [if_neg (by simpa using enters)]
    by_cases same : b = a
    · cases was : s.flooded a <;> simp_all
    · simp [same]

theorem look_release_floodEntryTest (a b : Nat) : (s.floodEntryTest a).flood.release.look b =
    if b = a ∧ s.flooded a = false ∧ (s.areaRec a).floodOn ≤ s.load a then none else s.flood.release.look b := by
  have stopped := (s.setFlooded a true).look_setRelease a none b
  have kept : (s.setFlooded a true).flood.release = s.flood.release := rfl
  unfold floodEntryTest
  by_cases enters : s.flooded a = false ∧ (s.areaRec a).floodOn ≤ s.load a
  · simp [enters, stopped, kept]
  · rw [if_neg (by simpa using enters), if_neg (by tauto)]

/-- R67, R69: the load at which a flooded area stops being flooded. -/
theorem flooded_floodExitTest (a b : Nat) : (s.floodExitTest a).flooded b =
    if b = a then s.flooded a && decide ((s.areaRec a).floodOff < s.load a) else s.flooded b := by
  have cleared := s.flooded_setFlooded a false b
  have timed (x : Option Nat) : ((s.setFlooded a false).setRelease a x).flooded b = (s.setFlooded a false).flooded b := rfl
  by_cases leaves : s.flooded a = true ∧ s.load a ≤ (s.areaRec a).floodOff
  · have same : (s.floodExitTest a).flooded b = (s.setFlooded a false).flooded b := by
      unfold floodExitTest
      rw [if_pos (by simpa using leaves)]
      dsimp only
      split
      · rfl
      · exact timed _
    rw [same, cleared]
    simp [Nat.not_lt.mpr leaves.2]
  · unfold floodExitTest
    rw [if_neg (by simpa using leaves)]
    by_cases same : b = a
    · cases was : s.flooded a <;> simp_all
    · simp [same]

theorem look_release_floodExitTest (a b : Nat) : (s.floodExitTest a).flood.release.look b =
    if b = a ∧ s.flooded a = true ∧ s.load a ≤ (s.areaRec a).floodOff ∧ s.deferredOf a ≠ [] then
      some (s.secondsAhead (s.areaRec a).release) else s.flood.release.look b := by
  have started (x : Nat) := (s.setFlooded a false).look_setRelease a (some x) b
  have kept : (s.setFlooded a false).flood.release = s.flood.release := rfl
  have listed : (s.setFlooded a false).deferredOf a = s.deferredOf a := rfl
  have ahead (n : Nat) : (s.setFlooded a false).secondsAhead n = s.secondsAhead n := rfl
  have record : (s.setFlooded a false).areaRec a = s.areaRec a := rfl
  unfold floodExitTest
  by_cases leaves : s.flooded a = true ∧ s.load a ≤ (s.areaRec a).floodOff
  · rw [if_pos (by simpa using leaves)]
    dsimp only
    rw [listed]
    by_cases empty : s.deferredOf a = []
    · simp [empty, kept]
    · rw [if_neg empty, started, kept]
      simp [leaves, empty]
  · rw [if_neg (by simpa using leaves), if_neg (by tauto)]

theorem decay_of_loaded {a : Nat} (loaded : s.load a ≠ 0) :
    s.decay a = (s.setLoad a (s.load a - (s.load a * (s.areaRec a).decay / 4096 + 1))).floodExitTest a := by
  simp [decay, decayed, loaded]

/-! ### The station watch -/

theorem stationLost_touches_lost (st : Nat) : Touches (.grace :: coverParts) (s.setLink st .lost) (s.stationLost st) := by
  unfold stationLost
  dsimp only
  refine .after (coverScan_touches _) (by decide) ?_
  split
  · exact .after (setGrace_touches _ _) (by decide) ((followLost_touches _ _).mono (by decide))
  · exact (followLost_touches _ _).mono (by decide)

/-- R22: the grace timer of a station that is lost. -/
theorem grace_stationLost (st : Nat) : (s.stationLost st).auth.grace =
    if s.staffed st then s.auth.grace.put st (s.secondsAhead (((s.stationRec? st).map (·.grace)).getD 0))
    else s.auth.grace := by
  have told := followLost_touches (s.setLink st .lost) s.lostSet
  have before : Touches (.link :: sysParts) s ((s.setLink st .lost).followLost s.lostSet) :=
    .after told (by decide) ((s.setLink_touches st .lost).mono (by decide))
  have grace : ((s.setLink st .lost).followLost s.lostSet).auth.grace = s.auth.grace := before .grace (by decide)
  unfold stationLost
  dsimp only
  rw [((coverScan_touches _) .grace (by decide) : _ = _), before.staffed_eq (by decide)]
  split
  · dsimp only
    rw [grace, before.secondsAhead_eq (by decide), before.stationRec?_eq (by decide)]
  · exact grace

end State

end Sys2Proof.Machine

open Sys2Proof.Machine State in
/-- Settles O21: the link is set LOST, and the grace timer of a staffed station is set before the cover scan. -/
theorem silentStationIsLost : Obligations.SilentStationIsLost := by
  unfold Obligations.SilentStationIsLost
  intro s st on due
  have after := s.fresh.stationLost_touches_lost st
  have link (st' : Nat) : (s.fresh.stationLost st).finish.link st' = if st' = st then .lost else s.link st' := by
    rw [(finish_touches _).link_eq (by decide), after.link_eq (by decide)]
    exact link_setLink _ _ _ _
  have grace : (s.fresh.stationLost st).finish.auth.grace = _ :=
    ((finish_touches _) .grace (by decide)).trans (s.fresh.grace_stationLost st)
  refine ⟨_, timerEvent_of_due (due := fun s => s.silenceDue st) on due (fun s => s.stationLost st), by simp [link], fun st' other => by simp [link, other],
    fun unstaffed => ?_, fun r staffed present => ?_,
    .after (finish_touches _) (by decide) ((s.fresh.stationLost_touches st).mono (by decide))⟩
  · have unstaffed : s.fresh.staffed st = false := unstaffed
    rw [grace, unstaffed]
    rfl
  · have staffed : s.fresh.staffed st = true := staffed
    have present : s.fresh.stationRec? st = some r := present
    rw [grace, staffed, present]
    exact ⟨Sys2Proof.Tbl.look_put_self _ _ _, fun st' other => Sys2Proof.Tbl.look_put_ne _ _ other⟩

open Sys2Proof.Machine State in
/-- Settles O23: MASTER KEY IN USE is raised and returned with the key state. -/
theorem masterKeyFollowsItsLine : Obligations.MasterKeyFollowsItsLine := by
  unfold Obligations.MasterKeyFollowsItsLine
  intro s
  refine ⟨fun c => ⟨s.fresh.setKeyLine c, rfl, ?_, ?_, s.fresh.setKeyLine_touches c⟩, fun on held released settled => ?_,
    fun on open_ asserted settled => ?_⟩
  · unfold setKeyLine
    split
    · assumption
    · rfl
  · have line : s.fresh.auth.keyLine = s.auth.keyLine := rfl
    unfold setKeyLine
    rw [line]
    split <;> rfl
  · have due : s.fresh.assertDue = true := by
      have settled : s.fresh.keySettled = true := decide_eq_true settled
      have line : s.fresh.auth.keyLine = true := held
      have key : s.fresh.auth.key = false := released
      rw [assertDue, line, key, settled]
      rfl
    have raised := s.fresh.assertKey_touches
    refine ⟨s.fresh.assertKey.finish, _, timerEvent_of_due on due _, ?_,
      (entry?_finish _ _).trans (entry?_sysRaise_self _ _ _), raisedAlarm_active _ _ _,
      .after (finish_touches _) (by decide) (raised.mono (by decide))⟩
    exact ((finish_touches _) .key (by decide)).trans ((sysRaise_touches _ 519 .none) .key (by decide))
  · have due : s.fresh.releaseKeyDue = true := by
      have settled : s.fresh.keySettled = true := decide_eq_true settled
      have line : s.fresh.auth.keyLine = false := open_
      have key : s.fresh.auth.key = true := asserted
      rw [releaseKeyDue, line, key, settled]
      rfl
    refine ⟨s.fresh.releaseKey.finish, timerEvent_of_due on due _, ?_, fun e found => ?_,
      .after (finish_touches _) (by decide) (s.fresh.releaseKey_touches.mono (by decide))⟩
    · exact ((finish_touches _) .key (by decide)).trans ((sysReturn_touches _ 519) .key (by decide))
    · rw [entry?_finish] at found
      exact inactive_sysReturn _ found

open Sys2Proof.Machine State in
/-- Settles O29: a decay lowers the load and has the flood exit tested. -/
theorem decayLowersLoad : Obligations.DecayLowersLoad := by
  unfold Obligations.DecayLowersLoad
  intro s a on
  refine ⟨fun empty => timerEvent_of_not_due (due := fun s => s.decayDue a) on ?_
    (fun s => s.decay a), fun loaded => ?_⟩
  · exact decide_eq_false (not_not.mpr empty)
  have loaded' : s.fresh.load a ≠ 0 := Nat.pos_iff_ne_zero.mp loaded
  have due : s.fresh.decayDue a = true := decide_eq_true loaded'
  generalize lowered : s.load a - (s.load a * (s.areaRec a).decay / 4096 + 1) = x
  have decayed : s.fresh.decay a = (s.fresh.setLoad a x).floodExitTest a := lowered ▸ decay_of_loaded _ loaded'
  have ended : Touches endParts ((s.fresh.setLoad a x).floodExitTest a) (s.fresh.decay a).finish :=
    decayed ▸ finish_touches _
  have tested := (s.fresh.setLoad a x).floodExitTest_touches a
  have load (b : Nat) : (s.fresh.decay a).finish.load b = if b = a then x else s.load b := by
    rw [ended.load_eq (by decide), tested.load_eq (by decide)]
    exact load_setLoad _ _ _ _
  have before : (s.fresh.setLoad a x).load a = x := (load_setLoad _ _ _ _).trans (if_pos rfl)
  have flooded (b : Nat) : (s.fresh.decay a).finish.flooded b =
      if b = a then s.flooded a && decide ((s.areaRec a).floodOff < x) else s.flooded b := by
    rw [ended.flooded_eq (by decide), flooded_floodExitTest, before]
    rfl
  have release (b : Nat) : (s.fresh.decay a).finish.flood.release.look b =
      if b = a ∧ s.flooded a = true ∧ x ≤ (s.areaRec a).floodOff ∧ s.deferredOf a ≠ [] then
        some (s.secondsAhead (s.areaRec a).release) else s.flood.release.look b := by
    rw [((finish_touches _) .release (by decide) : _ = _), decayed, look_release_floodExitTest, before]
    rfl
  refine ⟨(s.fresh.decay a).finish, timerEvent_of_due (due := fun s => s.decayDue a) on due (fun s => s.decay a),
    by simp [load], ?_, fun b other => by simp [load, other], ?_, fun b other => by simp [flooded, other], ?_,
    fun b other => by simp [release, other], .after (finish_touches _) (by decide) ((s.fresh.decay_touches a).mono (by decide))⟩
  · rw [load, if_pos rfl]
    omega
  · rw [flooded, load, if_pos rfl, if_pos rfl]
  · rw [release, flooded, if_pos rfl]
    cases was : s.flooded a <;> by_cases low : x ≤ (s.areaRec a).floodOff <;> simp [low, Nat.not_lt]
end

section
/-! PROOFS. Events that note no entry (R62), BUSY and the re-send (R131, R132), and CLAIM and RELEASE (R30, R31). -/

namespace Sys2Proof.Machine

namespace State

variable (s : State)

/-! ### The end of an event in which no entry was touched -/

theorem saidOf_finish_of_untouched {s : State} (touched : s.ev.touched = []) {k : MsgKind} (hk : k ≠ .attention)
    (hn : k ≠ .notice) : s.finish.saidOf k = s.saidOf k := by
  have attended : s.reroute.refillAll.attentions.filter (fun o => decide (o.kind = k)) = [] :=
    filter_kind_nil (fun o ho => by rw [kind_attentions _ o ho]; exact hk.symm)
  have updated : s.updateNotices.filter (fun o => decide (o.kind = k)) = [] :=
    filter_kind_nil (fun o ho => by rw [s.kind_updateNotices o ho]; exact hn.symm)
  have announced : s.announces = [] := by simp [announces, touched]
  simp only [saidOf, finish, EvBuf.empty, List.append_nil, List.filter_append, announced, attended, updated,
    filter_withLoad s hn]

/-- R62: with no entry touched there is no ANNOUNCE. -/
theorem finish_touches_of_untouched {s : State} (touched : s.ev.touched = []) :
    Touches [.recs, .attnStacks, .shown, .unitAlarm, .said .attention, .said .notice] s s.finish := by
  intro p hp
  cases p with
  | said k => exact saidOf_finish_of_untouched touched (fun e => hp (by simp [e])) (fun e => hp (by simp [e]))
  | _ => exact s.finish_touches _ (fun ending => hp (by revert ending; decide))

/-- With no entry touched, no session's list changed and no notice ready, an ATTENTION that was due is all that the end of
the event adds. -/
theorem finish_touches_of_unlisted {s : State} (touched : s.ev.touched = []) (items : s.ev.items = [])
    (silent : ∀ o ∈ s.ev.pre ++ s.ev.post, o.kind ≠ .notice) :
    Touches [.recs, .attnStacks, .shown, .unitAlarm, .said .attention] s s.finish := by
  intro p hp
  cases p with
  | said k =>
    have attended : s.reroute.refillAll.attentions.filter (fun o => decide (o.kind = k)) = [] :=
      filter_kind_nil (fun o ho => by rw [kind_attentions _ o ho]; exact fun e => hp (by simp [← e]))
    have plain {os : List Out} (h : ∀ o ∈ os, o.kind ≠ .notice) : os.map s.withLoad = os :=
      (List.map_congr_left (g := id) (fun o ho => s.withLoad_of_kind (h o ho))).trans (List.map_id _)
    have pre := plain (fun o ho => silent o (List.mem_append_left _ ho))
    have post := plain (fun o ho => silent o (List.mem_append_right _ ho))
    have announced : s.announces = [] := by simp [announces, touched]
    have updated : s.updateNotices = [] := by simp [updateNotices, items]
    simp only [Part.same, saidOf, finish, EvBuf.empty, pre, post, announced, updated, List.append_nil, List.filter_append,
      attended]
  | _ => exact s.finish_touches _ (fun ending => hp (by revert ending; decide))

/-! ### Replies of sound content -/

theorem replyFrame_of_sound {outcome rsv arg : Nat} (sound : replyFaulty outcome rsv arg = false) (k tag : Nat) :
    s.replyFrame k tag outcome rsv arg = s.serveLink.takeReply k tag outcome arg := by
  simp [replyFrame, sound]

theorem exec_replyBusy {s : State} (on : s.running = true) (k tag : Nat) :
    exec (.replyBusy k tag) s = .next (s.fresh.serveLink.busyReply k tag).finish := by
  rw [← show s.fresh.replyFrame k tag 3 0 0 = s.fresh.serveLink.busyReply k tag from replyFrame_of_sound _ (by decide) k tag]
  exact plantEvent_of_running on (fun s => s.replyFrame k tag 3 0 0)

section

variable {s : State} {k : Nat} {x : Transit} (look : s.gate.transit.look k = some x)
include look

/-- R131: the repeat window is open. -/
theorem busyReply_of_open (flying : x.state ≠ .awaiting) (opened : ∀ w, x.windowEnd = some w → s.now ≤ w) :
    s.busyReply k x.tag = if x.state = .repeatWait then s else s.enterRepeatWait k x := by
  have passed : (x.windowEnd.map (fun w => decide (w < s.now))).getD false = false := by
    cases window : x.windowEnd with
    | none => rfl
    | some w => simpa using opened w window
  simp [busyReply, replyEntry?_of_look look flying, passed]

theorem lookTransit_enterRepeatWait (j : Nat) : (s.enterRepeatWait k x).gate.transit.look j =
    if j = k then some { x with
      state := .repeatWait, windowEnd := some (x.windowEnd.getD (s.now + 200)), resend := some (s.now + 25),
      deadline := max x.deadline (s.now + 25 + s.baseTime x.tag) }
    else s.gate.transit.look j := by
  rw [enterRepeatWait, updTransit_transit, Tbl.look_upd, look]
  rfl

/-- What a re-send leaves of the transit table (R132). -/
theorem lookTransit_resend (j : Nat) : (s.resend k).gate.transit.look j =
    if j = k then some { x with state := .forwarded, resend := none } else s.gate.transit.look j := by
  simp only [resend, look, say_gate, updTransit_transit, Tbl.look_upd]
  rfl

theorem resend_ev : (s.resend k).ev = { s.ev with pre := s.ev.pre ++ [s.forwardMsg k x true] } := by
  simp only [resend, look]
  rfl

end

/-! ### What arrivals and cover scans leave of the entries -/

theorem entry?_sysFollow_ne {n m : Nat} (h : m ≠ n) (before after : NSet) (x : Subject) :
    (s.sysFollow n before after x).entry? m = s.entry? m := by
  unfold sysFollow
  split
  · rfl
  · split
    · exact s.entry?_sysRaise_ne h x
    · split
      · exact s.entry?_sysReturn_ne h
      · exact s.entry?_sysUpdate_ne h x

/-- R37: of the entries a cover scan changes ORPHAN AREA only. -/
theorem entry?_coverScan_ne {m : Nat} (h : m ≠ 516) : s.coverScan.entry? m = s.entry? m := by
  have scanned : Touches [.cover, .orphans, .said .notice, .recs, .attnStacks] s
      (areaNumbers.foldl setCover s).setOrphans.sayAreas.reroute :=
    .after (reroute_touches _) (by decide) (.after (sayAreas_touches _) (by decide) (.after (setOrphans_touches _)
      (by decide) ((s.foldl_setCover_touches areaNumbers).mono (by decide))))
  unfold coverScan
  dsimp only
  rw [entry?_sysFollow_ne _ h, scanned.entry?_eq (by decide)]

theorem entry?_followLost_ne {m : Nat} (h : m ≠ 517) (before : NSet) : (s.followLost before).entry? m = s.entry? m :=
  s.entry?_sysFollow_ne h _ _ _

/-- R26, R37: of the entries the arrival of a frame changes ORPHAN AREA and CONSOLE LOST only. -/
theorem entry?_serveWatch_ne (st : Nat) {m : Nat} (h : m ≠ 516) (h' : m ≠ 517) :
    (s.serveWatch st).entry? m = s.entry? m := by
  have heard : (s.hearing st).entry? m = s.entry? m := (s.hearing_touches st).entry?_eq (by decide) m
  cases link : s.link st with
  | up => rw [serveWatch_of_up s link, heard]
  | absent =>
    rw [serveWatch_of_absent s link, entry?_finish, entry?_coverScan_ne _ h, (setLink_touches _ st .up).entry?_eq (by decide),
      heard]
  | lost =>
    have returned : ((s.hearing st).stationReturns st).entry? m = (s.hearing st).entry? m := by
      unfold stationReturns
      dsimp only
      rw [(forceAttention_touches _ st).entry?_eq (by decide),
        (say_notices _ _ (fun o ho => by rw [List.mem_singleton.mp ho]; rfl)).entry?_eq (by decide),
        entry?_coverScan_ne _ h, entry?_followLost_ne _ h', (stopGrace_touches _ st).entry?_eq (by decide),
        (setLink_touches _ st .up).entry?_eq (by decide)]
    rw [serveWatch_of_lost s link, entry?_finish, returned, heard]

theorem entry?_admitFrame_ne (st : Nat) {m : Nat} (h : m ≠ 516) (h' : m ≠ 517) :
    (s.admitFrame st).entry? m = s.entry? m := by
  unfold admitFrame
  rw [(serveRestarted_touches _ st).entry?_eq (by decide), entry?_serveWatch_ne _ st h h', (countA_touches _ _).entry?_eq (by decide)]

end State

/-- No ordinary entry changes as a frame arrives. -/
theorem entry?_arrived (s : State) (h : Hdr) {n : Nat} (ordinary : n < 512) : (arrived s h).entry? n = s.entry? n :=
  State.entry?_admitFrame_ne s.fresh h.station (by omega) (by omega)

namespace State

variable (s : State)

/-! ### NOTICE AREA -/

theorem noteArea_noted {a b : Nat} {v : Option (Nat × Nat) × Option Nat} (noted : s.ev.areaOld.look a = some v) :
    (s.noteArea b).ev.areaOld.look a = some v := by
  unfold noteArea
  split
  · exact noted
  case isFalse fresh =>
    have other : a ≠ b := fun same => fresh (by simp [← same, noted])
    exact (Tbl.look_put_ne _ _ other).trans noted

theorem setCover_noted {a b : Nat} {v : Option (Nat × Nat) × Option Nat} (noted : s.ev.areaOld.look a = some v) :
    (s.setCover b).ev.areaOld.look a = some v := by
  unfold setCover
  dsimp only
  split
  · exact noted
  · exact s.noteArea_noted noted

theorem foldl_setCover_noted {a : Nat} {v : Option (Nat × Nat) × Option Nat} (as : List Nat)
    (noted : s.ev.areaOld.look a = some v) : (as.foldl setCover s).ev.areaOld.look a = some v := by
  induction as generalizing s with
  | nil => exact noted
  | cons b as ih => exact ih _ (s.setCover_noted noted)

/-- R36: the owner and cover station that an area has come to, as NOTICE AREA tells them. -/
def areaNotice (a : Nat) : Notice :=
  .area a (((s.ownerOf a).map (fun x => s.badgeOf x.1)).getD 0) (((s.ownerOf a).map Prod.snd).getD 0)
    ((s.coverOf a).getD 0) (s.isOrphan a)

/-- R36: NOTICE AREA of an area that has been noted and has changed. -/
theorem areaNotice_said {a st : Nat} {v : Option (Nat × Nat) × Option Nat} (noted : s.ev.areaOld.look a = some v)
    (changed : v ≠ (s.ownerOf a, s.coverOf a)) (low : 1 ≤ st) (high : st ≤ 16) (up : s.isUp st = true) :
    s.outTo st (.notice (s.areaNotice a)) ∈ s.sayAreas.said := by
  have listed : s.outTo st (.notice (s.areaNotice a)) ∈ s.areaNotices :=
    List.mem_flatMap.mpr ⟨(a, v), List.mem_filter.mpr ⟨Tbl.mem_of_look noted, decide_eq_true changed⟩,
      s.mem_toUp low high up _⟩
  simp [said, listed]

theorem sayAreas_says_coverScan : Says (areaNumbers.foldl setCover s).setOrphans.sayAreas s.coverScan := by
  unfold coverScan
  dsimp only
  exact ((reroute_touches _).says (by simp)).trans ((sysFollow_touches _ 516 _ _ _).says (by simp [sysParts]))

theorem areaNotice_told {u t : State} (rest : Touches (.said .notice :: sysParts) u t) (tells : Says u.sayAreas t) {a st : Nat}
    {v : Option (Nat × Nat) × Option Nat} (noted : u.ev.areaOld.look a = some v)
    (changed : v ≠ (t.ownerOf a, t.coverOf a)) (low : 1 ≤ st) (high : st ≤ 16) (up : u.isUp st = true) :
    u.outTo st (.notice (t.areaNotice a)) ∈ t.said := by
  have same : t.areaNotice a = u.areaNotice a := by
    simp only [areaNotice, rest.ownerOf_eq (by decide), rest.coverOf_eq (by decide), rest.isOrphan_eq (by decide),
      rest.badgeOf_eq (by decide)]
  rw [rest.ownerOf_eq (by decide), rest.coverOf_eq (by decide)] at changed
  rw [same]
  exact tells _ (u.areaNotice_said noted changed low high up)

theorem coverScan_tells {a st : Nat} {v : Option (Nat × Nat) × Option Nat} (noted : s.ev.areaOld.look a = some v)
    (changed : v ≠ (s.coverScan.ownerOf a, s.coverScan.coverOf a)) (low : 1 ≤ st) (high : st ≤ 16)
    (up : s.isUp st = true) : s.outTo st (.notice (s.coverScan.areaNotice a)) ∈ s.coverScan.said := by
  have scanned : Touches [.cover, .orphans] s (areaNumbers.foldl setCover s).setOrphans :=
    .after (setOrphans_touches _) (by decide) ((s.foldl_setCover_touches areaNumbers).mono (by decide))
  have keeps : (areaNumbers.foldl setCover s).setOrphans.ev.areaOld.look a = some v := by
    rw [setOrphans_ev]
    exact s.foldl_setCover_noted areaNumbers noted
  rw [← scanned.outTo_eq (by decide)]
  exact areaNotice_told s.coverScan_touches_setOrphans s.sayAreas_says_coverScan keeps changed low high
    ((scanned.isUp_eq (by decide) st).trans up)

/-! ### CLAIM and RELEASE -/

theorem takeClaim_of_fits {st area op : Nat} (range : 1 ≤ area ∧ area ≤ 12) (logged : s.logonAt st = some op)
    (permitted : s.permits st area = true) (level : 1 ≤ s.levelOf op area) (unowned : s.ownerOf area = none) :
    s.takeClaim st area 0 = ((s.giveOwner area op st).coverScan, ans .done) := by
  simp [takeClaim, areaFault?_eq_none.mpr ⟨range, rfl⟩, logged, permitted, Nat.not_lt.mpr level, unowned]

theorem takeRelease_of_fits {st area op : Nat} (range : 1 ≤ area ∧ area ≤ 12) (logged : s.logonAt st = some op)
    (owned : (s.ownerOf area).map Prod.fst = some op) (closed : s.session? area = none)
    (answered : s.unackedHolding area = []) (idle : s.transitWhere (fun t => decide (t.area = area)) = []) :
    s.takeRelease st area 0 = ((s.disown area).coverScan, ans .done) := by
  simp [takeRelease, areaFault?_eq_none.mpr ⟨range, rfl⟩, logged, owned, closed, answered, idle]

theorem coverWalk_of_owned {a : Nat} (owned : (s.ownerOf a).isSome = true) : s.coverWalk a = none := by
  simp [coverWalk, owned]

theorem ordinaryWhere_eq_nil {p : Entry → Bool} (none_ : ∀ n e, n < 512 → s.entry? n = some e → p e = false) :
    s.ordinaryWhere p = [] := by
  refine List.filter_eq_nil_iff.mpr (fun n listed => ?_)
  have low : n < 512 := of_decide_eq_true (List.mem_filter.mp listed).2
  cases found : s.entry? n with
  | none => simp
  | some e => simp [none_ n e low found]

theorem transitWhere_eq_nil {p : Transit → Bool} (none_ : ∀ q ∈ s.gate.transit, p q.2 = false) :
    s.transitWhere p = [] := by
  rw [transitWhere, List.map_eq_nil_iff, List.filter_eq_nil_iff]
  exact fun q listed => by simp [none_ q listed]

end State

end Sys2Proof.Machine

open Sys2Proof.Machine State in
/-- Settles O19: CLAIM gives the area to the operator and RELEASE takes it away; the cover scan that follows tells it. -/
theorem claimAndReleaseChangeOwner : Obligations.ClaimAndReleaseChangeOwner := by
  unfold Obligations.ClaimAndReleaseChangeOwner
  refine ⟨fun s h area op taken low high logged permitted level unowned => ?_,
    fun s h area op ost taken low high logged owned closed answered idle => ?_⟩
  · have touched := arrived_touches s h
    generalize arriving : arrived s h = u at touched ⊢
    have unowned' : u.ownerOf area = none := (touched.ownerOf_eq (by decide) _).trans unowned
    have done := takeClaim_of_fits u ⟨low, high⟩ ((touched.logonAt_eq (by decide) _).trans logged)
      ((touched.permits_eq (by decide) _ _).trans permitted) ((touched.levelOf_eq (by decide) op area).symm ▸ level) unowned'
    have operation := u.takeClaim_touches h.station area 0
    rw [done] at operation
    have quiet : u.ev = EvBuf.empty := arriving ▸ arrived_ev s h
    have gave := u.giveOwner_touches area op h.station
    have scanned := (u.giveOwner area op h.station).coverScan_touches
    have owner (a : Nat) : (u.giveOwner area op h.station).coverScan.ownerOf a =
        if a = area then some (op, h.station) else s.ownerOf a := by
      rw [scanned.ownerOf_eq (by decide), ownerOf_giveOwner, touched.ownerOf_eq (by decide)]
      rfl
    have cover : (u.giveOwner area op h.station).coverScan.coverOf area = none := by
      rw [coverOf_coverScan _ low high, coverWalk_of_owned]
      simp [ownerOf_giveOwner]
    have orphan : (u.giveOwner area op h.station).coverScan.isOrphan area = false := by
      rw [← Bool.not_eq_true, isOrphan_coverScan _ low high]
      simp [ownerOf_giveOwner]
    obtain ⟨stepped, answered, within⟩ := requestEvent_carriedOut (i := .claim h area 0)
      (l' := ([.owner, .said .answer] : List Part) ++ coverParts ++ endParts) taken rfl arriving done rfl
      operation (by decide) (by decide)
    have ended := finish_answer_eq (u.giveOwner area op h.station).coverScan h (ans .done)
    refine ⟨_, stepped, ?_, ?_, ?_, fun a other => ?_, fun st low' high' up => ?_, answered, within⟩
    · rw [ended.ownerOf_eq (by decide), owner, if_pos rfl]
    · rw [ended.coverOf_eq (by decide), cover]
    · rw [ended.isOrphan_eq (by decide), orphan]
    · rw [ended.ownerOf_eq (by decide), owner, if_neg other]
    · have noted : (u.giveOwner area op h.station).ev.areaOld.look area = some (none, u.coverOf area) := by
        simp [giveOwner, noteArea, quiet, EvBuf.empty, unowned']
      have told := coverScan_tells _ (st := st) noted (by simp [owner]) low' high' ((gave.isUp_eq (by decide) st).trans up)
      have notice : (u.giveOwner area op h.station).coverScan.areaNotice area =
          .area area (s.badgeOf op) h.station 0 false := by
        simp only [areaNotice, owner, cover, orphan, scanned.badgeOf_eq (by decide), gave.badgeOf_eq (by decide),
          touched.badgeOf_eq (by decide)]
        simp
        rfl
      rw [notice, gave.outTo_eq (by decide), touched.outTo_eq (by decide)] at told
      exact mem_sent_answer _ (mem_sent_finish _ told rfl)
  · have touched := arrived_touches s h
    generalize arriving : arrived s h = u at touched ⊢
    have owned' : u.ownerOf area = some (op, ost) := (touched.ownerOf_eq (by decide) _).trans owned
    have holding : u.unackedHolding area = [] := by
      refine u.ordinaryWhere_eq_nil (fun n e below found => decide_eq_false (fun holds => ?_))
      obtain ⟨here, unacked, shown⟩ := holds
      rw [← arriving, entry?_arrived s h below] at found
      obtain ⟨sounding, deferred⟩ := answered n e below found here unacked
      exact shown.elim sounding deferred
    have done := takeRelease_of_fits u ⟨low, high⟩ ((touched.logonAt_eq (by decide) _).trans logged)
      (by rw [owned']; rfl) ((touched.session?_eq (by decide) _).trans closed) holding
      (u.transitWhere_eq_nil (fun q listed => by
        rw [(touched .transit (by decide) : _ = _)] at listed
        simpa using idle q listed))
    have operation := u.takeRelease_touches h.station area 0
    rw [done] at operation
    have scanned := (u.disown area).coverScan_touches
    obtain ⟨stepped, answered, within⟩ := requestEvent_carriedOut (i := .release h area 0)
      (l' := ([.owner, .said .answer] : List Part) ++ coverParts ++ endParts) taken rfl arriving done rfl
      operation (by decide) (by decide)
    have ended := finish_answer_eq (u.disown area).coverScan h (ans .done)
    have owner (a : Nat) : ((u.disown area).coverScan.finish.answer h (ans .done)).ownerOf a =
        if a = area then none else s.ownerOf a := by
      rw [ended.ownerOf_eq (by decide), scanned.ownerOf_eq (by decide), ownerOf_disown, touched.ownerOf_eq (by decide)]
      rfl
    refine ⟨_, stepped, (owner area).trans (if_pos rfl), ?_, fun a other => (owner a).trans (if_neg other), answered, within⟩
    rw [ended.coverOf_eq (by decide), coverOf_coverScan _ low high, coverWalk_of_touches ended (by decide),
      coverWalk_of_touches scanned (by decide)]
end

section
/-! PROOFS. The re-send (R131, R132), STORE (R17, R18) and the loss of power or operation (R20, R189). -/

namespace Sys2Proof.Machine

namespace State

variable (s : State)

/-! ### STORE -/

theorem takeStore_of_fits {h : Hdr} (entitled : s.entitled h.station = true) (idle : s.store.job = none) :
    s.takeStore h = { s with store := { s.store with job := some ⟨h.station, h.src, h.rtag⟩ } } := by
  simp [takeStore, entitled, idle]

theorem setJob_touches (j : Option StoreJob) : Touches [.storeJob] s { s with store := { s.store with job := j } } := by
  intro p hp
  cases p with
  | storeJob => exact absurd (by decide) hp
  | keyLine => exact ⟨rfl, rfl⟩
  | _ => rfl

/-- R17: the image as the end of a STORE that matched leaves it. -/
def imageWritten : State :=
  { s with store := { s.store with job := none, fault := false, image := ⟨s.tables, imageCrc s.tables⟩ } }

theorem imageWritten_touches : Touches [.storeJob, .storeFault, .image] s s.imageWritten := by
  intro p hp
  cases p with
  | storeJob | storeFault | image => exact absurd (by decide) hp
  | keyLine => exact ⟨rfl, rfl⟩
  | _ => rfl

/-- R17: the image as the end of a STORE that did not match leaves it. -/
def imageMisread : State :=
  { s with store := { s.store with
      job := none, fault := true, image := Config.misreadImage s.store.misreads, misreads := s.store.misreads + 1 } }

theorem imageMisread_touches : Touches [.storeJob, .storeFault, .image, .misreads] s s.imageMisread := s.setStore_touches _

theorem storeMatched_eq : s.storeMatched = if s.store.fault then s.imageWritten.sysReturn 520 else s.imageWritten := rfl

theorem storeFailed_eq : s.storeFailed = s.imageMisread.sysRaise 520 .none := rfl

/-- What the end of a STORE that matched touches once the image is written. -/
theorem storeMatched_touches_written : Touches sysParts s.imageWritten s.storeMatched := by
  rw [storeMatched_eq]
  exact .ite (sysReturn_touches _ 520) (.refl _ _)

theorem storeDone_of_job {j : StoreJob} (storing : s.store.job = some j) (matched : Bool) :
    s.storeDone matched = (if matched then s.storeMatched.finish else s.storeFailed.finish).answer
      ⟨j.addr, j.station, j.rtag, 0⟩ (if matched then ans .done else ans .store) := by
  simp [storeDone, storing]

/-! ### Loss of power -/

theorem not_self_ne (x : BitVec 32) : x ≠ ~~~ x := fun same => by
  have bit := congrArg (BitVec.getLsbD · 0) same
  simp at bit

theorem tornImage_disagrees (n : Nat) (new old : Tables) :
    imageCrc (tornImage n new old).tables ≠ (tornImage n new old).crc := not_self_ne _

end State

end Sys2Proof.Machine

open Sys2Proof.Machine State in
/-- Settles O42: the frame serves the link before the entry is taken; a re-send notes nothing but its FORWARD. -/
theorem busyCommandIsRepeated : Obligations.BusyCommandIsRepeated := by
  unfold Obligations.BusyCommandIsRepeated
  intro s k x on look
  have served := s.fresh.serveLink_touches
  have look' : s.fresh.serveLink.gate.transit.look k = some x := (served.lookTransit_eq (by decide) k).trans look
  have now : s.fresh.serveLink.now = s.now := served.now_eq (by decide)
  refine ⟨fun forwarded opened => ?_, fun waiting opened => ?_, fun w waiting time due => ?_⟩
  · have busy := busyReply_of_open look' (by simp [forwarded]) (fun w window => now ▸ opened w window)
    rw [if_neg (by simp [forwarded])] at busy
    have entries (j : Nat) : (s.fresh.serveLink.busyReply k x.tag).finish.gate.transit.look j =
        if j = k then some { x with
          state := .repeatWait, windowEnd := some (x.windowEnd.getD (s.now + 200)), resend := some (s.now + 25),
          deadline := max x.deadline (s.now + 25 + s.baseTime x.tag) }
        else s.gate.transit.look j := by
      rw [(finish_touches _).lookTransit_eq (by decide), busy, lookTransit_enterRepeatWait look', now,
        served.baseTime_eq (by decide), served.lookTransit_eq (by decide)]
      rfl
    refine ⟨_, exec_replyBusy on k x.tag, (entries k).trans (if_pos rfl), fun j other => (entries j).trans (if_neg other), ?_⟩
    rw [busy]
    exact .after (finish_touches _) (by decide) (.after (enterRepeatWait_touches _ k x) (by decide) (served.mono (by decide)))
  · have busy := busyReply_of_open look' (by simp [waiting]) (fun w window => now ▸ opened w window)
    rw [if_pos waiting] at busy
    refine ⟨_, exec_replyBusy on k x.tag, ?_⟩
    rw [busy]
    exact .after (finish_touches _) (by decide) (served.mono (by decide))
  · have look' : s.fresh.gate.transit.look k = some x := look
    have ready : s.fresh.resendDue k = true := by
      have due : w ≤ s.fresh.now := due
      simp only [resendDue, ticketWhere, look', Option.map_some, Option.getD_some, waiting, time]
      simpa using due
    have entries (j : Nat) : (s.fresh.resend k).finish.gate.transit.look j =
        if j = k then some { x with state := .forwarded, resend := none } else s.gate.transit.look j :=
      ((finish_touches _).lookTransit_eq (by decide) j).trans (lookTransit_resend look' j)
    have buffer := resend_ev look'
    refine ⟨_, timerEvent_of_due (due := fun s => s.resendDue k) on ready (fun s => s.resend k), (entries k).trans (if_pos rfl),
      fun j other => (entries j).trans (if_neg other), mem_sent_finish _ ?_ rfl, .after (finish_touches_of_unlisted ?_ ?_ ?_)
        (by decide) ((s.fresh.resend_touches k).mono (by decide))⟩
    · have listed : s.fresh.forwardMsg k x true ∈ (s.fresh.resend k).ev.pre := by simp [buffer]
      exact List.mem_append_left _ (List.mem_append_right _ listed)
    · rw [buffer]; rfl
    · rw [buffer]; rfl
    · rw [buffer]
      intro o listed
      have same : o = s.fresh.forwardMsg k x true := by simpa [fresh, EvBuf.empty] using listed
      simp [same, forwardMsg, Out.kind]

open Sys2Proof.Machine State in
/-- Settles O53: STORE notes who asked, and its end writes the image, has STORE FAULT follow and answers. -/
theorem storeWritesImage : Obligations.StoreWritesImage := by
  unfold Obligations.StoreWritesImage
  intro s
  refine ⟨fun h taken entitled idle => ?_, fun j on storing => ⟨?_, ?_⟩⟩
  · have touched := arrived_touches s h
    have step : exec (.store h) s = .next ((arrived s h).takeStore h) := by
      refine (event_of_running taken.1.1 (fun s => s.request h (fun s => s.takeStore h))).trans ?_
      rw [request_of_taken taken]
    have noted := takeStore_of_fits (arrived s h) (h := h)
      ((touched.entitled_eq (by decide) (by decide) (by decide) (by decide) h.station).trans entitled)
      ((touched .storeJob (by decide) : _ = _).trans idle)
    rw [noted] at step
    exact ⟨_, step, rfl, setJob_touches _ _⟩
  · have done := storeDone_of_job s.fresh (j := j) storing true
    have written := s.fresh.storeMatched_touches_written
    have ended : Touches (.said .answer :: endParts ++ sysParts) s.fresh.imageWritten (s.fresh.storeDone true) := by
      rw [done]
      exact .after (answer_touches _ _ _) (by decide) (.after (finish_touches _) (by decide) (written.mono (by decide)))
    refine ⟨_, event_of_running on (fun s => s.storeDone true), ended .storeJob (by decide), ended .storeFault (by decide),
      ended .image (by decide), ?_, .after ended (by decide) (s.fresh.imageWritten_touches.mono (by decide))⟩
    rw [done, answer_sent]
    exact List.getLast?_concat
  · have done := storeDone_of_job s.fresh (j := j) storing false
    have raised := sysRaise_touches s.fresh.imageMisread 520 .none
    have ended : Touches (.said .answer :: endParts ++ sysParts) s.fresh.imageMisread (s.fresh.storeDone false) := by
      rw [done]
      exact .after (answer_touches _ _ _) (by decide) (.after (finish_touches _) (by decide) (raised.mono (by decide)))
    refine ⟨_, _, event_of_running on (fun s => s.storeDone false), ended .storeJob (by decide), ended .storeFault (by decide),
      ?_, raisedAlarm_active s.fresh.imageMisread 520 .none, ?_,
      .after ended (by decide) (s.fresh.imageMisread_touches.mono (by decide))⟩
    · rw [done, (answer_touches _ _ _).entry?_eq (by decide), if_neg (by decide), entry?_finish, storeFailed_eq,
        entry?_sysRaise_self]
    · rw [done, answer_sent]
      exact List.getLast?_concat

open Sys2Proof.Machine State in
/-- Settles O56: what `dark` leaves, and the image by the moment of a STORE in flight. -/
theorem lossStopsUnit : Obligations.LossStopsUnit := by
  unfold Obligations.LossStopsUnit
  intro s m i loss
  have image (power reset : Bool) : (s.store.job = none → (s.dark power reset (s.imageAfterLoss m)).store.image = s.store.image) ∧
      (s.store.job.isSome = true → m = .readBack →
        (s.dark power reset (s.imageAfterLoss m)).store.image = ⟨s.tables, imageCrc s.tables⟩) ∧
      (s.store.job.isSome = true → ∀ n, m = .writing n →
        imageCrc (s.dark power reset (s.imageAfterLoss m)).store.image.tables ≠
          (s.dark power reset (s.imageAfterLoss m)).store.image.crc) := by
    have held : (s.dark power reset (s.imageAfterLoss m)).store.image = s.imageAfterLoss m := rfl
    rw [held]
    refine ⟨fun idle => by simp [imageAfterLoss, idle], fun storing read => ?_, fun storing n writing => ?_⟩
    · obtain ⟨j, job⟩ := Option.isSome_iff_exists.mp storing
      simp [imageAfterLoss, job, read]
    · obtain ⟨j, job⟩ := Option.isSome_iff_exists.mp storing
      simp only [imageAfterLoss, job, writing]
      exact tornImage_disagrees _ _ _
  rcases loss with rfl | rfl
  · exact ⟨_, rfl, rfl, rfl, rfl, rfl, rfl, rfl, rfl, rfl, rfl, rfl, rfl, rfl, rfl, rfl, rfl, rfl, fun _ => ⟨rfl, rfl⟩,
      fun other => by simp at other, image _ _⟩
  · have off : (s.dark s.pins.power true (s.imageAfterLoss m)).running = false := Bool.and_false _
    exact ⟨_, rfl, off, rfl, rfl, rfl, rfl, rfl, rfl, rfl, rfl, rfl, rfl, rfl, rfl, rfl, rfl, rfl, fun other => by simp at other,
      fun _ => ⟨rfl, rfl⟩, image _ _⟩
end

section
/-! PROOFS. A unit in which no station is UP and no operator logged on: RESTART and start-up (R188, R189). -/

namespace Sys2Proof.Machine

/-! ### Whole blocks that an operation leaves alone -/

namespace Touches

variable {l : List Part} {s t : State}

theorem console_eq (h : Touches l s t) (hl : ∀ p ∈ [Part.link, .heard, .restartPending, .countersA], p ∉ l) :
    t.console = s.console := by
  have link : t.console.link = s.console.link := h .link (hl _ (by decide))
  have heard : t.console.heard = s.console.heard := h .heard (hl _ (by decide))
  have pending : t.console.restartPending = s.console.restartPending := h .restartPending (hl _ (by decide))
  have counters : t.console.counters = s.console.counters := h .countersA (hl _ (by decide))
  cases hs : s.console
  cases ht : t.console
  simp_all

theorem flood_eq (h : Touches l s t)
    (hl : ∀ p ∈ [Part.load, .flooded, .release, .deferred, .overflow, .overflowSubject, .overflows], p ∉ l) :
    t.flood = s.flood := by
  have load : t.flood.load = s.flood.load := h .load (hl _ (by decide))
  have flooded : t.flood.flooded = s.flood.flooded := h .flooded (hl _ (by decide))
  have release : t.flood.release = s.flood.release := h .release (hl _ (by decide))
  have deferred : t.flood.deferred = s.flood.deferred := h .deferred (hl _ (by decide))
  have overflow : t.flood.overflow = s.flood.overflow := h .overflow (hl _ (by decide))
  have subject : t.flood.subject = s.flood.subject := h .overflowSubject (hl _ (by decide))
  have overflows : t.flood.overflows = s.flood.overflows := h .overflows (hl _ (by decide))
  cases hs : s.flood
  cases ht : t.flood
  simp_all

theorem gate_eq (h : Touches l s t) (hl : ∀ p ∈ [Part.transit, .ticket, .countersG], p ∉ l) : t.gate = s.gate := by
  have transit : t.gate.transit = s.gate.transit := h .transit (hl _ (by decide))
  have ticket : t.gate.ticket = s.gate.ticket := h .ticket (hl _ (by decide))
  have counters : t.gate.counters = s.gate.counters := h .countersG (hl _ (by decide))
  cases hs : s.gate
  cases ht : t.gate
  simp_all

theorem time_eq (h : Touches l s t) (hl : ∀ p ∈ [Part.unitTime, .millTime, .clockUnset], p ∉ l) : t.time = s.time := by
  have unit : t.time.unit = s.time.unit := h .unitTime (hl _ (by decide))
  have mill : t.time.mill = s.time.mill := h .millTime (hl _ (by decide))
  have clock : t.time.clockUnset = s.time.clockUnset := h .clockUnset (hl _ (by decide))
  cases hs : s.time
  cases ht : t.time
  simp_all

theorem tables_eq (h : Touches l s t) (hl : ∀ p ∈ [Part.stations, .roster, .areas, .tags], p ∉ l) : t.tables = s.tables := by
  have stations : t.tables.stations = s.tables.stations := h .stations (hl _ (by decide))
  have roster : t.tables.roster = s.tables.roster := h .roster (hl _ (by decide))
  have areas : t.tables.areas = s.tables.areas := h .areas (hl _ (by decide))
  have tags : t.tables.tags = s.tables.tags := h .tags (hl _ (by decide))
  cases hs : s.tables
  cases ht : t.tables
  simp_all

theorem store_eq (h : Touches l s t) (hl : ∀ p ∈ [Part.storeJob, .storeFault, .image, .misreads], p ∉ l) :
    t.store = s.store := by
  have job : t.store.job = s.store.job := h .storeJob (hl _ (by decide))
  have fault : t.store.fault = s.store.fault := h .storeFault (hl _ (by decide))
  have image : t.store.image = s.store.image := h .image (hl _ (by decide))
  have misreads : t.store.misreads = s.store.misreads := h .misreads (hl _ (by decide))
  cases hs : s.store
  cases ht : t.store
  simp_all

/-- The Authority Unit but for cover stations and orphans. -/
theorem auth_eq (h : Touches l s t) (hl : ∀ p ∈ [Part.logon, .grace, .owner, .key, .keyLine], p ∉ l) :
    t.auth = { s.auth with cover := t.auth.cover, orphans := t.auth.orphans } := by
  have logon : t.auth.logon = s.auth.logon := h .logon (hl _ (by decide))
  have grace : t.auth.grace = s.auth.grace := h .grace (hl _ (by decide))
  have owner : t.auth.owner = s.auth.owner := h .owner (hl _ (by decide))
  have key : t.auth.key = s.auth.key := h .key (hl _ (by decide))
  have line : t.auth.keyLine = s.auth.keyLine ∧ t.auth.keySince = s.auth.keySince := h .keyLine (hl _ (by decide))
  cases hs : s.auth
  cases ht : t.auth
  simp_all

/-- The Alarm Processor but for its entries. -/
theorem alarm_eq (h : Touches l s t)
    (hl : ∀ p ∈ [Part.gens, .tableFull, .outAreas, .discarded, .duplicates, .dropped, .unitAlarm], p ∉ l) :
    t.alarm = { s.alarm with entries := t.alarm.entries } := by
  have gens : t.alarm.gens = s.alarm.gens := h .gens (hl _ (by decide))
  have full : t.alarm.tableFull = s.alarm.tableFull := h .tableFull (hl _ (by decide))
  have out : t.alarm.out = s.alarm.out := h .outAreas (hl _ (by decide))
  have discarded : t.alarm.discarded = s.alarm.discarded := h .discarded (hl _ (by decide))
  have duplicates : t.alarm.duplicates = s.alarm.duplicates := h .duplicates (hl _ (by decide))
  have dropped : t.alarm.dropped = s.alarm.dropped := h .dropped (hl _ (by decide))
  have unitAlarm : t.alarm.unitAlarm = s.alarm.unitAlarm := h .unitAlarm (hl _ (by decide))
  cases hs : s.alarm
  cases ht : t.alarm
  simp_all

end Touches

namespace State

/-! ### A vacant unit -/

theorem setEntry_ann (s : State) (n : Nat) (e : Entry) : (s.setEntry n e).ann = s.ann := by
  unfold setEntry touchIfChanged touch
  split
  · rfl
  · split <;> rfl

/-- No operator is logged on, no station is UP, no area has owner or cover, only system alarms are in use, and nothing is ready
to be sent: no route leads anywhere, and nothing can be sent to a console. -/
structure Vacant (s : State) : Prop where
  logon : s.auth.logon = []
  cover : s.auth.cover = []
  link : s.console.link = []
  ann : s.ann = Annun.initial
  ev : s.ev = { EvBuf.empty with touched := s.ev.touched }
  system : ∀ n e, s.entry? n = some e → e.tag = none

namespace Vacant

variable {s : State} (v : s.Vacant)
include v

theorem staffed_eq (st : Nat) : s.staffed st = false := by simp [staffed, logonAt, v.logon]

theorem isUp_eq (st : Nat) : s.isUp st = false := by
  simp [isUp, State.link, v.link, Tbl.getD]

theorem upStations_eq : s.upStations = [] := by simp [upStations, v.isUp_eq]

theorem routeNow_eq (n : Nat) : s.routeNow n = [] := by
  cases found : s.entry? n with
  | none => exact s.routeNow_of_none found
  | some e => simp [routeNow, found, v.system n e found, systemRoute, staffedSupervisors, v.staffed_eq]

theorem annRec_eq (n : Nat) : s.annRec n = ⟨[], [], none⟩ := by
  simp [annRec, v.ann, Annun.initial, Tbl.getD]

theorem setAnnRec_eq (n : Nat) : s.setAnnRec n ⟨[], [], none⟩ = s := by
  have ann : s.ann = ⟨[], [], [], 0⟩ := v.ann
  cases s
  simp_all [setAnnRec, Tbl.setD, Tbl.del]

theorem announceAt_eq (n : Nat) : s.announceAt n = s := by
  simp [announceAt, v.routeNow_eq, updAnnRec, v.annRec_eq, v.setAnnRec_eq, presentAt]

theorem reroute_eq : s.reroute = s := by
  have passed (news : List (Nat × NSet)) (empty : ∀ p ∈ news, p.2 = []) :
      stationNumbers.foldl (fun u st => u.rerouteAt news st) s = s := by
    refine List.foldl_fixed' (fun st => ?_) _
    have leavers : news.filter (fun p => decide (st ∈ (s.annRec p.1).route ∧ st ∉ p.2)) = [] := by
      simp [v.annRec_eq]
    have joiners : news.filter (fun p => decide (st ∉ (s.annRec p.1).route ∧ st ∈ p.2)) = [] :=
      List.filter_eq_nil_iff.mpr (fun p listed => by simp [empty p listed])
    simp only [rerouteAt, leavers, joiners]
    rfl
  have noted (n : Nat) : s.updAnnRec n (fun a => { a with route := [] }) = s := by
    simp [updAnnRec, v.annRec_eq, v.setAnnRec_eq]
  unfold reroute
  simp only [v.routeNow_eq]
  rw [passed _ (by simp), List.foldl_map, List.foldl_fixed' noted]

theorem setCover_eq (a : Nat) : s.setCover a = s := by
  have walk : s.coverWalk a = none := by simp [coverWalk, covers, v.isUp_eq]
  have cover : s.coverOf a = none := by simp [coverOf, v.cover]
  simp [setCover, walk, cover]

theorem sayAreas_eq : s.sayAreas = s := by
  have areaOld : s.ev.areaOld = [] := by rw [v.ev]; rfl
  cases s
  case mk ev sent pending =>
    cases ev
    simp_all [sayAreas, areaNotices, say]

theorem finish_eq : s.finish =
    { s with alarm := { s.alarm with unitAlarm := s.urgentActive }, ev := EvBuf.empty } := by
  have refill : s.refillAll = s := by rw [refillAll, v.ev]; rfl
  have calm : s.attentionDue = fun _ => false := funext (fun st => by simp [attentionDue, v.isUp_eq])
  have shown : s.newShown = s.ann.shown := by simp [newShown, calm]
  have announced : s.announces = [] := by simp [announces, v.upStations_eq]
  have attended : s.attentions = [] := by simp [attentions, calm]
  have ev := v.ev
  simp only [finish, v.reroute_eq, refill, shown, announced, attended, updateNotices]
  rw [ev]
  simp [EvBuf.empty]

theorem setEntry {n : Nat} {e : Entry} (system : e.tag = none) : (s.setEntry n e).Vacant where
  logon := (setEntry_touches s n e .logon (by decide)).trans v.logon
  cover := (setEntry_touches s n e .cover (by decide)).trans v.cover
  link := (setEntry_touches s n e .link (by decide)).trans v.link
  ann := (s.setEntry_ann n e).trans v.ann
  ev := by
    unfold State.setEntry touchIfChanged touch
    split
    · exact v.ev
    · split
      · exact v.ev
      · rw [v.ev]
  system := fun m e' found => by
    rw [entry_setEntry] at found
    split at found
    · cases found; exact system
    · exact v.system m e' found

theorem sysRaise_eq {n : Nat} (free : s.entry? n = none) (x : Subject) : s.sysRaise n x = s.setEntry n (s.raisedAlarm n x) := by
  have system : (s.raisedAlarm n x).tag = none := by simp [raisedAlarm, free, Entry.systemAtReset]
  have raised : s.sysRaise n x = (s.setEntry n (s.raisedAlarm n x)).announceAt n := by
    simp only [State.sysRaise, raisedAlarm, free]
  rw [raised, (v.setEntry system).announceAt_eq]

theorem sysRaise {n : Nat} (free : s.entry? n = none) (x : Subject) : (s.sysRaise n x).Vacant := by
  rw [v.sysRaise_eq free]
  exact v.setEntry (by simp [raisedAlarm, free, Entry.systemAtReset])

theorem setOrphans : s.setOrphans.Vacant :=
  ⟨v.logon, v.cover, v.link, v.ann, v.ev, v.system⟩

theorem coverScan_eq : s.coverScan =
    s.setOrphans.sysFollow 516 s.auth.orphans s.setOrphans.auth.orphans (.areas s.setOrphans.auth.orphans) := by
  unfold State.coverScan
  rw [List.foldl_fixed' v.setCover_eq, v.setOrphans.sayAreas_eq, v.setOrphans.reroute_eq]

end Vacant

/-- What start-up begins from: a vacant unit with no alarm in use. -/
structure Blank (s : State) : Prop where
  vacant : s.Vacant
  free : s.alarm.entries = []
  orphans : s.auth.orphans = []

namespace Blank

variable {s : State} (b : s.Blank)
include b

theorem entry?_eq (n : Nat) : s.entry? n = none := by simp [entry?, b.free]

/-- R40: the first cover scan raises ORPHAN AREA unless every area is out of service. -/
theorem coverScan_eq : s.coverScan = if s.setOrphans.auth.orphans = [] then s.setOrphans
    else s.setOrphans.sysRaise 516 (.areas s.setOrphans.auth.orphans) := by
  rw [b.vacant.coverScan_eq, b.orphans, sysFollow]
  by_cases none_ : s.setOrphans.auth.orphans = []
  · simp
  · rw [if_neg (Ne.symm none_), if_pos rfl, if_neg none_]

theorem coverScan : s.coverScan.Vacant := by
  rw [b.coverScan_eq]
  split
  · exact b.vacant.setOrphans
  · exact b.vacant.setOrphans.sysRaise (b.entry?_eq 516) _

theorem orphans_coverScan : s.coverScan.auth.orphans = areaNumbers.filter s.orphanNow := by
  rw [b.coverScan_eq]
  split
  · rfl
  · exact (sysRaise_touches _ 516 _) .orphans (by decide)

omit b in
theorem startUpAlarms_eq : s.startUpAlarms =
    if s.auth.key then (if s.store.fault then s.coverScan.sysRaise 520 .none else s.coverScan).sysRaise 519 .none
    else if s.store.fault then s.coverScan.sysRaise 520 .none else s.coverScan := by
  have scanned := s.coverScan_touches
  have fault : s.coverScan.store.fault = s.store.fault := scanned .storeFault (by decide)
  have key : (if s.store.fault then s.coverScan.sysRaise 520 .none else s.coverScan).auth.key = s.auth.key := by
    split
    · exact (sysRaise_touches _ 520 _ .key (by decide)).trans (scanned .key (by decide))
    · exact scanned .key (by decide)
  simp only [State.startUpAlarms, fault, key]

theorem entry?_coverScan {n : Nat} (other : n ≠ 516) : s.coverScan.entry? n = none :=
  (s.entry?_coverScan_ne other).trans (b.entry?_eq n)

theorem startUpAlarms : s.startUpAlarms.Vacant := by
  rw [startUpAlarms_eq]
  have faulted : (if s.store.fault then s.coverScan.sysRaise 520 .none else s.coverScan).Vacant := by
    split
    · exact b.coverScan.sysRaise (b.entry?_coverScan (by decide)) _
    · exact b.coverScan
  split
  · refine faulted.sysRaise ?_ _
    split
    · exact (entry?_sysRaise_ne _ (by decide) _).trans (b.entry?_coverScan (by decide))
    · exact b.entry?_coverScan (by decide)
  · exact faulted

/-- R18, R38, R40: the alarms that stand once the unit has started. -/
theorem entry?_startUpAlarms (n : Nat) : s.startUpAlarms.entry? n =
    if n = 519 ∧ s.auth.key = true then
      some ((if s.store.fault then s.coverScan.sysRaise 520 .none else s.coverScan).raisedAlarm 519 .none)
    else if n = 520 ∧ s.store.fault = true then some (s.coverScan.raisedAlarm 520 .none)
    else if n = 516 then s.coverScan.entry? 516 else none := by
  rw [startUpAlarms_eq]
  have rest (other : n ≠ 516) := b.entry?_coverScan other
  cases key : s.auth.key <;> cases fault : s.store.fault <;>
    simp only [entry?_sysRaise, if_true, if_false, Bool.false_eq_true, and_true, and_false] <;>
    by_cases orphan : n = 516 <;> simp [orphan, rest]

theorem orphans_startUpAlarms : s.startUpAlarms.auth.orphans = areaNumbers.filter s.orphanNow := by
  rw [startUpAlarms_eq, ← b.orphans_coverScan]
  have faulted : (if s.store.fault then s.coverScan.sysRaise 520 .none else s.coverScan).auth.orphans =
      s.coverScan.auth.orphans := by
    split
    · exact (sysRaise_touches _ 520 _) .orphans (by decide)
    · rfl
  split
  · exact (sysRaise_touches _ 519 _ .orphans (by decide)).trans faulted
  · exact faulted

/-- R63: none of the alarms of a start drives UNIT ALARM. -/
theorem finish_startUpAlarms : s.startUpAlarms.finish =
    { s.startUpAlarms with alarm := { s.startUpAlarms.alarm with unitAlarm := false }, ev := EvBuf.empty } := by
  have calm : s.startUpAlarms.urgentActive = false := by simp [urgentActive, b.entry?_startUpAlarms]
  rw [b.startUpAlarms.finish_eq, calm]

theorem ann_finish_startUpAlarms : s.startUpAlarms.finish.ann = Annun.initial := by
  rw [b.finish_startUpAlarms]
  exact b.startUpAlarms.ann

theorem alarm_finish_startUpAlarms : s.startUpAlarms.finish.alarm =
    { s.alarm with entries := s.startUpAlarms.finish.alarm.entries, unitAlarm := false } := by
  have alarmed := s.startUpAlarms_touches.alarm_eq (by decide)
  rw [b.finish_startUpAlarms]
  generalize s.startUpAlarms = t at alarmed ⊢
  cases ht : t.alarm
  simp_all

end Blank

theorem cleared_blank (s : State) : s.cleared.Blank :=
  ⟨⟨rfl, rfl, rfl, rfl, rfl, fun _ _ found => by cases found⟩, rfl, rfl⟩

theorem woken_blank (s : State) (p : Straps) : (s.woken p).Blank :=
  ⟨⟨rfl, rfl, rfl, rfl, rfl, fun _ _ found => by cases found⟩, rfl, rfl⟩

theorem takeRestart_of_fits {s : State} {st : Nat} (entitled : s.entitled st = true) (idle : s.store.job = none) :
    s.takeRestart st = (s.cleared.startUpAlarms, ans .done) := by
  simp [takeRestart, entitled, idle]

end State

/-- What the footprint of a command says of its outcome. -/
theorem touches_of_exec {i : Instr} {s t : State} (step : exec i s = .next t) : Touches (footprint i) s.fresh t := by
  obtain ⟨t', step', touched⟩ := commandsKeepToTheirFootprint i s
  rw [step] at step'
  cases step'
  exact touched

end Sys2Proof.Machine

open Sys2Proof.Machine State in
/-- Settles O54: the cleared unit is blank, so that the start-up alarms are all that stands in it. -/
theorem restartClearsLiveState : Obligations.RestartClearsLiveState := by
  unfold Obligations.RestartClearsLiveState
  intro s h taken entitled idle
  have touched := arrived_touches s h
  have out : (arrived s h).alarm.out = s.alarm.out := touched .outAreas (by decide)
  have fault : (arrived s h).store.fault = s.store.fault := touched .storeFault (by decide)
  have key : (arrived s h).auth.key = s.auth.key := touched .key (by decide)
  have ticket : (arrived s h).gate.ticket = s.gate.ticket := touched .ticket (by decide)
  have resync : (arrived s h).plant.resync = s.plant.resync := touched .plantResync (by decide)
  have now : (arrived s h).now = s.now := touched.now_eq (by decide)
  have done := takeRestart_of_fits (s := arrived s h) (st := h.station)
    ((touched.entitled_eq (by decide) (by decide) (by decide) (by decide) h.station).trans entitled)
    ((touched .storeJob (by decide) : _ = _).trans idle)
  have step : exec (.restart h) s = .next ((arrived s h).cleared.startUpAlarms.finish.answer h (ans .done)) :=
    requestEvent_of_done (f := fun s => s.takeRestart h.station) taken done rfl
  have blank := (arrived s h).cleared_blank
  generalize clearing : (arrived s h).cleared = c at step blank
  have raised := c.startUpAlarms_touches
  have ended : Touches (.said .answer :: endParts) c.startUpAlarms (c.startUpAlarms.finish.answer h (ans .done)) :=
    finish_answer_touches _ h _
  have entry (n : Nat) : (c.startUpAlarms.finish.answer h (ans .done)).entry? n = c.startUpAlarms.entry? n :=
    ended.entry?_eq (by decide) n
  have whole : Touches (.said .answer :: endParts ++ coverParts) c (c.startUpAlarms.finish.answer h (ans .done)) :=
    .after ended (by decide) (raised.mono (by decide))
  refine ⟨_, step, ?_, ?_, ?_, ?_, ?_, fun a low high => ?_, fun n e found => ?_, ?_, ?_, ?_, ?_, ?_, ?_, ?_, ?_, ?_, ?_, ?_, ?_,
    ?_, ?_, answered_answer _ _ _, touches_of_exec step⟩
  · rw [whole.console_eq (by decide), ← clearing]; rfl
  · rw [(whole .logon (by decide) : _ = _), ← clearing]; rfl
  · rw [(whole .grace (by decide) : _ = _), ← clearing]; rfl
  · rw [(whole .owner (by decide) : _ = _), ← clearing]; rfl
  · rw [(ended .cover (by decide) : _ = _), blank.startUpAlarms.cover]
  · have orphans : (c.startUpAlarms.finish.answer h (ans .done)).auth.orphans = areaNumbers.filter c.orphanNow :=
      (ended .orphans (by decide)).trans blank.orphans_startUpAlarms
    have service : c.inService a = s.inService a := by rw [← clearing, inService, inService, ← out]; rfl
    have unowned : c.ownerOf a = none := by rw [← clearing]; rfl
    have uncovered : c.coverOf a = none := by rw [← clearing]; rfl
    rw [isOrphan, orphans, decide_eq_true_eq, List.mem_filter, mem_areaNumbers]
    simp [low, high, orphanNow, service, unowned, uncovered]
  · rw [entry, blank.entry?_startUpAlarms] at found
    by_contra other
    simp only [not_or] at other
    simp [other] at found
  · have stands : c.store.fault = s.store.fault := by rw [← clearing, ← fault]; rfl
    rw [entry, blank.entry?_startUpAlarms, stands]
    cases s.store.fault <;> simp
  · have held : c.auth.key = s.auth.key := by rw [← clearing, ← key]; rfl
    rw [entry, blank.entry?_startUpAlarms, held]
    cases s.auth.key <;> simp
  · rw [(whole .gens (by decide) : _ = _), ← clearing]; rfl
  · rw [(whole .tableFull (by decide) : _ = _), ← clearing]; rfl
  · rw [(whole .discarded (by decide) : _ = _), ← clearing]; rfl
  · rw [(whole .duplicates (by decide) : _ = _), ← clearing]; rfl
  · rw [(whole .dropped (by decide) : _ = _), ← clearing]; rfl
  · rw [blank.finish_startUpAlarms]; rfl
  · rw [whole.flood_eq (by decide), ← clearing]; rfl
  · rw [(whole .overrides (by decide) : _ = _), ← clearing]; rfl
  · rw [whole.gate_eq (by decide), ← clearing, ← ticket]; rfl
  · rw [(whole .handover (by decide) : _ = _), ← clearing]; rfl
  · rw [whole.plant_eq (by decide), ← clearing, ← resync, ← now]; rfl
  · exact blank.ann_finish_startUpAlarms

open Sys2Proof.Machine State in
/-- Settles O55: both events wake the same blank unit, whose start-up alarms are all that stands in it. -/
theorem startUpLoadsImage : Obligations.StartUpLoadsImage := by
  unfold Obligations.StartUpLoadsImage
  intro s p i
  refine ⟨fun starts => ?_, fun held => ?_, fun off => ?_⟩
  · have step : exec i s = .next (s.startUp p) := by
      rcases starts with ⟨rfl, released⟩ | ⟨rfl, powered⟩
      · refine congrArg Host.Outcome.next (show s.powerOn p = s.startUp p from ?_)
        simp [powerOn, released]
      · exact congrArg Host.Outcome.next (if_pos powered)
    have blank := s.woken_blank p
    have whole := s.startUp_touches_woken p
    have ended : Touches endParts (s.woken p).startUpAlarms (s.startUp p) := finish_touches _
    have entry (n : Nat) : (s.startUp p).entry? n = (s.woken p).startUpAlarms.entry? n := ended.entry?_eq (by decide) n
    have key : (s.woken p).auth.key = false := rfl
    have fault : (s.woken p).store.fault = (loaded s.store.image).2 := rfl
    have tables : (s.startUp p).tables = (loaded s.store.image).1 := whole.tables_eq (by decide)
    have store : (s.startUp p).store = ⟨none, (loaded s.store.image).2, s.store.image, s.store.misreads⟩ :=
      whole.store_eq (by decide)
    have alarm520 : (s.startUp p).entry? 520 =
        if (loaded s.store.image).2 = true then some ((s.woken p).coverScan.raisedAlarm 520 .none) else none := by
      rw [entry, blank.entry?_startUpAlarms, key, fault]
      simp
    have orphans : areaNumbers.filter (s.woken p).orphanNow = areaNumbers := by rfl
    refine ⟨_, step, whole .pins (by decide), whole.time_eq (by decide), fun agrees => ?_, fun differs => ?_, ?_, ?_,
      whole.console_eq (by decide), ?_, fun n e found => ?_, ?_, ?_, whole.flood_eq (by decide), ?_,
      whole .overrides (by decide), whole.gate_eq (by decide), whole .handover (by decide), whole.plant_eq (by decide),
      s.startUp_sent p, whole .queue (by decide)⟩
    · have load : loaded s.store.image = (s.store.image.tables, false) := by simp [loaded, Image.agrees, agrees]
      rw [tables, store, alarm520, load]
      exact ⟨rfl, rfl, rfl⟩
    · have load : loaded s.store.image = (Tables.empty, true) := by simp [loaded, Image.agrees, differs]
      rw [tables, store, alarm520, load]
      exact ⟨rfl, rfl, rfl⟩
    · rw [store]
    · rw [store]
    · have cover : (s.startUp p).auth.cover = [] := (ended .cover (by decide)).trans blank.startUpAlarms.cover
      have orphaned : (s.startUp p).auth.orphans = areaNumbers :=
        ((ended .orphans (by decide)).trans blank.orphans_startUpAlarms).trans orphans
      rw [whole.auth_eq (by decide), cover, orphaned]
      rfl
    · rw [entry, blank.entry?_startUpAlarms, key] at found
      by_contra other
      simp only [not_or] at other
      simp [other] at found
    · have raised : (s.woken p).coverScan.entry? 516 =
          some ((s.woken p).setOrphans.raisedAlarm 516 (.areas (s.woken p).setOrphans.auth.orphans)) := by
        have standing : (s.woken p).setOrphans.auth.orphans ≠ [] := by
          rw [setOrphans_orphans, orphans]
          decide
        rw [blank.coverScan_eq, if_neg standing, entry?_sysRaise_self]
      refine ⟨_, ?_, raisedAlarm_active (s.woken p).setOrphans 516 (.areas (s.woken p).setOrphans.auth.orphans)⟩
      rw [entry, blank.entry?_startUpAlarms, key, ← raised]
      simp
    · have alarmed := blank.alarm_finish_startUpAlarms
      have before : (s.woken p).alarm = AlarmProc.initial := rfl
      rw [← startUp_eq, before] at alarmed
      generalize (s.startUp p).alarm = alarm at alarmed ⊢
      exact alarmed
    · rw [startUp_eq, blank.ann_finish_startUpAlarms]
  · have step : exec (.powerUp p) s = .next (s.dark true true s.store.image) := by
      refine congrArg Host.Outcome.next (show s.powerOn p = _ from ?_)
      simp [powerOn, held]
    exact ⟨_, step, rfl, rfl, rfl⟩
  · exact ⟨_, congrArg Host.Outcome.next (if_neg (by simp [off])), rfl, rfl, rfl⟩
end

section
/-! PROOFS. What the disposition order, a removal and a sweep leave of an ordinary entry: each changes the entry it is run
on, and of the entries that depart with it only what a re-decision sets. -/

namespace Sys2Proof.Machine

/-- What no disposition or acknowledgement changes of an entry. -/
def Entry.core (e : Entry) : Entry := { e with ack := none, cur := .low, stage := 0, disp := .annunciated }

theorem Entry.active_of_core {e f : Entry} (h : e.core = f.core) : e.active = f.active :=
  (congrArg Entry.active h : e.core.active = f.core.active)
theorem Entry.confirmed_of_core {e f : Entry} (h : e.core = f.core) : e.confirmed = f.confirmed :=
  (congrArg Entry.confirmed h : e.core.confirmed = f.core.confirmed)
theorem Entry.cfg_of_core {e f : Entry} (h : e.core = f.core) : e.cfg = f.cfg :=
  (congrArg Entry.cfg h : e.core.cfg = f.core.cfg)

namespace State

variable (s : State)

theorem mem_ordinary {n : Nat} {e : Entry} (low : n < 512) (he : s.entry? n = some e) : n ∈ s.ordinary :=
  List.mem_filter.mpr ⟨List.mem_map.mpr ⟨(n, e), Tbl.mem_of_look he, rfl⟩, decide_eq_true low⟩

theorem lt_of_mem_ordinary {n : Nat} (h : n ∈ s.ordinary) : n < 512 := of_decide_eq_true (List.mem_filter.mp h).2

theorem mem_ordinaryWhere {p : Entry → Bool} {n : Nat} :
    n ∈ s.ordinaryWhere p ↔ n < 512 ∧ ∃ e, s.entry? n = some e ∧ p e = true := by
  constructor
  · intro h
    obtain ⟨listed, holds⟩ := List.mem_filter.mp h
    refine ⟨s.lt_of_mem_ordinary listed, ?_⟩
    cases he : s.entry? n with
    | none => simp [he] at holds
    | some e => exact ⟨e, rfl, by simpa [he] using holds⟩
  · rintro ⟨low, e, he, holds⟩
    exact List.mem_filter.mpr ⟨s.mem_ordinary low he, by simpa [he] using holds⟩

/-! ### A walk over entry numbers -/

/-- What a walk makes of one entry: what a visit makes of it once it is visited, other visits leaving it alone. -/
theorem entry?_foldl_of_mem {f : State → Nat → State} {m : Nat} {Q : Option Entry → Prop} {start : Option Entry → Prop}
    (again : ∀ x, Q x → start x) (visit : ∀ s : State, start (s.entry? m) → Q ((f s m).entry? m))
    (other : ∀ (s : State) n, n ≠ m → Q (s.entry? m) → Q ((f s n).entry? m))
    (before : ∀ (s : State) n, n ≠ m → start (s.entry? m) → start ((f s n).entry? m)) (ns : List Nat) :
    ∀ s : State, start (s.entry? m) → (m ∈ ns ∨ Q (s.entry? m)) → Q ((ns.foldl f s).entry? m) := by
  induction ns with
  | nil => rintro s - (hm | hQ); exacts [absurd hm (by simp), hQ]
  | cons n ns ih =>
    intro s hs hm
    by_cases hn : n = m
    · subst hn
      exact ih _ (again _ (visit s hs)) (.inr (visit s hs))
    · refine ih _ (before s n hn hs) (hm.imp (fun h => ?_) (other s n hn))
      exact (List.mem_cons.mp h).resolve_left (Ne.symm hn)

/-- An entry that no visit of a walk changes. -/
theorem entry?_foldl_of_not_mem {f : State → Nat → State} {m : Nat} (ns : List Nat)
    (other : ∀ (s : State), ∀ n ∈ ns, (f s n).entry? m = s.entry? m) (s : State) :
    (ns.foldl f s).entry? m = s.entry? m := by
  induction ns generalizing s with
  | nil => rfl
  | cons n ns ih =>
    exact (ih (fun s k hk => other s k (List.mem_cons_of_mem _ hk)) _).trans (other s n List.mem_cons_self)

/-! ### Admission and the disposition order -/

theorem entry?_annunciate (n m : Nat) : (s.annunciate n).entry? m =
    if m = n then (s.entry? n).map (fun e => { e with disp := .annunciated }) else s.entry? m := by
  unfold annunciate
  split
  case h_1 free =>
    split
    · simp_all
    · rfl
  case h_2 e he =>
    rw [(appendItem_touches _ e.area _ _).entry?_eq (by decide), (announceAt_touches _ n).entry?_eq (by decide),
      (updAnnRec_touches _ n _).entry?_eq (by decide), entry_setEntry, he, Option.map_some]

theorem entry?_defer (n a m : Nat) : (s.defer n a).entry? m =
    if m = n then (s.entry? n).map (fun e => { e with disp := .deferred }) else s.entry? m := by
  rw [defer]
  exact entry?_updEntry _ n _ m

theorem entry?_noteOverflow_ne (a : Nat) {m : Nat} (h : m ≠ 515) : (s.noteOverflow a).entry? m = s.entry? m := by
  rw [noteOverflow, entry?_sysRaise_ne _ h]
  rfl

/-- An admission as its three outcomes, `weighed` being the state once the weight has been added. -/
theorem admitEntry_cases {n : Nat} {e : Entry} (he : s.entry? n = some e) (counted : Bool) :
    let weighed := if counted then s.addCounted e.area e.cur else s
    s.admitEntry n counted = s.defer n e.area ∨ s.admitEntry n counted = (weighed.noteOverflow e.area).annunciate n ∨
      s.admitEntry n counted = weighed.annunciate n := by
  simp only [admitEntry, he]
  split
  · split
    · exact .inl rfl
    · exact .inr (.inl rfl)
  · exact .inr (.inr rfl)

theorem entry?_weighed (counted : Bool) (a : Nat) (p : Priority) (m : Nat) :
    (if counted then s.addCounted a p else s).entry? m = s.entry? m := by
  split
  · exact (s.addCounted_touches a p).entry?_eq (by decide) m
  · rfl

theorem entry?_admitEntry_ne {n m : Nat} (counted : Bool) (h : m ≠ n) (h515 : m ≠ 515) :
    (s.admitEntry n counted).entry? m = s.entry? m := by
  cases he : s.entry? n with
  | none => simp only [admitEntry, he]
  | some e =>
    obtain deferred | overflown | plain := s.admitEntry_cases he counted
    · rw [deferred, entry?_defer, if_neg h]
    · rw [overflown, entry?_annunciate, if_neg h, entry?_noteOverflow_ne _ _ h515, entry?_weighed]
    · rw [plain, entry?_annunciate, if_neg h, entry?_weighed]

theorem entry?_admitEntry_self {n : Nat} {e : Entry} (he : s.entry? n = some e) (counted : Bool) (low : n < 512) :
    ∃ d, (d = Disposition.annunciated ∨ d = .deferred) ∧ (s.admitEntry n counted).entry? n = some { e with disp := d } := by
  have h515 : n ≠ 515 := by omega
  obtain deferred | overflown | plain := s.admitEntry_cases he counted
  · exact ⟨.deferred, .inr rfl, by rw [deferred, entry?_defer, if_pos rfl, he]; rfl⟩
  · exact ⟨.annunciated, .inl rfl, by
      rw [overflown, entry?_annunciate, if_pos rfl, entry?_noteOverflow_ne _ _ h515, entry?_weighed, he]; rfl⟩
  · exact ⟨.annunciated, .inl rfl, by rw [plain, entry?_annunciate, if_pos rfl, entry?_weighed, he]; rfl⟩

theorem entry?_decideUnshelved_ne {n m : Nat} (counted : Bool) (h : m ≠ n) (h515 : m ≠ 515) :
    (s.decideUnshelved n counted).entry? m = s.entry? m := by
  unfold decideUnshelved
  split
  · rfl
  · split
    · rw [entry_setEntry, if_neg h]
    · exact s.entry?_admitEntry_ne counted h h515

theorem entry?_decideUnshelved_self {n : Nat} {e : Entry} (he : s.entry? n = some e) (counted : Bool) (low : n < 512) :
    ∃ d, d ≠ Disposition.shelved ∧ (s.decideUnshelved n counted).entry? n = some { e with disp := d } := by
  simp only [decideUnshelved, he]
  split
  · exact ⟨.suppressed, by simp, by rw [entry_setEntry, if_pos rfl]⟩
  · obtain ⟨d, outcome, entry⟩ := s.entry?_admitEntry_self he counted low
    exact ⟨d, by rcases outcome with rfl | rfl <;> simp, entry⟩

theorem entry?_decideEntry_ne {n m : Nat} (counted : Bool) (h : m ≠ n) (h515 : m ≠ 515) :
    (s.decideEntry n counted).entry? m = s.entry? m := by
  unfold decideEntry
  split
  · rfl
  · split
    · rw [entry_setEntry, if_neg h]
    · exact s.entry?_decideUnshelved_ne counted h h515

theorem core_decideEntry (n : Nat) (counted : Bool) {m : Nat} (low : m < 512) :
    ((s.decideEntry n counted).entry? m).map Entry.core = (s.entry? m).map Entry.core := by
  by_cases h : m = n
  · subst h
    cases he : s.entry? m with
    | none => simp only [decideEntry, he]
    | some e =>
      simp only [decideEntry, he]
      split
      · rw [entry_setEntry, if_pos rfl]
        rfl
      · obtain ⟨d, -, entry⟩ := s.entry?_decideUnshelved_self he counted low
        rw [entry]
        rfl
  · rw [entry?_decideEntry_ne s counted h (by omega)]

theorem core_resetForDecision (n m : Nat) :
    ((s.resetForDecision n).entry? m).map Entry.core = (s.entry? m).map Entry.core := by
  rw [entry?_resetForDecision]
  split
  case isTrue same =>
    subst same
    cases s.entry? m <;> rfl
  case isFalse => rfl

theorem core_foldl {f : State → Nat → State} {m : Nat} (ns : List Nat)
    (step : ∀ (s : State) n, ((f s n).entry? m).map Entry.core = (s.entry? m).map Entry.core) (s : State) :
    ((ns.foldl f s).entry? m).map Entry.core = (s.entry? m).map Entry.core := by
  induction ns generalizing s with
  | nil => rfl
  | cons n ns ih => exact (ih _).trans (step s n)

/-- A parent departure re-decides children; it removes none and changes no condition. -/
theorem core_parentDeparted (tag : Nat) {m : Nat} (low : m < 512) :
    ((s.parentDeparted tag).entry? m).map Entry.core = (s.entry? m).map Entry.core := by
  refine core_foldl _ (fun s n => ?_) s
  split
  · rw [core_decideEntry _ n true low, core_resetForDecision]
  · rfl

/-! ### Removal -/

theorem entry?_tableFullTest_ne {m : Nat} (h : m ≠ 514) : s.tableFullTest.entry? m = s.entry? m := by
  unfold tableFullTest
  split
  · exact entry?_sysReturn_ne _ h
  · rfl

theorem entry?_freeOrdinary (n : Nat) {m : Nat} (low : m < 512) :
    (s.freeOrdinary n).entry? m = if m = n then none else s.entry? m := by
  rw [freeOrdinary, entry?_tableFullTest_ne _ (by omega)]
  exact s.entry?_dropEntry n m

/-- A removal up to the departure of the entry's children. -/
def departed (n : Nat) (e : Entry) : State :=
  (((s.undefer n).withdraw n).resolveItems e.area (namesAlarm (s.refOf n))).freeOrdinary n

theorem entry?_departed (n : Nat) (e : Entry) {m : Nat} (low : m < 512) :
    (s.departed n e).entry? m = if m = n then none else s.entry? m := by
  rw [departed, entry?_freeOrdinary _ _ low, (resolveItems_touches _ _ _).entry?_eq (by decide),
    entry?_withdraw_ne _ n (by omega), entry?_undefer_ne _ n (by omega)]

theorem removeEntry_of_entry {n : Nat} {e : Entry} (he : s.entry? n = some e) : s.removeEntry n =
    if e.active then (match e.tag with | none => s.departed n e | some tag => (s.departed n e).parentDeparted tag)
    else s.departed n e := by
  unfold removeEntry
  rw [he]
  rfl

theorem core_removeEntry (n : Nat) {m : Nat} (low : m < 512) : ((s.removeEntry n).entry? m).map Entry.core =
    if m = n then none else (s.entry? m).map Entry.core := by
  cases he : s.entry? n with
  | none =>
    simp only [removeEntry, he]
    split
    · subst_vars; rw [he]; rfl
    · rfl
  | some e =>
    have gone : ((s.departed n e).entry? m).map Entry.core = if m = n then none else (s.entry? m).map Entry.core := by
      rw [s.entry?_departed n e low]
      split <;> rfl
    rw [s.removeEntry_of_entry he]
    split
    · split
      · exact gone
      · rw [core_parentDeparted _ _ low, gone]
    · exact gone

/-! ### The sweep -/

/-- An entry the sweep takes for one the plant no longer has. -/
def swept (e : Entry) : Bool := e.active && !e.confirmed

theorem core_returnActive_ne {n m : Nat} (low : m < 512) (h : m ≠ n) (time : MillTime) :
    ((s.returnActive n time).entry? m).map Entry.core = (s.entry? m).map Entry.core := by
  unfold returnActive
  split
  · rfl
  · split
    · rw [s.core_removeEntry n low, if_neg h]
    · dsimp only
      split
      · rw [entry_setEntry, if_neg h]
      · rw [core_parentDeparted _ _ low, entry_setEntry, if_neg h]

theorem inactive_returnActive {n : Nat} (low : n < 512) (time : MillTime) :
    ∀ e, (s.returnActive n time).entry? n = some e → e.active = false := by
  intro f hf
  cases he : s.entry? n with
  | none => simp only [returnActive, he] at hf; cases hf
  | some e =>
    have core : ((s.returnActive n time).entry? n).map Entry.core = none ∨
        ((s.returnActive n time).entry? n).map Entry.core =
          some { e with active := false, returnTime := some time : Entry }.core := by
      simp only [returnActive, he]
      split
      · exact .inl (by rw [s.core_removeEntry n low, if_pos rfl])
      · split
        · exact .inr (by rw [entry_setEntry, if_pos rfl]; rfl)
        · exact .inr (by rw [core_parentDeparted _ _ low, entry_setEntry, if_pos rfl]; rfl)
    rw [hf] at core
    obtain none_ | same := core
    · cases none_
    · exact Entry.active_of_core (Option.some.inj same)

/-- The returns of a sweep. -/
def sweepReturns : State :=
  (s.ordinaryWhere swept).foldl (fun s n =>
    if ((s.entry? n).map swept).getD false then s.returnActive n s.time.mill else s) s

theorem sweep_eq : s.sweep = s.sweepReturns.ordinary.foldl (fun s n =>
    s.updEntry n (fun e => if e.confirmed then { e with stale := false } else e)) s.sweepReturns := rfl

theorem not_swept_sweepReturns {n : Nat} {e : Entry} (low : n < 512) (he : s.sweepReturns.entry? n = some e) :
    swept e = false := by
  have calm (x y : Option Entry) (h : y.map Entry.core = x.map Entry.core)
      (hx : ∀ e, x = some e → swept e = false) : ∀ e, y = some e → swept e = false := by
    rintro f rfl
    cases x with
    | none => cases h
    | some e =>
      have same : f.core = e.core := Option.some.inj h
      rw [← hx e rfl, swept, swept, Entry.active_of_core same, Entry.confirmed_of_core same]
  refine entry?_foldl_of_mem (Q := fun x => ∀ e, x = some e → swept e = false) (start := fun _ => True)
    (fun _ _ => trivial) (fun s _ => ?_) (fun s k hk hs => ?_) (fun _ _ _ _ => trivial) _ s trivial ?_ e he
  · split
    · intro e he
      rw [swept, s.inactive_returnActive low _ e he]
      rfl
    · intro e he
      simp_all
  · split
    · exact calm _ _ (s.core_returnActive_ne low (Ne.symm hk) _) hs
    · exact hs
  · cases hn : s.entry? n with
    | none => exact .inr (by simp)
    | some f =>
      cases hf : swept f with
      | true => exact .inl ((s.mem_ordinaryWhere).mpr ⟨low, f, hn, hf⟩)
      | false => exact .inr (by rintro g ⟨⟩; exact hf)

/-- After a sweep an ACTIVE entry is confirmed, and a confirmed one is not stale. -/
theorem swept_sweep {n : Nat} {e : Entry} (low : n < 512) (he : s.sweep.entry? n = some e) :
    swept e = false ∧ (e.confirmed = true → e.stale = false) := by
  rw [sweep_eq] at he
  refine entry?_foldl_of_mem (m := n)
    (Q := fun x => ∀ e, x = some e → swept e = false ∧ (e.confirmed = true → e.stale = false))
    (start := fun x => ∀ e, x = some e → swept e = false)
    (fun x hx e he => (hx e he).1) (fun s hs => ?_) (fun s k hk hs => ?_) (fun s k hk hs => ?_) _ s.sweepReturns
    (fun e he => s.not_swept_sweepReturns low he) ?_ e he
  · rw [entry?_updEntry, if_pos rfl]
    rintro e he
    obtain ⟨f, hf, rfl⟩ := Option.map_eq_some_iff.mp he
    have calm := hs f hf
    cases conf : f.confirmed with
    | true => exact ⟨by simp [swept], fun _ => by simp⟩
    | false => simp [conf, calm]
  · rw [entry?_updEntry, if_neg (Ne.symm hk)]
    exact hs
  · rw [entry?_updEntry, if_neg (Ne.symm hk)]
    exact hs
  · cases hn : s.sweepReturns.entry? n with
    | none => exact .inr (by simp)
    | some f => exact .inl (s.sweepReturns.mem_ordinary low hn)

end State

end Sys2Proof.Machine
end

section
/-! PROOFS. The end of a resync (R175): the sweep, the stray ends and the timer. -/

namespace Sys2Proof.Machine.State

variable (s : State)

/-- A resync that has ended, before the link becomes UP. -/
def resynced : State := ((s.setPlant (fun p => { p with timer := none })).sweep.markSilence).sysReturn 513

theorem takeResyncEnd_of_match {n : Nat} (link : s.plant.link = .resync) (number : s.plant.resync = n) :
    s.takeResyncEnd 0 n = s.resynced.moveLink .up := by
  rw [takeResyncEnd, if_neg (by simp), if_pos ⟨link, number⟩]
  rfl

theorem takeResyncEnd_of_stray {n : Nat} (stray : ¬ (s.plant.link = .resync ∧ s.plant.resync = n)) :
    s.takeResyncEnd 0 n = s.countB (fun c => { c with strayEnds := bump c.strayEnds }) := by
  rw [takeResyncEnd, if_neg (by simp), if_neg stray]

theorem setPlantTimer_touches (x : Option Nat) : Touches [.plantTimer] s (s.setPlant (fun p => { p with timer := x })) := by
  intro p hp
  cases p <;> first | rfl | exact ⟨rfl, rfl⟩ | exact absurd (by decide) hp

theorem resynced_touches : Touches ([.plantTimer, .plantMark] ++ alarmParts) s s.resynced :=
  .after (sysReturn_touches _ 513) (by decide) (.after (markSilence_touches _) (by decide)
    (.after (sweep_touches _) (by decide) ((s.setPlantTimer_touches none).mono (by decide))))

theorem resynced_plant : s.resynced.plant = { s.plant with timer := none, mark := s.now } := by
  have swept := (s.setPlant (fun p => { p with timer := none })).sweep_touches
  have same := swept.plant_eq (by decide)
  have clock := swept.now_eq (by decide)
  rw [resynced, (sysReturn_touches _ 513).plant_eq (by decide)]
  simp only [markSilence, setPlant] at same clock ⊢
  rw [same, clock]
  rfl

theorem entry?_resynced {n : Nat} (low : n < 512) :
    s.resynced.entry? n = (s.setPlant (fun p => { p with timer := none })).sweep.entry? n := by
  rw [resynced, entry?_sysReturn_ne _ (by omega)]
  rfl

theorem inactive_resynced {e : Entry} (he : s.resynced.entry? 513 = some e) : e.active = false := inactive_sysReturn _ he

/-- A resync timer's expiry, before the link, or a DEGRADED link's return state, becomes UP. -/
def resyncLate : State :=
  ((s.setPlant (fun p => { p with timer := none })).countB (fun c => { c with timeouts := bump c.timeouts })).sysReturn 513

theorem resyncTimesOut_eq : s.resyncTimesOut =
    if s.plant.link = .degraded then s.resyncLate.setPlant (fun p => { p with ret := false })
    else s.resyncLate.moveLink .up := rfl

theorem resyncLate_plant : s.resyncLate.plant =
    { s.plant with timer := none, counters := { s.plant.counters with timeouts := bump s.plant.counters.timeouts } } := by
  rw [resyncLate, (sysReturn_touches _ 513).plant_eq (by decide)]
  rfl

theorem entry?_moveLink (l : PlantLink) (n : Nat) : (s.moveLink l).entry? n = s.entry? n :=
  (s.moveLink_touches l).entry?_eq (by decide) n

theorem resyncTimesOut_effect (t : State) (ht : t = s.resyncTimesOut) : t.plant.timer = none ∧
    t.plant.counters = { s.plant.counters with timeouts := bump s.plant.counters.timeouts } ∧
    (∀ e, t.entry? 513 = some e → e.active = false) ∧
    (s.plant.link = .degraded → t.plant.link = .degraded ∧ t.plant.ret = false) ∧
    (s.plant.link ≠ .degraded → t.plant.link = .up) := by
  have after := s.resyncLate_plant
  have ended (e : Entry) (he : s.resyncLate.entry? 513 = some e) : e.active = false := inactive_sysReturn _ he
  rw [resyncTimesOut_eq] at ht
  by_cases link : s.plant.link = .degraded
  · rw [if_pos link] at ht
    subst ht
    have plant : (s.resyncLate.setPlant (fun p => { p with ret := false })).plant = { s.resyncLate.plant with ret := false } := rfl
    rw [plant, after]
    exact ⟨rfl, rfl, ended, fun _ => ⟨link, rfl⟩, fun no => absurd link no⟩
  · rw [if_neg link] at ht
    subst ht
    rw [moveLink_plant, after]
    exact ⟨rfl, rfl, fun e he => ended e (by rwa [entry?_moveLink] at he), fun h => absurd h link, fun _ => rfl⟩

end Sys2Proof.Machine.State

open Sys2Proof.Machine State in
/-- Settles O59: a matching end sweeps and then brings the link UP, and every other end leaves the alarms alone. -/
theorem resyncEnds : Obligations.ResyncEnds := by
  unfold Obligations.ResyncEnds
  intro s on
  have run (scope number : Nat) : exec (.resyncEnd scope number) s = .next (s.fresh.serveLink.takeResyncEnd scope number).finish :=
    plantEvent_of_running on (fun s => s.serveLink.takeResyncEnd scope number)
  have served {x : PlantLink} (link : s.plant.link = x) (standing : x = .up ∨ x = .resync) :
      s.fresh.serveLink.plant.link = x ∧ s.fresh.serveLink.plant.resync = s.plant.resync ∧
        Touches [.plantHeard, .plantMark] s.fresh s.fresh.serveLink := by
    have upright : s.fresh.plant.link = .up ∨ s.fresh.plant.link = .resync := by
      rcases standing with rfl | rfl
      · exact .inl link
      · exact .inr link
    rw [serveLink_of_standing upright]
    exact ⟨link, rfl, serveLink_of_standing upright ▸ serveLink_touches_of_standing upright⟩
  refine ⟨fun link => ?_, fun number stray => ?_, fun scope number outside standing => ?_, fun due => ?_⟩
  · obtain ⟨resync, held, touched⟩ := served link (.inr rfl)
    refine ⟨_, run 0 _, ?_⟩
    rw [takeResyncEnd_of_match _ resync held, finish_plant, moveLink_plant, resynced_plant]
    refine ⟨rfl, rfl, touched.now_eq (by decide), fun e he => ?_, fun n e low he => ?_, ?_⟩
    · rw [entry?_finish, entry?_moveLink] at he
      exact inactive_resynced _ he
    · rw [entry?_finish, entry?_moveLink, entry?_resynced _ low] at he
      obtain ⟨calm, fresh⟩ := swept_sweep _ low he
      exact ⟨fun active => by simpa [swept, active] using calm, fresh⟩
    · exact .after (finish_touches _) (by decide) (.after (moveLink_touches _ .up) (by decide)
        (.after (resynced_touches _) (by decide) (touched.mono (by decide))))
  · have stands : ∃ x, s.plant.link = x ∧ (x = PlantLink.up ∨ x = .resync) := ⟨_, rfl, stray.imp id And.left⟩
    obtain ⟨x, link, upright⟩ := stands
    obtain ⟨same, held, touched⟩ := served link upright
    have apart : ¬ (s.fresh.serveLink.plant.link = .resync ∧ s.fresh.serveLink.plant.resync = number) := by
      rintro ⟨resync, hit⟩
      rcases stray with up | ⟨-, other⟩
      · exact absurd (same.symm.trans resync) (by rw [← link, up]; simp)
      · exact other (hit.symm.trans held)
    refine ⟨_, run 0 number, ?_⟩
    rw [takeResyncEnd_of_stray _ apart, finish_plant]
    refine ⟨same.trans link.symm, congrArg (fun c : CountersB => { c with strayEnds := bump c.strayEnds })
      (countersB_serveLink s.fresh), ?_⟩
    exact .after (finish_touches _) (by decide) (.after (countB_touches _ _) (by decide) (touched.mono (by decide)))
  · obtain ⟨-, -, touched⟩ := served rfl standing
    refine ⟨_, run scope number, ?_⟩
    rw [takeResyncEnd, if_pos outside]
    exact .after (finish_touches _) (by decide) (touched.mono (by decide))
  · have due' : s.fresh.resyncTimerDue = true := due
    refine ⟨_, timerEvent_of_due on due' _, ?_⟩
    obtain ⟨timer, counted, ended, degraded, up⟩ := resyncTimesOut_effect s.fresh _ rfl
    rw [finish_plant]
    exact ⟨timer, counted, fun e he => ended e (by rwa [entry?_finish] at he), degraded, up,
      .after (finish_touches _) (by decide) ((resyncTimesOut_touches _).mono (by decide))⟩
end

section
/-! PROOFS. The ordinary entries in use, which no system alarm's raise or return changes, as a frame arrives. -/

namespace Sys2Proof.Machine

namespace State

variable (s : State)

theorem keys_put_low (t : Tbl Entry) {n : Nat} (high : 512 ≤ n) (e : Entry) :
    (t.put n e).keys.filter (fun k => decide (k < 512)) = t.keys.filter (fun k => decide (k < 512)) := by
  have off : ¬ n < 512 := by omega
  induction t with
  | nil => simp [Tbl.put, Tbl.keys, off]
  | cons p t ih =>
    simp only [Tbl.keys] at ih
    simp only [Tbl.put, Tbl.keys]
    split
    · simp [off]
    · split
      case isTrue same => simp [← same, off]
      case isFalse => simp only [List.map_cons, List.filter_cons, ih]

theorem keys_del_low (t : Tbl Entry) {n : Nat} (high : 512 ≤ n) :
    (t.del n).keys.filter (fun k => decide (k < 512)) = t.keys.filter (fun k => decide (k < 512)) := by
  simp only [Tbl.keys, Tbl.del, List.filter_map, List.filter_filter]
  congr 1
  refine List.filter_congr (fun p _ => ?_)
  by_cases low : p.1 < 512
  · have other : p.1 ≠ n := by omega
    simp [low, other]
  · simp [low]

theorem ordinary_setEntry {n : Nat} (high : 512 ≤ n) (e : Entry) : (s.setEntry n e).ordinary = s.ordinary :=
  keys_put_low s.alarm.entries high e

theorem ordinary_dropEntry {n : Nat} (high : 512 ≤ n) : (s.dropEntry n).ordinary = s.ordinary := by
  unfold dropEntry
  split
  · rfl
  · exact keys_del_low s.alarm.entries high

theorem ordinary_sysRaise {n : Nat} (high : 512 ≤ n) (x : Subject) : (s.sysRaise n x).ordinary = s.ordinary := by
  unfold sysRaise
  dsimp only
  split
  · rw [(announceAt_touches _ n).ordinary_eq (by decide), ordinary_setEntry _ high]
  · split
    · rw [ordinary_setEntry _ high]
    · rw [(represent_touches _ n).ordinary_eq (by decide), ordinary_setEntry _ high]

theorem ordinary_sysUpdate {n : Nat} (high : 512 ≤ n) (x : Subject) : (s.sysUpdate n x).ordinary = s.ordinary := by
  unfold sysUpdate
  split
  · rfl
  · split
    · exact s.ordinary_setEntry high _
    · rfl

theorem ordinary_sysReturn {n : Nat} (high : 512 ≤ n) : (s.sysReturn n).ordinary = s.ordinary := by
  unfold sysReturn
  split
  · rfl
  · split
    · rfl
    · split
      · rw [sysRemove, ordinary_dropEntry _ high, (withdrawStacks_touches _ n).ordinary_eq (by decide)]
      · exact s.ordinary_setEntry high _

theorem ordinary_sysFollow {n : Nat} (high : 512 ≤ n) (before after : NSet) (x : Subject) :
    (s.sysFollow n before after x).ordinary = s.ordinary := by
  unfold sysFollow
  split
  · rfl
  · split
    · exact s.ordinary_sysRaise high x
    · split
      · exact s.ordinary_sysReturn high
      · exact s.ordinary_sysUpdate high x

theorem ordinary_coverScan : s.coverScan.ordinary = s.ordinary := by
  have scanned : Touches [.cover, .orphans, .said .notice, .recs, .attnStacks] s
      (areaNumbers.foldl setCover s).setOrphans.sayAreas.reroute :=
    .after (reroute_touches _) (by decide) (.after (sayAreas_touches _) (by decide) (.after (setOrphans_touches _)
      (by decide) ((s.foldl_setCover_touches areaNumbers).mono (by decide))))
  unfold coverScan
  dsimp only
  rw [ordinary_sysFollow _ (by decide), scanned.ordinary_eq (by decide)]

theorem ordinary_finish : s.finish.ordinary = s.ordinary := s.finish_touches.ordinary_eq (by decide)

theorem ordinary_stationReturns (st : Nat) : (s.stationReturns st).ordinary = s.ordinary := by
  unfold stationReturns
  dsimp only
  rw [(forceAttention_touches _ st).ordinary_eq (by decide),
    (say_notices _ _ (fun o ho => by rw [List.mem_singleton.mp ho]; rfl)).ordinary_eq (by decide), ordinary_coverScan,
    followLost, ordinary_sysFollow _ (by decide), (stopGrace_touches _ st).ordinary_eq (by decide),
    (setLink_touches _ st .up).ordinary_eq (by decide)]

theorem ordinary_serveWatch (st : Nat) : (s.serveWatch st).ordinary = s.ordinary := by
  have heard : (s.hearing st).ordinary = s.ordinary := (s.hearing_touches st).ordinary_eq (by decide)
  cases link : s.link st with
  | up => rw [serveWatch_of_up s link, heard]
  | absent =>
    rw [serveWatch_of_absent s link, ordinary_finish, ordinary_coverScan, (setLink_touches _ st .up).ordinary_eq (by decide),
      heard]
  | lost => rw [serveWatch_of_lost s link, ordinary_finish, ordinary_stationReturns, heard]

theorem ordinary_arrived (h : Hdr) : (arrived s h).ordinary = s.ordinary := by
  show (s.fresh.admitFrame h.station).ordinary = s.fresh.ordinary
  unfold admitFrame
  rw [(serveRestarted_touches _ _).ordinary_eq (by decide), ordinary_serveWatch, (countA_touches _ _).ordinary_eq (by decide)]

theorem ordinaryWhere_arrived (h : Hdr) (p : Entry → Bool) : (arrived s h).ordinaryWhere p = s.ordinaryWhere p := by
  unfold ordinaryWhere
  rw [ordinary_arrived]
  refine List.filter_congr (fun n listed => ?_)
  rw [entry?_arrived s h (s.lt_of_mem_ordinary listed)]

end State

end Sys2Proof.Machine
end

section
/-! PROOFS. How an override ends (R111, R112, R115, R116). -/

namespace Sys2Proof.Machine

/-- An entry of a lifted shelf: UNACKED at its configured priority and stage 0, and no more SHELVED (R112). -/
def Entry.Redecided (e : Entry) : Prop := e.ack = none ∧ e.cur = e.cfg ∧ e.stage = 0 ∧ e.disp ≠ .shelved

namespace State

variable (s : State)

/-! ### Re-decision of a tag's entries -/

theorem entry?_redecideOne_ne {n m : Nat} (h : m ≠ n) (low : m < 512) :
    ((s.resetForDecision n).decideUnshelved n true).entry? m = s.entry? m := by
  rw [entry?_decideUnshelved_ne _ true h (by omega), entry?_resetForDecision, if_neg h]

theorem entry?_redecideOne_self {n : Nat} {e : Entry} (he : s.entry? n = some e) (low : n < 512) :
    ∃ e', ((s.resetForDecision n).decideUnshelved n true).entry? n = some e' ∧ e'.core = e.core ∧ e'.Redecided := by
  have reset : (s.resetForDecision n).entry? n = some { e with ack := none, cur := e.cfg, stage := 0 } := by
    rw [entry?_resetForDecision, if_pos rfl, he]
    rfl
  obtain ⟨d, other, entry⟩ := entry?_decideUnshelved_self _ reset true low
  exact ⟨_, entry, rfl, rfl, rfl, rfl, other⟩

theorem mem_shelvedActive {tag n : Nat} :
    n ∈ s.shelvedActive tag ↔ n < 512 ∧ ∃ e, s.entry? n = some e ∧ e.tag = some tag ∧ e.active = true := by
  rw [shelvedActive, mem_ordinaryWhere]
  simp

/-- R112 step 2: every ACTIVE entry of the tag is decided again. -/
theorem entry?_redecideTag_of_member {tag n : Nat} {e : Entry} (listed : n ∈ s.shelvedActive tag)
    (he : s.entry? n = some e) : ∃ e', (s.redecideTag tag).entry? n = some e' ∧ e'.core = e.core ∧ e'.Redecided := by
  have low : n < 512 := (s.mem_shelvedActive.mp listed).1
  refine entry?_foldl_of_mem (m := n) (f := fun s n => (s.resetForDecision n).decideUnshelved n true)
    (Q := fun x => ∃ e', x = some e' ∧ e'.core = e.core ∧ e'.Redecided)
    (start := fun x => ∃ e', x = some e' ∧ e'.core = e.core) (fun x ⟨e', hx, core, _⟩ => ⟨e', hx, core⟩)
    (fun s ⟨e', hx, core⟩ => ?_) (fun s k hk => ?_) (fun s k hk => ?_) _ s ⟨e, he, rfl⟩ (.inl listed)
  · obtain ⟨e'', entry, core', redecided⟩ := s.entry?_redecideOne_self hx low
    exact ⟨e'', entry, core'.trans core, redecided⟩
  all_goals
    rw [s.entry?_redecideOne_ne (Ne.symm hk) low]
    exact id

theorem entry?_redecideTag_of_other {tag n : Nat} (low : n < 512) (unlisted : n ∉ s.shelvedActive tag) :
    (s.redecideTag tag).entry? n = s.entry? n :=
  entry?_foldl_of_not_mem _ (fun s k hk => s.entry?_redecideOne_ne (fun same : n = k => unlisted (by rwa [same])) low) s

/-! ### The ending -/

/-- The register with an entry freed, and the alarms that the shelf held decided again. -/
def overrideFreed (n : Nat) (o : Override) : State :=
  match o.kind with
  | .shelve => ({ s with overrides := s.overrides.del n } : State).redecideTag o.tag
  | .bypass => { s with overrides := s.overrides.del n }

/-- The area whose session lists the item of an override. -/
def itemArea (o : Override) : Nat := ((s.tagRec? o.tag).map (·.area)).getD 0

theorem endOverride_eq (n : Nat) (o : Override) (event : OverrideEvent) : s.endOverride n o event =
    ((s.overrideFreed n o).resolveItems (s.itemArea o) (namesOverride o.kind n o.tag)).sayAfter
      (s.overrideNotice event o) := rfl

theorem look_endOverride (n : Nat) (o : Override) (event : OverrideEvent) (j : Nat) :
    (s.endOverride n o event).overrides.look j = if j = n then none else s.overrides.look j := by
  have freed : (s.overrideFreed n o).overrides = s.overrides.del n := by
    unfold overrideFreed
    split
    · exact (redecideTag_touches _ o.tag) .overrides (by decide)
    · rfl
  have resolved : ((s.overrideFreed n o).resolveItems (s.itemArea o) (namesOverride o.kind n o.tag)).overrides =
      s.overrides.del n := (resolveItems_touches _ _ _ .overrides (by decide) : _ = _).trans freed
  have said : (s.endOverride n o event).overrides = s.overrides.del n := by rw [endOverride_eq]; exact resolved
  rw [said, Tbl.look_del]

theorem entry?_endOverride (n : Nat) (o : Override) (event : OverrideEvent) (m : Nat) :
    (s.endOverride n o event).entry? m = (s.overrideFreed n o).entry? m := by
  rw [endOverride_eq, (sayAfter_notices _ _ (kind_overrideNotice s _ _)).entry?_eq (by decide),
    (resolveItems_touches _ _ _).entry?_eq (by decide)]

/-- R112: what the end of a shelf leaves of the ordinary entries. -/
theorem entries_endShelf {o : Override} (shelf : o.kind = .shelve) (n : Nat) (event : OverrideEvent) :
    (∀ j e, j < 512 → s.entry? j = some e → e.tag = some o.tag → e.active = true →
      ∃ e', (s.endOverride n o event).entry? j = some e' ∧ e'.ack = none ∧ e'.cur = e.cfg ∧ e'.stage = 0 ∧
        e'.disp ≠ .shelved ∧ e'.active = true) ∧
    (∀ j e, j < 512 → s.entry? j = some e → e.tag ≠ some o.tag → (s.endOverride n o event).entry? j = some e) := by
  have freed : s.overrideFreed n o = ({ s with overrides := s.overrides.del n } : State).redecideTag o.tag := by
    simp only [overrideFreed, shelf]
  refine ⟨fun j e low he tagged active => ?_, fun j e low he other => ?_⟩
  · obtain ⟨e', entry, core, unacked, cur, stage, disp⟩ := entry?_redecideTag_of_member
      ({ s with overrides := s.overrides.del n } : State) ((s.mem_shelvedActive).mpr ⟨low, e, he, tagged, active⟩) he
    rw [entry?_endOverride, freed]
    exact ⟨e', entry, unacked, cur.trans (Entry.cfg_of_core core), stage, disp, (Entry.active_of_core core).trans active⟩
  · rw [entry?_endOverride, freed, entry?_redecideTag_of_other _ low]
    · exact he
    · intro listed
      obtain ⟨-, f, hf, tagged, -⟩ := s.mem_shelvedActive.mp listed
      exact other (Option.some.inj (he.symm.trans hf) ▸ tagged)

/-- R118: every UP station is told of an ending, with 0 seconds remaining. -/
theorem endOverride_told {event : OverrideEvent} (ended : event = .endedExpired ∨ event = .endedRemoved) (n : Nat)
    (o : Override) {st : Nat} (low : 1 ≤ st) (high : st ≤ 16) (up : s.isUp st = true) :
    s.outTo st (.notice (.override event o.kind o.tag (s.badgeOf o.holder) o.station 0 o.reason)) ∈
      (s.endOverride n o event).said := by
  have notice := s.mem_toUp low high up (.override event o.kind o.tag (s.badgeOf o.holder) o.station 0 o.reason)
  rw [endOverride_eq, said_sayAfter, overrideNotice]
  simp only [ended, decide_true, if_true]
  exact .inr notice

theorem noteItems_touched (a : Nat) : (s.noteItems a).ev.touched = s.ev.touched := rfl

theorem updSession_ev (a : Nat) (f : Session → Session) : (s.updSession a f).ev = s.ev := by
  unfold updSession
  split <;> rfl

theorem resolveItems_touched (a : Nat) (p : ItemRef → Bool) : (s.resolveItems a p).ev.touched = s.ev.touched := by
  unfold resolveItems
  split
  · rfl
  · split
    · rw [noteItems_touched, updSession_ev]
    · rfl

theorem endBypass_touched {o : Override} (bypass : o.kind = .bypass) (n : Nat) (event : OverrideEvent) :
    (s.endOverride n o event).ev.touched = s.ev.touched := by
  rw [endOverride_eq]
  show (resolveItems _ _ _).ev.touched = _
  rw [resolveItems_touched]
  simp only [overrideFreed, bypass]

/-- R115: the end of a bypass, its event ended, changes no alarm entry. -/
theorem finish_endBypass_touches {s : State} (quiet : s.ev = EvBuf.empty) {o : Override} (bypass : o.kind = .bypass)
    (n : Nat) (event : OverrideEvent) : Touches [.overrides, .handover, .recs, .attnStacks, .shown, .unitAlarm,
      .said .attention, .said .notice] s (s.endOverride n o event).finish :=
  .after (finish_touches_of_untouched ((s.endBypass_touched bypass n event).trans (by rw [quiet]; rfl))) (by decide)
    ((s.endBypass_touches n o event bypass).mono (by decide))

/-- The answer to an ending: of a shelf, the count of the entries that are decided again (R112). -/
def endingAnswer (k : OverrideKind) (tag : Nat) : Ans :=
  if k = .shelve then ans .done (s.shelvedActive tag).length else ans .done

theorem takeEnding_of_fits {k : OverrideKind} {st tag op n : Nat} {r : TagRec} {o : Override} (range : tag ≤ 4095)
    (record : s.tagRec? tag = some r) (logged : s.logonAt st = some op) (found : s.override? k tag = some (n, o))
    (may : s.mayEnd o op st r.area = true) : s.takeEnding k st tag 0 =
      (s.endOverride n o .endedRemoved, s.endingAnswer k tag) := by
  simp only [takeEnding, record, logged, found, may]
  rw [if_neg (by simp), if_neg (by omega), if_neg (by simp)]
  cases k <;> rfl

theorem kind_of_override? {k : OverrideKind} {tag n : Nat} {o : Override} (found : s.override? k tag = some (n, o)) :
    o.kind = k ∧ o.tag = tag := by
  have named := List.find?_some found
  simpa using named

end State

theorem Touches.mayEnd_eq {l : List Part} {s t : State} (h : Touches l s t) (hl : ∀ p ∈ [Part.owner, .key, .logon, .stations, .roster], p ∉ l)
    (o : Override) (op st a : Nat) : t.mayEnd o op st a = s.mayEnd o op st a := by
  unfold State.mayEnd
  rw [h.isOwnerStation_eq (hl _ (by simp)), h.keySupervisor_eq (hl _ (by simp)) (hl _ (by simp)) (hl _ (by simp)) (hl _ (by simp))]

end Sys2Proof.Machine

open Sys2Proof.Machine State in
/-- Settles O36: an expiry ends the override, and a shelf's end decides the tag's ACTIVE entries again. -/
theorem overrideExpires : Obligations.OverrideExpires := by
  unfold Obligations.OverrideExpires
  intro s n o on found past
  have due : s.fresh.overrideDue n = true := by
    have here : s.fresh.overrides.look n = some o := found
    simp only [overrideDue, here]
    exact decide_eq_true past
  have run : exec (.overrideExpiry n) s = .next (s.fresh.overrideExpires n).finish :=
    timerEvent_of_due (due := fun s => s.overrideDue n) on due (fun s => s.overrideExpires n)
  have ending : s.fresh.overrideExpires n = s.fresh.endOverride n o .endedExpired := by
    have here : s.fresh.overrides.look n = some o := found
    simp only [State.overrideExpires, here]
  rw [ending] at run
  have ended := (s.fresh.endOverride n o .endedExpired).finish_touches
  have register (j : Nat) : (s.fresh.endOverride n o .endedExpired).finish.overrides.look j =
      if j = n then none else s.overrides.look j := by
    rw [(ended .overrides (by decide) : _ = _), look_endOverride]
    rfl
  refine ⟨_, run, by rw [register, if_pos rfl], fun j other => by rw [register, if_neg other], fun st low high up => ?_,
    fun shelf => ?_, fun bypass => finish_endBypass_touches rfl bypass n _, ?_⟩
  · exact mem_sent_finish _ (s.fresh.endOverride_told (.inl rfl) n o low high up) rfl
  · simp only [entry?_finish]
    exact s.fresh.entries_endShelf shelf n _
  · exact .after ended (by decide) ((endOverride_touches _ n o _).mono (by decide))

namespace Sys2Proof.Machine.State

/-- A request to end an override, that fits: its effect, its messages and its answer. -/
theorem ending_carriedOut {i : Instr} {s : State} {h : Hdr} {k : OverrideKind} {tag op n : Nat} {o : Override} {r : TagRec}
    (taken : Taken s h) (asks : exec i s = requestEvent h (fun s => s.takeEnding k h.station tag 0) s) (range : tag ≤ 4095)
    (record : s.tagRec? tag = some r) (logged : s.logonAt h.station = some op) (found : s.override? k tag = some (n, o))
    (may : s.mayEnd o op h.station r.area = true) :
    ∃ t, t = ((arrived s h).endOverride n o .endedRemoved).finish.answer h (s.endingAnswer k tag) ∧ exec i s = .next t ∧
      (∀ j, t.overrides.look j = if j = n then none else s.overrides.look j) ∧
      (∀ st, 1 ≤ st → st ≤ 16 → (arrived s h).isUp st = true →
        s.outTo st (.notice (.override .endedRemoved k tag (s.badgeOf o.holder) o.station 0 o.reason)) ∈ t.sent) ∧
      Answered t h (s.endingAnswer k tag) := by
  have touched := arrived_touches s h
  have counted : (arrived s h).shelvedActive tag = s.shelvedActive tag := s.ordinaryWhere_arrived h _
  obtain ⟨kind, same⟩ := s.kind_of_override? found
  generalize arriving : arrived s h = u at touched counted ⊢
  have done := takeEnding_of_fits u range ((touched.tagRec?_eq (by decide) tag).trans record)
    ((touched.logonAt_eq (by decide) _).trans logged) ((touched.override?_eq (by decide) _ tag).trans found)
    ((touched.mayEnd_eq (by decide) o op h.station r.area).trans may)
  rw [endingAnswer, counted, ← endingAnswer] at done
  have operation := u.takeEnding_touches k h.station tag 0
  rw [done] at operation
  obtain ⟨stepped, answered, -⟩ := requestEvent_carriedOut (l' := .said .answer :: .overrides :: alarmParts ++ endParts)
    taken asks arriving done (by cases k <;> rfl) operation (by decide) (by decide)
  have ended := finish_answer_eq (u.endOverride n o .endedRemoved) h (s.endingAnswer k tag)
  refine ⟨_, rfl, stepped, fun j => ?_, fun st low high up => ?_, answered⟩
  · rw [(ended .overrides (by decide) : _ = _), look_endOverride, (touched .overrides (by decide) : _ = _)]
    rfl
  · have told := u.endOverride_told (.inr rfl) n o low high up
    rw [kind, same, touched.badgeOf_eq (by decide), touched.outTo_eq (by decide)] at told
    exact mem_sent_answer _ (mem_sent_finish _ told rfl)

theorem entry?_finish_answer (s : State) (h : Hdr) (a : Ans) (n : Nat) :
    (s.finish.answer h a).entry? n = s.entry? n := (finish_answer_eq s h a).entry?_eq (by decide) n

end Sys2Proof.Machine.State

open Sys2Proof.Machine State in
/-- Settles O35: UNSHELVE and UNBYPASS end the override as its expiry would. -/
theorem overrideIsLifted : Obligations.OverrideIsLifted := by
  unfold Obligations.OverrideIsLifted
  refine ⟨fun s h tag op n o r taken range record logged found may => ?_,
    fun s h tag op n o r taken range record logged found may => ?_⟩
  all_goals
    have same := s.kind_of_override? found
    have quiet := arrived_ev s h
    obtain ⟨kind, tagged⟩ := same
  · obtain ⟨t, made, stepped, look, told, answered⟩ :=
      ending_carriedOut (i := .unshelve h tag 0) taken rfl range record logged found may
    have ended : Touches (.said .answer :: endParts) _ t := made ▸ finish_answer_eq _ h _
    obtain ⟨members, others⟩ := (arrived s h).entries_endShelf kind n .endedRemoved
    rw [tagged] at members others
    have entry (j : Nat) : t.entry? j = ((arrived s h).endOverride n o .endedRemoved).entry? j :=
      ended.entry?_eq (by decide) j
    refine ⟨t, stepped, by rw [look, if_pos rfl], fun j other => by rw [look, if_neg other],
      fun j e low he mine active => ?_, fun j e low he other => ?_, told, answered,
      .after ended (by decide) ((endOverride_touches _ n o _).mono (by decide))⟩
    · rw [entry]
      exact members j e low ((entry?_arrived s h low).trans he) mine active
    · rw [entry]
      exact others j e low ((entry?_arrived s h low).trans he) other
  · obtain ⟨t, made, stepped, look, told, answered⟩ :=
      ending_carriedOut (i := .unbypass h tag 0) taken rfl range record logged found may
    have ended : Touches [.said .answer] _ t := made ▸ answer_touches _ h _
    exact ⟨t, stepped, by rw [look, if_pos rfl], fun j other => by rw [look, if_neg other], told, answered,
      .after ended (by decide) ((finish_endBypass_touches quiet kind n _).mono (by decide))⟩
end

section
/-! PROOFS. SHELVE and BYPASS (R107 to R110, R113): the checks, a renewal, a placing, and what a shelf does to the alarm
entries of its tag. -/

namespace Sys2Proof.Machine

/-- Checks 1 to 6 of R107, that the request of an operator at a station passes. -/
structure OverrideFits (s : State) (k : OverrideKind) (op st tag : Nat) (r : TagRec) : Prop where
  range : tag ≤ 4095
  record : s.tagRec? tag = some r
  logged : s.logonAt st = some op
  level : State.overrideLevel k ≤ s.levelOf op r.area
  right : s.overrideRight op st r.area = true
  shelvable : k = .shelve → r.shelvable = true

theorem Touches.overrideRight_eq {l : List Part} {s t : State} (h : Touches l s t)
    (hl : ∀ p ∈ [Part.owner, .key, .logon, .stations, .roster], p ∉ l) (op st a : Nat) :
    t.overrideRight op st a = s.overrideRight op st a := by
  unfold State.overrideRight
  rw [h.isOwnerStation_eq (hl _ (by simp)), h.keySupervisor_eq (hl _ (by simp)) (hl _ (by simp)) (hl _ (by simp)) (hl _ (by simp))]

theorem Touches.overrideFits {l : List Part} {s t : State} (h : Touches l s t)
    (hl : ∀ p ∈ [Part.owner, .key, .logon, .stations, .roster, .tags], p ∉ l) {k : OverrideKind} {op st tag : Nat} {r : TagRec}
    (fits : OverrideFits s k op st tag r) : OverrideFits t k op st tag r where
  range := fits.range
  record := (h.tagRec?_eq (hl _ (by simp)) tag).trans fits.record
  logged := (h.logonAt_eq (hl _ (by simp)) st).trans fits.logged
  level := by
    rw [h.levelOf_eq (hl _ (by simp))]
    exact fits.level
  right := (h.overrideRight_eq (fun p hp => hl p (by revert hp; simp; tauto)) op st r.area).trans fits.right
  shelvable := fits.shelvable

namespace State

variable (s : State)

theorem takeOverride_of_fits {k : OverrideKind} {op st tag : Nat} {r : TagRec} (fits : OverrideFits s k op st tag r)
    (duration reason : Nat) :
    s.takeOverride k st tag duration reason 0 = s.grantOverride k op st tag r.area duration reason := by
  obtain ⟨range, record, logged, level, right, shelvable⟩ := fits
  simp only [takeOverride, record, logged, right]
  rw [if_neg (by simp), if_neg (by omega), if_neg (by omega), if_neg (by simp), if_neg]
  rintro ⟨shelf, not⟩
  rw [shelvable shelf] at not
  cases not

theorem grantOverride_of_found {k : OverrideKind} {tag n : Nat} {o : Override} (found : s.override? k tag = some (n, o))
    (op st a duration reason : Nat) : s.grantOverride k op st tag a duration reason =
      (s.renewOverride n o op st (grantedDuration duration (s.overrideMax k a)) reason,
        ans .renewed (grantedDuration duration (s.overrideMax k a))) := by
  simp only [grantOverride, found]

theorem grantOverride_of_free {k : OverrideKind} {tag n : Nat} (none_ : s.override? k tag = none)
    (free : s.freeOverride? = some n) (op st a duration reason : Nat) :
    s.grantOverride k op st tag a duration reason =
      (s.placeOverride k n op st tag a (grantedDuration duration (s.overrideMax k a)) reason,
        if grantedDuration duration (s.overrideMax k a) = duration then
          ans .done (grantedDuration duration (s.overrideMax k a))
        else ans .clamped (grantedDuration duration (s.overrideMax k a))) := by
  simp only [grantOverride, none_, free]

/-- R118: a duration granted now is the seconds remaining (log entry 19). -/
theorem secondsLeft_secondsAhead (n : Nat) : s.secondsLeft (s.secondsAhead n) = n := by
  simp [secondsLeft, secondsAhead, Config.ticksPerSecond]

/-- R118: the notice of an override placed or renewed for a duration that starts now. -/
theorem overrideNotice_told {event : OverrideEvent} (running : event = .placed ∨ event = .renewed) {o : Override} {g : Nat}
    (expiry : o.expiry = s.secondsAhead g) {st : Nat} (low : 1 ≤ st) (high : st ≤ 16) (up : s.isUp st = true) :
    s.outTo st (.notice (.override event o.kind o.tag (s.badgeOf o.holder) o.station g o.reason)) ∈
      s.overrideNotice event o := by
  have going : ¬ (event = .endedExpired ∨ event = .endedRemoved) := by rcases running with rfl | rfl <;> simp
  rw [overrideNotice, expiry]
  simp only [going, decide_false, secondsLeft_secondsAhead]
  exact s.mem_toUp low high up _

/-! ### Renewal -/

/-- The override as the request renews it. -/
def renewed (o : Override) (op st granted reason : Nat) : Override :=
  { o with holder := op, station := st, expiry := s.secondsAhead granted, reason := reason }

theorem renewOverride_eq (n : Nat) (o : Override) (op st granted reason : Nat) : s.renewOverride n o op st granted reason =
    (s.putOverride n (s.renewed o op st granted reason)).sayAfter
      (s.overrideNotice .renewed (s.renewed o op st granted reason)) := rfl

/-! ### Placing -/

/-- The override as the request places it. -/
def placed (k : OverrideKind) (op st tag granted reason : Nat) : Override :=
  ⟨k, tag, op, st, s.now, s.time.mill, s.secondsAhead granted, reason⟩

/-- The register with an entry placed, and the tag's alarms once a shelf has acted. -/
def overrideSet (k : OverrideKind) (n op st tag granted reason : Nat) : State :=
  match k with
  | .shelve => (s.putOverride n (s.placed k op st tag granted reason)).shelveTag tag op
  | .bypass => s.putOverride n (s.placed k op st tag granted reason)

theorem placeOverride_eq (k : OverrideKind) (n op st tag a granted reason : Nat) :
    s.placeOverride k n op st tag a granted reason =
      ((s.overrideSet k n op st tag granted reason).appendItem a (overrideItem n (s.placed k op st tag granted reason))
        none).sayAfter (s.overrideNotice .placed (s.placed k op st tag granted reason)) := by
  cases k <;> rfl

theorem look_placeOverride (k : OverrideKind) (n op st tag a granted reason j : Nat) :
    (s.placeOverride k n op st tag a granted reason).overrides.look j =
      if j = n then some (s.placed k op st tag granted reason) else s.overrides.look j := by
  have put : (s.overrideSet k n op st tag granted reason).overrides =
      s.overrides.put n (s.placed k op st tag granted reason) := by
    cases k with
    | shelve => exact shelveTag_touches _ tag op .overrides (by decide)
    | bypass => rfl
  have listed : (s.placeOverride k n op st tag a granted reason).overrides =
      s.overrides.put n (s.placed k op st tag granted reason) := by
    rw [placeOverride_eq]
    exact (appendItem_touches _ _ _ _ .overrides (by decide) : _ = _).trans put
  rw [listed, Tbl.look_put]

theorem appendItem_touched (a : Nat) (r : ItemRef) (p : Option Priority) : (s.appendItem a r p).ev.touched = s.ev.touched := by
  unfold appendItem
  split
  · rw [noteItems_touched, updSession_ev]
  · rfl

theorem placeBypass_touched (n op st tag a granted reason : Nat) :
    (s.placeOverride .bypass n op st tag a granted reason).ev.touched = s.ev.touched := by
  rw [placeOverride_eq]
  exact appendItem_touched _ _ _ _

/-! ### What a shelf does to the entries of its tag -/

/-- What a shelf makes of an entry of its tag (R109). -/
def shelvedEntry (holder : Nat) (e : Entry) : Option Entry :=
  if e.active then some { e with disp := .shelved, ack := some (s.shelfAck holder e) } else none

theorem entry?_quietForShelf_ne (n : Nat) (e : Entry) {m : Nat} (low : m < 512) :
    (s.quietForShelf n e).entry? m = s.entry? m := by
  unfold quietForShelf
  split
  · exact s.entry?_undefer_ne n (by omega)
  · split
    · rfl
    · exact s.entry?_withdraw_ne n (by omega)
  · rfl
  · rfl

theorem removeEntry_of_returned {n : Nat} {e : Entry} (he : s.entry? n = some e) (returned : e.active = false) :
    s.removeEntry n = s.departed n e := by
  rw [s.removeEntry_of_entry he, returned]
  rfl

theorem entry?_shelveEntry_ne (holder : Nat) {n m : Nat} (h : m ≠ n) (low : m < 512) :
    (shelveEntry holder s n).entry? m = s.entry? m := by
  unfold shelveEntry
  split
  · rfl
  case h_2 e he =>
    split
    case isTrue returned =>
      rw [s.removeEntry_of_returned he (by simpa using returned), entry?_departed _ _ _ low, if_neg h]
    · rw [entry?_updEntry, if_neg h, entry?_quietForShelf_ne _ _ _ low]

theorem entry?_shelveEntry_self (holder : Nat) {n : Nat} {e : Entry} (he : s.entry? n = some e) (low : n < 512) :
    (shelveEntry holder s n).entry? n = s.shelvedEntry holder e := by
  simp only [shelveEntry, he, shelvedEntry]
  by_cases active : e.active = true
  · rw [if_neg (by simp [active]), if_pos active, entry?_updEntry, if_pos rfl, entry?_quietForShelf_ne _ _ _ low, he]
    rfl
  · rw [if_pos (by simp [active]), if_neg active, s.removeEntry_of_returned he (by simpa using active),
      entry?_departed _ _ _ low, if_pos rfl]

theorem shelvedEntry_of_mill {s t : State} (mill : t.time.mill = s.time.mill) (holder : Nat) (e : Entry) :
    t.shelvedEntry holder e = s.shelvedEntry holder e := by
  unfold shelvedEntry shelfAck
  rw [mill]

theorem nodup_ordinaryWhere (listed : Tbl.wf s.alarm.entries) (p : Entry → Bool) : (s.ordinaryWhere p).Nodup := by
  have rising : s.alarm.entries.keys.Pairwise (· < ·) := List.pairwise_map.mpr listed
  exact ((rising.imp (fun h => Nat.ne_of_lt h)).filter _).filter _

/-- What a walk that visits no entry twice makes of one it visits, in what every visit keeps of the state. -/
theorem entry?_foldl_once {f : State → Nat → State} {m : Nat} {P : State → Prop} {x y : Option Entry}
    (keep : ∀ (s : State) n, P s → P (f s n)) (visit : ∀ s : State, P s → s.entry? m = x → (f s m).entry? m = y)
    (other : ∀ (s : State) n, n ≠ m → (f s n).entry? m = s.entry? m) (ns : List Nat) (once : ns.Nodup) (listed : m ∈ ns) :
    ∀ s : State, P s → s.entry? m = x → (ns.foldl f s).entry? m = y := by
  induction ns with
  | nil => simp at listed
  | cons n ns ih =>
    intro s hs hx
    obtain ⟨fresh, once⟩ := List.nodup_cons.mp once
    by_cases hn : n = m
    · subst hn
      exact (entry?_foldl_of_not_mem ns (fun s k hk => other s k (fun same : k = n => fresh (by rwa [← same]))) _).trans
        (visit s hs hx)
    · exact ih once ((List.mem_cons.mp listed).resolve_left (Ne.symm hn)) _ (keep s n hs) ((other s n hn).trans hx)

theorem entry?_shelveTag_of_member {tag n : Nat} (once : (s.entriesOfTag tag).Nodup) (holder : Nat) {e : Entry} (low : n < 512)
    (he : s.entry? n = some e) (tagged : e.tag = some tag) :
    (s.shelveTag tag holder).entry? n = s.shelvedEntry holder e :=
  entry?_foldl_once (f := shelveEntry holder) (P := fun u => u.time.mill = s.time.mill)
    (fun u k same => (shelveEntry_touches u holder k).mill_eq (by decide) |>.trans same)
    (fun u same he => (u.entry?_shelveEntry_self holder he low).trans (shelvedEntry_of_mill same holder e))
    (fun u k other => u.entry?_shelveEntry_ne holder (Ne.symm other) low) _ once
    (s.mem_ordinaryWhere.mpr ⟨low, e, he, by simpa using tagged⟩) s rfl he

theorem entry?_shelveTag_of_other {tag n : Nat} (holder : Nat) {e : Entry} (low : n < 512) (he : s.entry? n = some e)
    (other : e.tag ≠ some tag) : (s.shelveTag tag holder).entry? n = some e := by
  refine (entry?_foldl_of_not_mem _ (fun u k hk => u.entry?_shelveEntry_ne holder (fun same : n = k => ?_) low) s).trans he
  obtain ⟨-, f, hf, tagged⟩ := s.mem_ordinaryWhere.mp hk
  rw [← same] at hf
  exact other (Option.some.inj (he.symm.trans hf) ▸ of_decide_eq_true tagged)

/-- The parts of the state a shelf acts on. -/
def shelfParts : List Part :=
  [.entries, .gens, .tableFull, .recs, .attnStacks, .overdue, .deferred, .release, .overflow, .overflowSubject, .handover]

theorem departed_touches (n : Nat) (e : Entry) : Touches shelfParts s (s.departed n e) :=
  .after (freeOrdinary_touches _ n) (by decide) (.after (resolveItems_touches _ _ _) (by decide)
    (.after (withdraw_touches _ n) (by decide) ((s.undefer_touches n).mono (by decide))))

theorem shelveEntry_touches_shelf (holder n : Nat) : Touches shelfParts s (shelveEntry holder s n) := by
  unfold shelveEntry
  split
  · exact .refl _ s
  case h_2 e he =>
    split
    case isTrue returned =>
      rw [s.removeEntry_of_returned he (by simpa using returned)]
      exact s.departed_touches n e
    · refine .after (updEntry_touches _ n _) (by decide) ?_
      unfold quietForShelf
      split
      · exact (s.undefer_touches n).mono (by decide)
      · exact .ite (.refl _ s) ((s.withdraw_touches n).mono (by decide))
      · exact .refl _ s
      · exact .refl _ s

theorem placeShelf_touches (n op st tag a granted reason : Nat) :
    Touches (.overrides :: .said .notice :: shelfParts) s (s.placeOverride .shelve n op st tag a granted reason) :=
  .after (sayAfter_notices _ _ (kind_overrideNotice s _ _)) (by decide) (.after (appendItem_touches _ _ _ _) (by decide)
    (.after (Touches.foldl (fun u k => u.shelveEntry_touches_shelf op k) _ _) (by decide)
      ((s.setOverrides_touches _).mono (by decide))))

end State

end Sys2Proof.Machine

namespace Sys2Proof.Machine.State

/-- A request that renews an override: its effect, its messages and its answer. -/
theorem renewal_carriedOut {i : Instr} {s : State} {h : Hdr} {k : OverrideKind} {tag duration reason op n : Nat}
    {o : Override} {r : TagRec} (taken : Taken s h)
    (asks : exec i s = requestEvent h (fun s => s.takeOverride k h.station tag duration reason 0) s)
    (fits : OverrideFits s.fresh k op h.station tag r) (found : s.override? k tag = some (n, o)) {granted : Nat}
    (grant : granted = grantedDuration duration (s.overrideMax k r.area)) :
    ∃ t, exec i s = .next t ∧ t.overrides.look n = some (s.renewed o op h.station granted reason) ∧
      (∀ j, j ≠ n → t.overrides.look j = s.overrides.look j) ∧
      (∀ st, 1 ≤ st → st ≤ 16 → (arrived s h).isUp st = true →
        s.outTo st (.notice (.override .renewed k tag (s.badgeOf op) h.station granted reason)) ∈ t.sent) ∧
      Answered t h (ans .renewed granted) ∧
      Touches [.overrides, .recs, .attnStacks, .shown, .unitAlarm, .said .attention, .said .notice, .said .answer]
        (arrived s h) t := by
  obtain ⟨kind, tagged⟩ := s.kind_of_override? found
  have touched := arrived_touches s h
  have quiet := arrived_ev s h
  have most : (arrived s h).overrideMax k r.area = s.overrideMax k r.area := by
    cases k <;> simp only [overrideMax, touched.areaRec_eq (by decide)] <;> rfl
  generalize arriving : arrived s h = u at touched quiet most ⊢
  have done := takeOverride_of_fits u (touched.overrideFits (by decide) fits) duration reason
  rw [grantOverride_of_found u ((touched.override?_eq (by decide) k tag).trans found), most, ← grant] at done
  have operation := u.renewOverride_touches n o op h.station granted reason
  obtain ⟨stepped, answered, -⟩ := requestEvent_carriedOut (l' := .said .answer :: .overrides :: endParts) taken asks
    arriving done rfl operation (by decide) (by decide)
  have ended := finish_answer_eq (u.renewOverride n o op h.station granted reason) h (ans .renewed granted)
  have same : u.renewed o op h.station granted reason = s.renewed o op h.station granted reason := by
    rw [renewed, touched.secondsAhead_eq (by decide)]
    rfl
  have register : ((u.renewOverride n o op h.station granted reason).finish.answer h (ans .renewed granted)).overrides =
      s.overrides.put n (s.renewed o op h.station granted reason) :=
    (ended .overrides (by decide) : _ = _).trans (congr (congrArg (fun t : Tbl Override => t.put n)
      (touched .overrides (by decide) : u.overrides = s.overrides)) same)
  refine ⟨_, stepped, ?_, fun j other => ?_, fun st low high up => ?_, answered, ?_⟩
  · rw [register, Tbl.look_put_self]
  · rw [register, Tbl.look_put_ne _ _ other]
  · have told := u.overrideNotice_told (.inr rfl) (o := u.renewed o op h.station granted reason) (g := granted) rfl low high up
    simp only [renewed, kind, tagged] at told
    rw [touched.badgeOf_eq (by decide), touched.outTo_eq (by decide)] at told
    refine mem_sent_answer _ (mem_sent_finish _ ?_ rfl)
    rw [renewOverride_eq, said_sayAfter]
    simp only [renewed, kind, tagged]
    exact .inr told
  · have untouched : (u.renewOverride n o op h.station granted reason).ev.touched = [] :=
      (congrArg EvBuf.touched quiet : u.ev.touched = [])
    exact .after (answer_touches _ h _) (by decide) (.after (finish_touches_of_untouched untouched) (by decide)
      (operation.mono (by decide)))

end Sys2Proof.Machine.State

open Sys2Proof.Machine State in
/-- Settles O34: a renewal rewrites the entry in place and tells it. -/
theorem overrideIsRenewed : Obligations.OverrideIsRenewed := by
  unfold Obligations.OverrideIsRenewed
  intro s h k tag duration reason op n o r taken range record logged level right shelvable found granted
  cases k with
  | shelve =>
    exact renewal_carriedOut (i := .shelve h tag duration reason 0) taken rfl
      ⟨range, record, logged, level, right, shelvable⟩ found rfl
  | bypass =>
    exact renewal_carriedOut (i := .bypass h tag duration reason 0) taken rfl
      ⟨range, record, logged, level, right, shelvable⟩ found rfl

namespace Sys2Proof.Machine.State

/-- A request that places an override: its effect, its messages and its answer. -/
theorem placing_carriedOut {i : Instr} {s : State} {h : Hdr} {k : OverrideKind} {tag duration reason op n : Nat} {r : TagRec}
    (taken : Taken s h)
    (asks : exec i s = requestEvent h (fun s => s.takeOverride k h.station tag duration reason 0) s)
    (fits : OverrideFits s.fresh k op h.station tag r) (none_ : s.override? k tag = none) (free : s.freeOverride? = some n)
    {granted : Nat} (grant : granted = grantedDuration duration (s.overrideMax k r.area)) :
    ∃ t, t = ((arrived s h).placeOverride k n op h.station tag r.area granted reason).finish.answer h
        (if granted = duration then ans .done granted else ans .clamped granted) ∧ exec i s = .next t ∧
      t.overrides.look n = some (s.placed k op h.station tag granted reason) ∧
      (∀ j, j ≠ n → t.overrides.look j = s.overrides.look j) ∧
      (∀ st, 1 ≤ st → st ≤ 16 → (arrived s h).isUp st = true →
        s.outTo st (.notice (.override .placed k tag (s.badgeOf op) h.station granted reason)) ∈ t.sent) ∧
      Answered t h (if granted = duration then ans .done granted else ans .clamped granted) := by
  have touched := arrived_touches s h
  have most : (arrived s h).overrideMax k r.area = s.overrideMax k r.area := by
    cases k <;> simp only [overrideMax, touched.areaRec_eq (by decide)] <;> rfl
  generalize arriving : arrived s h = u at touched most ⊢
  have register : u.overrides = s.overrides := touched .overrides (by decide)
  have done := takeOverride_of_fits u (touched.overrideFits (by decide) fits) duration reason
  rw [grantOverride_of_free u ((touched.override?_eq (by decide) k tag).trans none_)
    (by rw [← free, freeOverride?, freeOverride?, register]), most, ← grant] at done
  have operation := u.takeOverride_touches k h.station tag duration reason 0
  rw [done] at operation
  obtain ⟨stepped, answered, -⟩ := requestEvent_carriedOut (l' := .said .answer :: .overrides :: alarmParts ++ endParts)
    taken asks arriving done (by split <;> rfl) operation (by decide) (by decide)
  have ended := finish_answer_eq (u.placeOverride k n op h.station tag r.area granted reason) h
    (if granted = duration then ans .done granted else ans .clamped granted)
  have same : u.placed k op h.station tag granted reason = s.placed k op h.station tag granted reason := by
    simp only [placed, touched.now_eq (by decide), touched.mill_eq (by decide), touched.secondsAhead_eq (by decide)]
    rfl
  refine ⟨_, rfl, stepped, ?_, fun j other => ?_, fun st low high up => ?_, answered⟩
  · rw [(ended .overrides (by decide) : _ = _), look_placeOverride, if_pos rfl, same]
  · rw [(ended .overrides (by decide) : _ = _), look_placeOverride, if_neg other, register]
  · have told := u.overrideNotice_told (.inl rfl) (o := u.placed k op h.station tag granted reason) (g := granted) rfl low high up
    simp only [placed] at told
    rw [touched.badgeOf_eq (by decide), touched.outTo_eq (by decide)] at told
    refine mem_sent_answer _ (mem_sent_finish _ ?_ rfl)
    rw [placeOverride_eq, said_sayAfter]
    exact .inr told

end Sys2Proof.Machine.State

open Sys2Proof.Machine State in
/-- Settles O33: a placing writes the entry and tells it, and a shelf acts once on each alarm entry of its tag. -/
theorem overrideIsPlaced : Obligations.OverrideIsPlaced := by
  unfold Obligations.OverrideIsPlaced
  refine ⟨fun s h tag duration reason op n r taken sound range record logged level right shelvable none_ free => ?_,
    fun s h tag duration reason op n r taken range record logged level right none_ free => ?_⟩
  · intro granted
    obtain ⟨t, made, stepped, here, others, told, answered⟩ := placing_carriedOut (i := .shelve h tag duration reason 0)
      taken rfl ⟨range, record, logged, level, right, fun _ => shelvable⟩ none_ free (granted := granted) rfl
    have touched := arrived_touches s h
    have ordinary (j : Nat) (low : j < 512) : (arrived s h).entry? j = s.entry? j := entry?_arrived s h low
    have once : ((arrived s h).entriesOfTag tag).Nodup := by
      rw [entriesOfTag, ordinaryWhere_arrived]
      exact s.nodup_ordinaryWhere sound.1 _
    generalize arriving : arrived s h = u at made told touched ordinary once ⊢
    have ended : Touches (.said .answer :: endParts) _ t := made ▸ finish_answer_eq _ h _
    have entry (j : Nat) : t.entry? j =
        ((u.putOverride n (u.placed .shelve op h.station tag granted reason)).shelveTag tag op).entry? j := by
      rw [ended.entry?_eq (by decide), placeOverride_eq, (sayAfter_notices _ _ (kind_overrideNotice u _ _)).entry?_eq (by decide),
        (appendItem_touches _ _ _ _).entry?_eq (by decide)]
      rfl
    have mill : u.time.mill = s.time.mill := touched.mill_eq (by decide)
    refine ⟨t, stepped, here, others, fun j e low he tagged => ?_, fun j e low he other => ?_, told, answered, ?_⟩
    · rw [entry, entry?_shelveTag_of_member (u.putOverride n (u.placed .shelve op h.station tag granted reason)) once op low ((ordinary j low).trans he) tagged, shelvedEntry]
      split
      · have ack : (u.putOverride n (u.placed .shelve op h.station tag granted reason)).shelfAck op e =
            if e.disp = .annunciated then e.ack.getD ⟨s.time.mill, op⟩ else ⟨s.time.mill, op⟩ := by
          unfold shelfAck
          rw [show (u.putOverride n (u.placed .shelve op h.station tag granted reason)).time.mill = s.time.mill from mill]
          cases e.disp <;> simp
        rw [ack]
      · rfl
    · rw [entry]
      exact entry?_shelveTag_of_other _ op low ((ordinary j low).trans he) other
    · exact .after ended (by decide) ((u.placeShelf_touches n op h.station tag r.area granted reason).mono (by decide))
  · intro granted
    obtain ⟨t, made, stepped, here, others, told, answered⟩ := placing_carriedOut (i := .bypass h tag duration reason 0)
      taken rfl ⟨range, record, logged, level, right, nofun⟩ none_ free (granted := granted) rfl
    have quiet := arrived_ev s h
    generalize arriving : arrived s h = u at made told quiet ⊢
    have ended : Touches [.said .answer] _ t := made ▸ answer_touches _ h _
    refine ⟨t, stepped, here, others, told, answered, ?_⟩
    exact .after ended (by decide) (.after (finish_touches_of_untouched (by rw [placeBypass_touched, quiet]; rfl)) (by decide)
      ((u.placeBypass_touches _ _ _ _ _ _ _).mono (by decide)))
end

section
/-! PROOFS. The annunciation record of an alarm through the end of an event, and the escalation deadlines (R99 to R102). -/

namespace Sys2Proof.Machine

/-- Routes may change and silence may end; no deadline moves and no station falls silent. -/
structure Eases (s t : State) : Prop where
  deadline : ∀ n, (t.annRec n).deadline = (s.annRec n).deadline
  silenced : ∀ n, ∀ st ∈ (t.annRec n).silenced, st ∈ (s.annRec n).silenced

namespace Eases

variable {s t u : State}

theorem refl (s : State) : Eases s s := ⟨fun _ => rfl, fun _ _ h => h⟩

theorem trans (h : Eases s t) (k : Eases t u) : Eases s u :=
  ⟨fun n => (k.deadline n).trans (h.deadline n), fun n st hst => h.silenced n st (k.silenced n st hst)⟩

theorem foldl {α : Type} {f : State → α → State} (h : ∀ s x, Eases s (f s x)) (xs : List α) (s : State) :
    Eases s (xs.foldl f s) := by
  induction xs generalizing s with
  | nil => exact refl s
  | cons x xs ih => exact (h s x).trans (ih _)

theorem of_touches {l : List Part} (h : Touches l s t) (hl : .recs ∉ l) : Eases s t :=
  ⟨fun n => congrArg AnnRec.deadline (h.annRec_eq hl n), fun n _ hst => h.annRec_eq hl n ▸ hst⟩

theorem silenced_nil (h : Eases s t) {n : Nat} (none_ : (s.annRec n).silenced = []) : (t.annRec n).silenced = [] :=
  List.eq_nil_iff_forall_not_mem.mpr (fun st hst => by simpa [none_] using h.silenced n st hst)

end Eases

namespace State

variable (s : State)

theorem updAnnRec_eases {n : Nat} {f : AnnRec → AnnRec} (deadline : ∀ r, (f r).deadline = r.deadline)
    (silenced : ∀ r, ∀ st ∈ (f r).silenced, st ∈ r.silenced) : Eases s (s.updAnnRec n f) := by
  constructor
  all_goals
    intro m
    rw [annRec_updAnnRec]
    split
  · subst_vars; exact deadline _
  · rfl
  · subst_vars; exact silenced _
  · exact fun _ h => h

theorem mem_of_mem_del {l : NSet} {a x : Nat} (h : x ∈ l.del a) : x ∈ l := List.mem_of_mem_filter h

theorem leaveRoute_eases (st n : Nat) : Eases s (s.leaveRoute st n) :=
  (Eases.of_touches (s.unstack_touches st n) (by decide)).trans
    (updAnnRec_eases _ (fun _ => rfl) (fun _ _ h => mem_of_mem_del h))

theorem rerouteAt_eases (news : List (Nat × NSet)) (st : Nat) : Eases s (s.rerouteAt news st) :=
  (Eases.foldl (fun s (p : Nat × NSet) => s.leaveRoute_eases st p.1) _ s).trans
    (.foldl (fun s (p : Nat × Entry) => .of_touches (s.present_touches st p.1) (by decide)) _ _)

theorem reroute_eases : Eases s s.reroute :=
  (Eases.foldl (fun s st => s.rerouteAt_eases _ st) _ s).trans
    (.foldl (f := fun s (p : Nat × NSet) => s.updAnnRec p.1 (fun a => { a with route := p.2 }))
      (fun s _ => updAnnRec_eases s (fun _ => rfl) (fun _ _ h => h)) _ _)

theorem finish_eases : Eases s s.finish := by
  have eased : Eases s s.reroute.refillAll := s.reroute_eases.trans (.of_touches (refillAll_touches _) (by decide))
  exact ⟨fun n => by rw [annRec_finish]; exact eased.deadline n, fun n st hst => eased.silenced n st hst⟩

theorem announceAt_eases (n : Nat) : Eases s (s.announceAt n) := by
  have routed : Eases s (s.updAnnRec n (fun a => { a with route := s.routeNow n })) :=
    updAnnRec_eases s (fun _ => rfl) (fun _ _ h => h)
  exact routed.trans (.of_touches (presentAt_touches _ (s.routeNow n) n) (by decide))

/-! ### Escalation -/

/-- The entry as its stage-1 deadline leaves it. -/
def escalated (n : Nat) (e : Entry) : State :=
  ((s.setEntry n { e with stage := 1, cur := e.cfg.raise }).unstackAll n).updAnnRec n (fun r =>
    { r with silenced := [], deadline := some (s.secondsAhead (s.areaRec e.area).stage2, 2) })

theorem escalate_of_entry {n : Nat} {e : Entry} (he : s.entry? n = some e) :
    s.escalate n = ((s.escalated n e).announceAt n).repriceItems e.area (s.refOf n) e.cfg.raise := by
  have raised : Touches sysParts s ((s.setEntry n { e with stage := 1, cur := e.cfg.raise }).unstackAll n) :=
    .after (unstackAll_touches _ n) (by decide) ((s.setEntry_touches n _).mono (by decide))
  simp only [escalate, he, raised.secondsAhead_eq (by decide), raised.areaRec_eq (by decide), escalated]

theorem escalate_eases {n : Nat} {e : Entry} (he : s.entry? n = some e) : Eases (s.escalated n e) (s.escalate n) := by
  rw [s.escalate_of_entry he]
  exact (announceAt_eases _ n).trans (.of_touches (repriceItems_touches _ e.area _ _) (by decide))

theorem annRec_escalated (n : Nat) (e : Entry) : ((s.escalated n e).annRec n).silenced = [] ∧
    ((s.escalated n e).annRec n).deadline = some (s.secondsAhead (s.areaRec e.area).stage2, 2) := by
  rw [escalated, annRec_updAnnRec, if_pos rfl]
  exact ⟨rfl, rfl⟩

theorem entry?_escalate {n : Nat} {e : Entry} (he : s.entry? n = some e) (m : Nat) : (s.escalate n).entry? m =
    if m = n then some { e with stage := 1, cur := e.cfg.raise } else s.entry? m := by
  rw [s.escalate_of_entry he, (repriceItems_touches _ e.area _ _).entry?_eq (by decide), entry?_announceAt, escalated,
    (updAnnRec_touches _ n _).entry?_eq (by decide), (unstackAll_touches _ n).entry?_eq (by decide), entry_setEntry]

/-! ### Overdue -/

/-- The entry as its stage-2 deadline leaves it, before OVERDUE ALARM is raised. -/
def overdueEntry (n : Nat) (e : Entry) : State :=
  (s.setEntry n { e with stage := 2 }).updAnnRec n (fun r => { r with deadline := none })

theorem fallOverdue_of_entry {n : Nat} {e : Entry} (he : s.entry? n = some e) :
    s.fallOverdue n = (s.overdueEntry n e).overdueUp := by
  simp only [fallOverdue, he, overdueEntry]

theorem entry?_overdueEntry (n : Nat) (e : Entry) (m : Nat) : (s.overdueEntry n e).entry? m =
    if m = n then some { e with stage := 2 } else s.entry? m := by
  rw [overdueEntry, (updAnnRec_touches _ n _).entry?_eq (by decide), entry_setEntry]

theorem raisedAlarm_subject (n : Nat) (x : Subject) : (s.raisedAlarm n x).subject = x := by
  unfold raisedAlarm
  split <;> rfl

theorem overdueUp_subject : ∃ x, s.overdueUp.entry? 518 = some x ∧ x.active = true ∧
    x.subject = .count (s.ann.overdue + 1) := by
  rw [overdueUp_eq, entry?_sysRaise_self]
  exact ⟨_, rfl, raisedAlarm_active _ _ _, raisedAlarm_subject _ _ _⟩

theorem represent_eases (n : Nat) : Eases s (s.represent n) := by
  have sounded : Eases s (s.updAnnRec n (fun a => { a with silenced := [] })) :=
    updAnnRec_eases s (fun _ => rfl) (fun _ _ h => absurd h (by simp))
  have shown := sounded.trans (.of_touches (presentAt_touches _
    ((s.updAnnRec n (fun a => { a with silenced := [] })).annRec n).route n) (by decide))
  exact ⟨fun m => shown.deadline m, fun m st hst => shown.silenced m st hst⟩

theorem sysRaise_eases (n : Nat) (x : Subject) : Eases s (s.sysRaise n x) := by
  have set (e : Entry) : Eases s (s.setEntry n e) := .of_touches (s.setEntry_touches n e) (by decide)
  unfold sysRaise
  split
  · exact (set _).trans (announceAt_eases _ n)
  · dsimp only
    split
    · exact set _
    · exact (set _).trans (represent_eases _ n)

theorem overdueUp_eases : Eases s s.overdueUp := by
  have noted : Eases s (s.withOverdue (s.ann.overdue + 1)) := .of_touches (s.withOverdue_touches _) (by decide)
  rw [overdueUp_eq]
  exact noted.trans (sysRaise_eases _ _ _)

theorem overdue_overdueUp : s.overdueUp.ann.overdue = s.ann.overdue + 1 := by
  rw [overdueUp_eq]
  exact sysRaise_touches _ 518 _ .overdue (by decide)

theorem finish_overdue : s.finish.ann.overdue = s.ann.overdue := s.finish_touches .overdue (by decide)

end State

end Sys2Proof.Machine

open Sys2Proof.Machine State in
/-- Settles O32: the record set at an expiry outlasts the presentation that follows it. -/
theorem deadlinesEscalate : Obligations.DeadlinesEscalate := by
  unfold Obligations.DeadlinesEscalate
  refine ⟨fun s n e on due he => ?_, fun s n e on low due he => ?_⟩
  · have due' : s.fresh.deadlineDue n 1 = true := due
    have eased := (s.fresh.escalate_eases he).trans (finish_eases _)
    obtain ⟨quiet, deadline⟩ := s.fresh.annRec_escalated n e
    refine ⟨_, timerEvent_of_due (due := fun s => s.deadlineDue n 1) on due' (fun s => s.escalate n), ?_,
      eased.silenced_nil quiet, (eased.deadline n).trans deadline, fun j other => ?_,
      .after (finish_touches _) (by decide) ((escalate_touches _ n).mono (by decide))⟩
    · rw [entry?_finish, entry?_escalate s.fresh he, if_pos rfl]
    · rw [entry?_finish, entry?_escalate s.fresh he, if_neg other]
      rfl
  · have due' : s.fresh.deadlineDue n 2 = true := due
    have expired := s.fresh.fallOverdue_of_entry he
    have eased := ((s.fresh.overdueEntry n e).overdueUp_eases).trans (finish_eases _)
    obtain ⟨x, raised, active, subject⟩ := (s.fresh.overdueEntry n e).overdueUp_subject
    have overdue : (s.fresh.overdueEntry n e).ann.overdue = s.ann.overdue :=
      Touches.after (updAnnRec_touches _ n _) (l := sysParts) (by decide) ((s.fresh.setEntry_touches n _).mono (by decide))
        .overdue (by decide)
    rw [overdue] at subject
    have step := timerEvent_of_due (due := fun s => s.deadlineDue n 2) on due' (fun s => s.fallOverdue n)
    have touched := s.fresh.fallOverdue_touches n
    rw [expired] at step touched
    have other (j : Nat) (h : j ≠ 518) : (s.fresh.overdueEntry n e).overdueUp.entry? j = (s.fresh.overdueEntry n e).entry? j := by
      rw [overdueUp_eq, entry?_sysRaise_ne _ h]
      rfl
    refine ⟨_, x, step, ?_, ?_, ?_, ?_, active, subject, fun j hn h518 => ?_,
      .after (finish_touches _) (by decide) (touched.mono (by decide))⟩
    · rw [entry?_finish, other n (by omega), entry?_overdueEntry, if_pos rfl]
    · rw [eased.deadline, overdueEntry, annRec_updAnnRec, if_pos rfl]
    · rw [finish_overdue, overdue_overdueUp, overdue]
    · rw [entry?_finish, raised]
    · rw [entry?_finish, other j h518, entry?_overdueEntry, if_neg hn]
      rfl
end

section
/-! PROOFS. SILENCE TOP and SILENCE ALL (R96, R97): while the routes stand, an event's end moves no alarm between stations
and only refills the stacks that lost one. -/

namespace Sys2Proof.Machine.State

variable (s : State)

/-! ### The end of an event over routes that stand -/

theorem rerouteAt_of_stand {s : State} (stand : s.RoutesStand) (ns : List Nat) (st : Nat) :
    s.rerouteAt (ns.map (fun n => (n, s.routeNow n))) st = s := by
  have leavers : (ns.map (fun n => (n, s.routeNow n))).filter
      (fun p => decide (st ∈ (s.annRec p.1).route ∧ st ∉ p.2)) = [] := by
    simp [List.filter_eq_nil_iff, stand _]
  have joiners : (ns.map (fun n => (n, s.routeNow n))).filter
      (fun p => decide (st ∉ (s.annRec p.1).route ∧ st ∈ p.2)) = [] := by
    simp [List.filter_eq_nil_iff, stand _]
  simp only [rerouteAt, leavers, joiners]
  rfl

theorem reroute_of_stand {s : State} (stand : s.RoutesStand) : s.reroute =
    (s.alarm.entries.keys.map (fun n => (n, s.routeNow n))).foldl
      (fun s p => s.updAnnRec p.1 (fun a => { a with route := p.2 })) s := by
  have stays (sts : List Nat) : sts.foldl (fun s' st =>
      s'.rerouteAt (s.alarm.entries.keys.map (fun n => (n, s.routeNow n))) st) s = s := by
    induction sts with
    | nil => rfl
    | cons st sts ih => rw [List.foldl_cons, rerouteAt_of_stand stand, ih]
  unfold reroute
  dsimp only
  rw [stays]

/-- Routes written as they stand change no record. -/
theorem annRec_foldl_route (ns : List Nat) (route : Nat → NSet) (s : State) (stand : ∀ n, (s.annRec n).route = route n) (m : Nat) :
    ((ns.map (fun n => (n, route n))).foldl (fun s p => s.updAnnRec p.1 (fun a => { a with route := p.2 })) s).annRec m =
      s.annRec m := by
  induction ns generalizing s with
  | nil => rfl
  | cons n ns ih =>
    have same (k : Nat) : (s.updAnnRec n (fun a => { a with route := route n })).annRec k = s.annRec k := by
      rw [annRec_updAnnRec]
      split
      case isTrue here => rw [here, ← stand n]
      case isFalse => rfl
    rw [List.map_cons, List.foldl_cons, ih _ (fun k => by rw [same, stand]), same]

theorem foldl_route_kept (ps : List (Nat × NSet)) (s : State) :
    (ps.foldl (fun s p => s.updAnnRec p.1 (fun a => { a with route := p.2 })) s).ev = s.ev ∧
      (ps.foldl (fun s p => s.updAnnRec p.1 (fun a => { a with route := p.2 })) s).ann.stack = s.ann.stack := by
  induction ps generalizing s with
  | nil => exact ⟨rfl, rfl⟩
  | cons p ps ih =>
    obtain ⟨ev, stack⟩ := ih (s.updAnnRec p.1 (fun a => { a with route := p.2 }))
    exact ⟨ev.trans rfl, stack.trans rfl⟩

theorem annRec_reroute_of_stand {s : State} (stand : s.RoutesStand) (n : Nat) : s.reroute.annRec n = s.annRec n := by
  rw [reroute_of_stand stand, annRec_foldl_route _ _ _ stand]

theorem stack_reroute_of_stand {s : State} (stand : s.RoutesStand) (st : Nat) : s.reroute.stack st = s.stack st := by
  rw [reroute_of_stand stand]
  exact congrArg (fun t : Tbl (List Nat) => t.getD st []) (foldl_route_kept _ s).2

theorem refill_reroute_of_stand {s : State} (stand : s.RoutesStand) : s.reroute.ev = s.ev := by
  rw [reroute_of_stand stand]
  exact (foldl_route_kept _ s).1

theorem annRec_finish_of_stand {s : State} (stand : s.RoutesStand) (n : Nat) : s.finish.annRec n = s.annRec n := by
  rw [annRec_finish, (refillAll_touches _).annRec_eq (by decide), annRec_reroute_of_stand stand]

theorem waiting_eq {s t : State} {st : Nat} (entries : t.alarm.entries = s.alarm.entries)
    (recs : ∀ n, t.annRec n = s.annRec n) (stack : t.stack st = s.stack st) : t.waiting st = s.waiting st := by
  simp only [waiting, entries, recs, stack]

/-- What a refill of one station pushes. -/
def refilled (st : Nat) : List Nat :=
  match sortBy urgentFirst (s.waiting st) with
  | [] => []
  | (n, _) :: _ => if s.exceedsTop st n then [n] else []

theorem mem_sortBy {α : Type} {le : α → α → Bool} {x : α} {l : List α} (h : x ∈ sortBy le l) : x ∈ l := by
  have inserted (y : α) (l : List α) (h : x ∈ insertBy le y l) : x = y ∨ x ∈ l := by
    induction l with
    | nil => simpa [insertBy] using h
    | cons z l ih =>
      simp only [insertBy] at h
      split at h
      · simpa using h
      · rcases List.mem_cons.mp h with rfl | h
        · simp
        · exact (ih h).imp_right (List.mem_cons_of_mem _)
  induction l with
  | nil => simp [sortBy] at h
  | cons y l ih => exact List.mem_cons.mpr ((inserted y _ h).imp_right ih)

theorem refilled_waits {st n : Nat} (h : n ∈ s.refilled st) : ∃ e, (n, e) ∈ s.waiting st := by
  unfold refilled at h
  split at h
  · simp at h
  case h_2 m e rest sorted =>
    split at h
    · obtain rfl := List.mem_singleton.mp h
      exact ⟨e, mem_sortBy (sorted ▸ List.mem_cons_self)⟩
    · simp at h

theorem length_refilled (st : Nat) : (s.refilled st).length ≤ 1 := by
  unfold refilled
  split
  · simp
  · split <;> simp

theorem stack_refillAt {st : Nat} (room : (s.stack st).length < Config.stackDepth) (st' : Nat) :
    (s.refillAt st).stack st' = if st' = st then s.stack st ++ s.refilled st else s.stack st' := by
  have whole : (if st' = st then s.stack st ++ [] else s.stack st') = s.stack st' := by
    split
    case isTrue here => rw [here, List.append_nil]
    case isFalse => rfl
  cases sorted : sortBy urgentFirst (s.waiting st) with
  | nil => simp only [refillAt, refilled, sorted, whole]
  | cons p rest =>
    simp only [refillAt, refilled, sorted]
    split
    · rw [push, if_neg (by omega), stack_setStack]
    · rw [whole]

/-- With no more than one station that lost an alarm, the refill is of that station. -/
theorem stack_finish_of_stand {s : State} (stand : s.RoutesStand) {st : Nat} (one : s.ev.refill = [st])
    (room : (s.stack st).length < Config.stackDepth) (st' : Nat) :
    s.finish.stack st' = if st' = st then s.stack st ++ s.reroute.refilled st else s.stack st' := by
  have same : s.finish.stack st' = s.reroute.refillAll.stack st' := rfl
  have held := stack_reroute_of_stand stand
  rw [same, refillAll, refill_reroute_of_stand stand, one]
  show (s.reroute.refillAt st).stack st' = _
  rw [stack_refillAt _ (by rwa [held]), held, held]

theorem stack_finish_of_full {s : State} (stand : s.RoutesStand) (none_ : s.ev.refill = []) (st : Nat) :
    s.finish.stack st = s.stack st := by
  have same : s.finish.stack st = s.reroute.refillAll.stack st := rfl
  rw [same, refillAll, refill_reroute_of_stand stand, none_]
  exact stack_reroute_of_stand stand st

/-! ### Silence -/

theorem stack_unstack (st n st' : Nat) :
    (s.unstack st n).stack st' = if st' = st then (s.stack st).filter (fun m => decide (m ≠ n)) else s.stack st' := by
  unfold unstack
  split
  · exact s.stack_setStack st _ st'
  case isFalse absent =>
    split
    case isTrue here =>
      rw [here, List.filter_eq_self.mpr]
      exact fun m hm => decide_eq_true (fun same => absent (same ▸ hm))
    case isFalse => rfl

theorem stack_silence (st n st' : Nat) :
    (s.silence st n).stack st' = if st' = st then (s.stack st).filter (fun m => decide (m ≠ n)) else s.stack st' :=
  s.stack_unstack st n st'

theorem annRec_silence (st n m : Nat) : (s.silence st n).annRec m =
    if m = n then { s.annRec n with silenced := (s.annRec n).silenced.ins st } else s.annRec m := by
  rw [silence, annRec_updAnnRec, (unstack_touches s st n).annRec_eq (by decide), (unstack_touches s st n).annRec_eq (by decide)]

theorem silence_routesStand {s : State} (stand : s.RoutesStand) (st n : Nat) : (s.silence st n).RoutesStand := by
  intro m
  rw [(silence_touches s st n).routeNow_eq (by decide), ← stand m, annRec_silence]
  split
  case isTrue here => rw [here]
  case isFalse => rfl

theorem refill_silence {st n : Nat} (only : s.ev.refill = [] ∨ s.ev.refill = [st]) :
    (s.silence st n).ev.refill = [] ∨ (s.silence st n).ev.refill = [st] := by
  show (s.unstack st n).ev.refill = [] ∨ (s.unstack st n).ev.refill = [st]
  unfold unstack
  split
  · exact .inr (by rcases only with none_ | one <;> simp [*, NSet.ins])
  · exact only

theorem silence_ev (st n : Nat) : (s.silence st n).ev.touched = s.ev.touched ∧ (s.silence st n).ev.items = s.ev.items ∧
    (s.silence st n).ev.pre = s.ev.pre ∧ (s.silence st n).ev.post = s.ev.post := by
  show (s.unstack st n).ev.touched = _ ∧ (s.unstack st n).ev.items = _ ∧ (s.unstack st n).ev.pre = _ ∧ (s.unstack st n).ev.post = _
  unfold unstack
  split <;> exact ⟨rfl, rfl, rfl, rfl⟩

theorem takeSilenceTop_of_fits {st : Nat} {r : Ref} (range : r.num ≤ 520) (logged : (s.logonAt st).isSome = true)
    (current : s.current r = true) (top : s.top? st = some r.num) :
    s.takeSilenceTop st r 0 = (s.silence st r.num, ans .done 1) := by
  have someone : s.logonAt st ≠ none := fun h => by simp [h] at logged
  simp only [takeSilenceTop, current, top, someone]
  rw [if_neg (by simp), if_neg (by simp [Config.lastEntry]; omega)]
  simp

theorem takeSilenceAll_of_fits {st : Nat} (logged : (s.logonAt st).isSome = true) (noise : s.audible st ≠ []) :
    s.takeSilenceAll st 0 =
      ((s.audible st).foldl (fun s n => s.silence st n) s, ans .done (s.audible st).length) := by
  have someone : s.logonAt st ≠ none := fun h => by simp [h] at logged
  simp [takeSilenceAll, someone, noise]

theorem refill_silence_top {st n : Nat} (listed : n ∈ s.stack st) (none_ : s.ev.refill = []) :
    (s.silence st n).ev.refill = [st] := by
  show (s.unstack st n).ev.refill = [st]
  simp [unstack, listed, none_, NSet.ins]

/-- A station silences alarms one after another. -/
def silences (st : Nat) (ns : List Nat) : State := ns.foldl (fun s n => s.silence st n) s

theorem annRec_silences (st : Nat) (ns : List Nat) (m : Nat) :
    ((s.silences st ns).annRec m).route = (s.annRec m).route ∧
      ∀ x, x ∈ ((s.silences st ns).annRec m).silenced ↔ x ∈ (s.annRec m).silenced ∨ (x = st ∧ m ∈ ns) := by
  induction ns generalizing s with
  | nil => exact ⟨rfl, fun x => by simp [silences]⟩
  | cons n ns ih =>
    obtain ⟨route, members⟩ := ih (s.silence st n)
    have one := s.annRec_silence st n m
    refine ⟨route.trans ?_, fun x => (members x).trans ?_⟩
    · rw [one]
      split
      case isTrue here => rw [here]
      case isFalse => rfl
    · rw [one]
      split
      case isTrue here => subst here; simp only [NSet.mem_ins, List.mem_cons]; tauto
      case isFalse other => simp only [List.mem_cons, other]; tauto

theorem silences_touches (st : Nat) (ns : List Nat) : Touches [.recs, .attnStacks] s (s.silences st ns) :=
  Touches.foldl (fun s n => s.silence_touches st n) ns s

theorem silences_routesStand {s : State} (stand : s.RoutesStand) (st : Nat) (ns : List Nat) : (s.silences st ns).RoutesStand :=
  fun m => by rw [(silences_touches s st ns).routeNow_eq (by decide), (s.annRec_silences st ns m).1, stand m]

theorem stack_silences (st : Nat) (ns : List Nat) (st' : Nat) : (s.silences st ns).stack st' =
    if st' = st then (s.stack st).filter (fun m => decide (m ∉ ns)) else s.stack st' := by
  induction ns generalizing s with
  | nil =>
    split
    case isTrue here => rw [here]; simp [silences]
    case isFalse => rfl
  | cons n ns ih =>
    have rest : (s.silences st (n :: ns)).stack st' = ((s.silence st n).silences st ns).stack st' := rfl
    rw [rest, ih, stack_silence, stack_silence]
    split
    · rw [if_pos rfl, List.filter_filter]
      refine List.filter_congr (fun m _ => ?_)
      rw [← Bool.decide_and, decide_eq_decide]
      simp only [List.mem_cons]
      tauto
    · rfl

theorem silences_ev {s : State} (quiet : s.ev = EvBuf.empty) (st : Nat) (ns : List Nat) :
    ((s.silences st ns).ev.touched = [] ∧ (s.silences st ns).ev.items = [] ∧ (s.silences st ns).ev.pre = [] ∧
      (s.silences st ns).ev.post = []) ∧
    ((s.silences st ns).ev.refill = [] ∨ (s.silences st ns).ev.refill = [st]) := by
  have from_ (s : State) (only : s.ev.refill = [] ∨ s.ev.refill = [st]) :
      ((s.silences st ns).ev.touched = s.ev.touched ∧ (s.silences st ns).ev.items = s.ev.items ∧
        (s.silences st ns).ev.pre = s.ev.pre ∧ (s.silences st ns).ev.post = s.ev.post) ∧
      ((s.silences st ns).ev.refill = [] ∨ (s.silences st ns).ev.refill = [st]) := by
    induction ns generalizing s with
    | nil => exact ⟨⟨rfl, rfl, rfl, rfl⟩, only⟩
    | cons n ns ih =>
      obtain ⟨⟨touched, items, pre, post⟩, refill⟩ := ih (s.silence st n) (s.refill_silence only)
      obtain ⟨touched', items', pre', post'⟩ := s.silence_ev st n
      exact ⟨⟨touched.trans touched', items.trans items', pre.trans pre', post.trans post'⟩, refill⟩
  have started := from_ s (.inl (by rw [quiet]; rfl))
  rw [quiet] at started
  exact started

/-- R97: once all that a station may hear is silenced there, nothing waits there. -/
theorem waiting_silences (st : Nat) : (s.silences st (s.audible st)).waiting st = [] := by
  have entries : (s.silences st (s.audible st)).alarm.entries = s.alarm.entries := s.silences_touches st _ .entries (by decide)
  refine List.filter_eq_nil_iff.mpr (fun p hp waits => ?_)
  rw [entries] at hp
  obtain ⟨route, members⟩ := s.annRec_silences st (s.audible st) p.1
  simp only [Bool.and_eq_true, decide_eq_true_eq, route, members] at waits
  obtain ⟨sounding, routed, -, loud⟩ := waits
  refine loud (.inr ⟨trivial, List.mem_append.mpr ?_⟩)
  by_cases stacked : p.1 ∈ s.stack st
  · exact .inl stacked
  · refine .inr (List.mem_map_of_mem (List.mem_filter.mpr ⟨hp, ?_⟩))
    simp only [Bool.and_eq_true, decide_eq_true_eq]
    exact ⟨sounding, routed, stacked, fun quiet => loud (.inl quiet)⟩

theorem refilled_of_idle {st : Nat} (idle : s.waiting st = []) : s.refilled st = [] := by
  simp [refilled, idle, sortBy]

end Sys2Proof.Machine.State

open Sys2Proof.Machine State in
/-- Settles O31: silencing leaves the routes as they stand, so that the event's end only refills the station's own stack. -/
theorem silenceQuietsStation : Obligations.SilenceQuietsStation := by
  unfold Obligations.SilenceQuietsStation
  refine ⟨fun s h r taken stand room logged range current top => ?_, fun s h taken stand logged noise => ?_⟩
  all_goals
    have touched := arrived_touches s h
    have quiet := arrived_ev s h
    have stand' : (arrived s h).RoutesStand := admitFrame_keepsRoutes s.fresh h.station stand
  · have roomy : (arrived s h).StackRoom := (s.fresh.admitFrame_keeps h.station).room (withinCapacity_iff.mp room).1
    generalize arriving : arrived s h = u at *
    have listed : r.num ∈ u.stack h.station := List.mem_of_getLast? top
    have done := u.takeSilenceTop_of_fits range (by rwa [touched.logonAt_eq (by decide)]) current top
    have operation := u.silence_touches h.station r.num
    obtain ⟨stepped, answered, -⟩ := requestEvent_carriedOut (i := .silenceTop h r 0)
      (l' := [.said .answer] ++ endParts) taken rfl arriving done rfl operation (by decide) (by decide)
    have stood := silence_routesStand stand' h.station r.num
    have ended := answer_touches (u.silence h.station r.num).finish h (ans .done 1)
    have one := u.refill_silence_top listed (by rw [quiet]; rfl)
    have shorter : ((u.silence h.station r.num).stack h.station).length < Sys2Proof.Config.stackDepth := by
      rw [stack_silence, if_pos rfl]
      have strict := List.length_filter_lt_length_iff_exists (p := fun m => decide (m ≠ r.num)) |>.mpr ⟨r.num, listed, by simp⟩
      exact Nat.lt_of_lt_of_le strict (roomy h.station)
    have stack := stack_finish_of_stand stood one shorter
    have silenced : h.station ∈ ((u.silence h.station r.num).annRec r.num).silenced := by
      rw [annRec_silence, if_pos rfl]
      exact (Sys2Proof.NSet.mem_ins _ _ _).mpr (.inl rfl)
    refine ⟨_, stepped, ?_, fun m other => ?_, ⟨(u.silence h.station r.num).reroute.refilled h.station,
      length_refilled _ h.station, ?_, ?_⟩, fun st other => ?_, answered, ?_⟩
    · rw [ended.annRec_eq (by decide), annRec_finish_of_stand stood, annRec_silence, if_pos rfl]
    · rw [ended.annRec_eq (by decide), annRec_finish_of_stand stood, annRec_silence, if_neg other]
    · intro back
      obtain ⟨e, waits⟩ := refilled_waits _ back
      have waits' := (List.mem_filter.mp waits).2
      simp only [Bool.and_eq_true, decide_eq_true_eq, annRec_reroute_of_stand stood] at waits'
      exact waits'.2.2.2 silenced
    · rw [ended.stack_eq (by decide), stack, if_pos rfl, stack_silence, if_pos rfl]
    · rw [ended.stack_eq (by decide), stack, if_neg other, stack_silence, if_neg other]
    · obtain ⟨untouched, unlisted, pre, post⟩ := u.silence_ev h.station r.num
      rw [quiet] at untouched unlisted pre post
      exact .after ended (by decide) (.after (finish_touches_of_unlisted untouched unlisted (by simp [pre, post, EvBuf.empty]))
        (by decide) (operation.mono (by decide)))
  · generalize arriving : arrived s h = u at *
    have done := u.takeSilenceAll_of_fits (by rwa [touched.logonAt_eq (by decide)]) noise
    have operation := u.silences_touches h.station (u.audible h.station)
    obtain ⟨stepped, answered, -⟩ := requestEvent_carriedOut (i := .silenceAll h 0)
      (l' := [.said .answer] ++ endParts) taken rfl arriving done rfl operation (by decide) (by decide)
    have stood := silences_routesStand stand' h.station (u.audible h.station)
    have empty : (u.silences h.station (u.audible h.station)).stack h.station = [] := by
      rw [stack_silences, if_pos rfl, List.filter_eq_nil_iff]
      exact fun m hm => by simp [audible, hm]
    have idle := u.waiting_silences h.station
    obtain ⟨⟨untouched, unlisted, pre, post⟩, refill⟩ := silences_ev quiet h.station (u.audible h.station)
    have others := u.stack_silences h.station (u.audible h.station)
    have quieted := u.annRec_silences h.station (u.audible h.station)
    change Touches _ u _ at operation
    rw [show (u.audible h.station).foldl (fun s n => s.silence h.station n) u = u.silences h.station (u.audible h.station)
      from rfl] at stepped answered
    generalize made : u.silences h.station (u.audible h.station) = v at *
    have ended := answer_touches v.finish h (ans .done (u.audible h.station).length)
    have stack (st : Nat) : v.finish.stack st = v.stack st := by
      rcases refill with none_ | one
      · exact stack_finish_of_full stood none_ st
      · rw [stack_finish_of_stand stood one (by simp [empty, Sys2Proof.Config.stackDepth])]
        split
        case isTrue here =>
          rw [here, refilled_of_idle, List.append_nil]
          rw [← idle]
          exact waiting_eq (v.reroute_touches .entries (by decide)) (annRec_reroute_of_stand stood)
            (stack_reroute_of_stand stood _)
        case isFalse => rfl
    refine ⟨_, stepped, ?_, ?_, fun n hn => ?_, fun st other => ?_, answered, ?_⟩
    · rw [ended.stack_eq (by decide), stack, empty]
    · rw [← idle]
      exact waiting_eq (v.finish_touches .entries (by decide)) (annRec_finish_of_stand stood) (stack _)
    · rw [ended.annRec_eq (by decide), annRec_finish_of_stand stood]
      exact ((quieted n).2 h.station).mpr (.inr ⟨rfl, hn⟩)
    · rw [ended.stack_eq (by decide), stack, others, if_neg other]
    · exact .after ended (by decide) (.after (finish_touches_of_unlisted untouched unlisted (by simp [pre, post])) (by decide)
        (operation.mono (by decide)))
end

section
/-! PROOFS. SERVICE OUT and SERVICE IN (R60, R61, R177). -/

namespace Sys2Proof.Machine

theorem Touches.maySetService_eq {l : List Part} {s t : State} (h : Touches l s t)
    (hl : ∀ p ∈ [Part.pins, .key, .logon, .roster, .stations], p ∉ l) (st : Nat) : t.maySetService st = s.maySetService st := by
  unfold State.maySetService
  rw [h.logonAt_eq (hl _ (by simp)), h.entitled_eq (hl _ (by simp)) (hl _ (by simp)) (hl _ (by simp)) (hl _ (by simp))]
  simp only [h.isSupervisorRole_eq (hl .roster (by simp)), h.isSupervisorStation_eq (hl .stations (by simp))]

namespace State

variable (s : State)

theorem area_of_core {e f : Entry} (h : e.core = f.core) : e.area = f.area :=
  (congrArg Entry.area h : e.core.area = f.core.area)

/-- R60 step 2: once an area's entries have been removed none is left. -/
theorem area_foldl_removeEntry {a n : Nat} {e : Entry} (u : State) (same : ∀ m, u.entry? m = s.entry? m) (low : n < 512)
    (he : ((s.entriesOfArea a).foldl removeEntry u).entry? n = some e) : e.area ≠ a := by
  have spared (x y : Option Entry) (h : y.map Entry.core = x.map Entry.core) (hx : ∀ e, x = some e → e.area ≠ a) :
      ∀ e, y = some e → e.area ≠ a := by
    rintro f rfl
    cases x with
    | none => cases h
    | some e => exact area_of_core (Option.some.inj h) ▸ hx e rfl
  have visit (s : State) : ∀ e, (s.removeEntry n).entry? n = some e → e.area ≠ a := by
    have gone := s.core_removeEntry n low
    rw [if_pos rfl, Option.map_eq_none_iff] at gone
    rw [gone]
    exact fun _ h => absurd h (by simp)
  have other (s : State) (k : Nat) (hk : k ≠ n) (hs : ∀ e, s.entry? n = some e → e.area ≠ a) :
      ∀ e, (s.removeEntry k).entry? n = some e → e.area ≠ a := by
    have kept := s.core_removeEntry k low
    rw [if_neg (Ne.symm hk)] at kept
    exact spared _ _ kept hs
  have first : n ∈ s.entriesOfArea a ∨ ∀ e, u.entry? n = some e → e.area ≠ a := by
    by_cases listed : n ∈ s.entriesOfArea a
    · exact .inl listed
    · refine .inr (fun f hf here => listed (s.mem_ordinaryWhere.mpr ⟨low, f, ?_, by simp [here]⟩))
      rw [← same, hf]
  exact entry?_foldl_of_mem (f := removeEntry) (Q := fun x => ∀ e, x = some e → e.area ≠ a) (start := fun _ => True)
    (fun _ _ => trivial) (fun s _ => visit s) other (fun _ _ _ _ => trivial) (s.entriesOfArea a) u trivial first e he

theorem floodOut_effect (a : Nat) : (s.floodOut a).load a = 0 ∧ (s.floodOut a).flooded a = false ∧
    (s.floodOut a).flood.release.look a = none := by
  have cleared : ((s.setLoad a 0).setRelease a none).load a = 0 ∧ ((s.setLoad a 0).setRelease a none).flooded a = s.flooded a ∧
      ((s.setLoad a 0).setRelease a none).flood.release.look a = none := by
    refine ⟨?_, rfl, by rw [look_setRelease, if_pos rfl]⟩
    rw [(setRelease_touches _ a none).load_eq (by decide), load_setLoad, if_pos rfl]
  obtain ⟨load, flag, release⟩ := cleared
  unfold floodOut
  split
  · have lowered := setFlooded_touches ((s.setLoad a 0).setRelease a none) a false
    refine ⟨(lowered.load_eq (by decide) a).trans load, by rw [flooded_setFlooded, if_pos rfl], ?_⟩
    exact (congrArg (fun t : Tbl Nat => t.look a) (lowered .release (by decide) : _ = _)).trans release
  case isFalse dry => exact ⟨load, flag.trans (by simpa using dry), release⟩

theorem takeServiceOut_of_fits {st a : Nat} (range : 1 ≤ a ∧ a ≤ 12) (may : s.maySetService st = true)
    (open_ : s.inService a = true) : s.takeServiceOut st a 0 = (s.areaOut a, ans .done (s.entriesOfArea a).length) := by
  simp [takeServiceOut, areaFault?_eq_none.mpr ⟨range, rfl⟩, may, open_]

theorem takeServiceIn_of_fits {st a : Nat} (range : 1 ≤ a ∧ a ≤ 12) (may : s.maySetService st = true)
    (closed : s.inService a = false) : s.takeServiceIn st a 0 = (s.areaIn a, ans .done) := by
  simp [takeServiceIn, areaFault?_eq_none.mpr ⟨range, rfl⟩, may, closed]

theorem serviceNotice_told (a : Nat) (b : Bool) {st : Nat} (low : 1 ≤ st) (high : st ≤ 16) (up : s.isUp st = true) :
    s.outTo st (.notice (.service a b)) ∈ (s.serviceNotice a b).said :=
  (s.said_sayAfter _).mpr (.inr (s.mem_toUp low high up _))

/-- The area's entries removed and its flood ended, the area being out of service. -/
def emptied (a : Nat) : State :=
  ((s.entriesOfArea a).foldl removeEntry { s with alarm := { s.alarm with out := s.alarm.out.ins a } }).floodOut a

theorem areaOut_eq (a : Nat) : s.areaOut a = ((s.emptied a).coverScan).serviceNotice a false := rfl

theorem emptied_touches (a : Nat) : Touches (.outAreas :: alarmParts) s (s.emptied a) :=
  .after (floodOut_touches _ a) (by decide) (.after (l' := alarmParts) (Touches.foldl (fun s n => s.removeEntry_touches n) _ _)
    (by decide) ((s.setOut_touches _).mono (by decide)))

theorem out_emptied (a : Nat) : (s.emptied a).alarm.out = s.alarm.out.ins a := by
  have removed : Touches alarmParts { s with alarm := { s.alarm with out := s.alarm.out.ins a } } (s.emptied a) :=
    .after (floodOut_touches _ a) (by decide) (Touches.foldl (fun s n => s.removeEntry_touches n) _ _)
  exact removed .outAreas (by decide)

theorem inService_of_out {s t : State} {a : Nat} (out : t.alarm.out = s.alarm.out.ins a) (b : Nat) :
    t.inService b = (s.inService b && decide (b ≠ a)) := by
  rw [inService, inService, out, ← Bool.decide_and, decide_eq_decide, NSet.mem_ins]
  tauto

theorem inService_of_in {s t : State} {a : Nat} (out : t.alarm.out = s.alarm.out.del a) (b : Nat) :
    t.inService b = (s.inService b || decide (b = a)) := by
  rw [inService, inService, out, ← Bool.decide_or, decide_eq_decide, NSet.mem_del]
  tauto

/-- The resync number that SERVICE IN asks with (R177). -/
def areaResyncNumber : Nat :=
  if s.plant.link = .resync ∨ (s.plant.link = .degraded ∧ s.plant.ret = true) then s.plant.resync
  else (s.plant.resync + 1) % 65536

theorem areaResync_of_linked (a : Nat) (linked : ¬ (s.plant.link = .start ∨ s.plant.link = .lost)) : s.areaResync a =
    (s.setPlant (fun p => { p with resync := s.areaResyncNumber, expected := none })).say
      [.plant (.resyncRequest a s.areaResyncNumber)] := by
  unfold areaResync
  rw [if_neg linked]
  simp only [areaResyncNumber, Bool.or_eq_true, Bool.and_eq_true, decide_eq_true_eq]

/-- The area in service again, its cover scanned. -/
def reopened (a : Nat) : State := ({ s with alarm := { s.alarm with out := s.alarm.out.del a } } : State).coverScan

theorem areaIn_eq (a : Nat) : s.areaIn a = ((s.reopened a).areaResync a).serviceNotice a true := rfl

theorem reopened_touches (a : Nat) : Touches (.outAreas :: coverParts) s (s.reopened a) :=
  .after (coverScan_touches _) (by decide) ((s.setOut_touches _).mono (by decide))

theorem out_reopened (a : Nat) : (s.reopened a).alarm.out = s.alarm.out.del a :=
  coverScan_touches { s with alarm := { s.alarm with out := s.alarm.out.del a } } .outAreas (by decide)

end State

end Sys2Proof.Machine

open Sys2Proof.Machine State in
/-- Settles O28: the area's entries go one by one; the area's resync is asked for as the link stands. -/
theorem serviceTakesAreaOutAndIn : Obligations.ServiceTakesAreaOutAndIn := by
  unfold Obligations.ServiceTakesAreaOutAndIn
  refine ⟨fun s h area taken low high may open_ => ?_, fun s h area taken low high may closed => ?_⟩
  · have touched := arrived_touches s h
    have ordinary (n : Nat) (low : n < 512) := entry?_arrived s h low
    have counted : (arrived s h).entriesOfArea area = s.entriesOfArea area := s.ordinaryWhere_arrived h _
    generalize arriving : arrived s h = u at touched ordinary counted ⊢
    have done := u.takeServiceOut_of_fits ⟨low, high⟩ ((touched.maySetService_eq (by decide) _).trans may)
      ((touched.inService_eq (by decide) area).trans open_)
    rw [counted] at done
    obtain ⟨stepped, answered, within⟩ := requestEvent_carriedOut (i := .serviceOut h area 0)
      (l' := ([.outAreas, .said .answer] : List Part) ++ alarmParts ++ coverParts ++ endParts) taken rfl arriving done rfl
      (u.areaOut_touches area) (by decide) (by decide)
    have emptied := u.emptied_touches area
    have scanned := (u.emptied area).coverScan_touches
    have ended := (finish_answer_eq (u.areaOut area) h (ans .done (s.entriesOfArea area).length))
    have last : Touches (.said .answer :: endParts) (u.emptied area).coverScan
        ((u.areaOut area).finish.answer h (ans .done (s.entriesOfArea area).length)) :=
      .after ended (by decide) ((serviceNotice_touches _ area false).mono (by decide))
    obtain ⟨load, flag, release⟩ := floodOut_effect
      ((u.entriesOfArea area).foldl removeEntry { u with alarm := { u.alarm with out := u.alarm.out.ins area } }) area
    have whole : Touches (.said .answer :: coverParts ++ endParts) (u.emptied area)
        ((u.areaOut area).finish.answer h (ans .done (s.entriesOfArea area).length)) :=
      .after last (by decide) (scanned.mono (by decide))
    have service (a : Nat) : ((u.areaOut area).finish.answer h (ans .done (s.entriesOfArea area).length)).inService a =
        (s.inService a && decide (a ≠ area)) := by
      rw [whole.inService_eq (by decide), inService_of_out (u.out_emptied area), touched.inService_eq (by decide)]
      rfl
    refine ⟨_, stepped, by simp [service], fun a other => by simp [service, other], fun n e low he => ?_,
      (whole.load_eq (by decide) area).trans load, (whole.flooded_eq (by decide) area).trans flag, ?_, ?_,
      fun st low high up => ?_, answered, within⟩
    · rw [last.entry?_eq (by decide), entry?_coverScan_ne _ (by omega), State.emptied, (floodOut_touches _ _).entry?_eq (by decide)] at he
      exact u.area_foldl_removeEntry { u with alarm := { u.alarm with out := u.alarm.out.ins area } } (fun _ => rfl) low he
    · exact (congrArg (fun t : Sys2Proof.Tbl Nat => t.look area) (whole .release (by decide) : _ = _)).trans release
    · rw [last.isOrphan_eq (by decide), ← Bool.not_eq_true, isOrphan_coverScan _ low high]
      rintro ⟨-, open', -⟩
      rw [inService_of_out (u.out_emptied area)] at open'
      simp at open'
    · have up' : (u.emptied area).coverScan.isUp st = true := by
        rw [scanned.isUp_eq (by decide), emptied.isUp_eq (by decide), up]
      have told := serviceNotice_told _ area false low high up'
      rw [scanned.outTo_eq (by decide), emptied.outTo_eq (by decide), touched.outTo_eq (by decide)] at told
      exact mem_sent_answer _ (mem_sent_finish _ told rfl)
  · have touched := arrived_touches s h
    generalize arriving : arrived s h = u at touched ⊢
    have done := u.takeServiceIn_of_fits ⟨low, high⟩ ((touched.maySetService_eq (by decide) _).trans may)
      ((touched.inService_eq (by decide) area).trans closed)
    obtain ⟨stepped, answered, within⟩ := requestEvent_carriedOut (i := .serviceIn h area 0)
      (l' := ([.outAreas, .plantResync, .plantExpected, .said .resync, .said .answer] : List Part) ++ coverParts ++ endParts)
      taken rfl arriving done rfl (u.areaIn_touches area) (by decide) (by decide)
    have reopened := u.reopened_touches area
    have asked := (u.reopened area).areaResync_touches area
    have ended := finish_answer_eq (u.areaIn area) h (ans .done)
    have last : Touches (.said .answer :: endParts) ((u.reopened area).areaResync area)
        ((u.areaIn area).finish.answer h (ans .done)) :=
      .after ended (by decide) ((serviceNotice_touches _ area true).mono (by decide))
    have service (a : Nat) : ((u.areaIn area).finish.answer h (ans .done)).inService a =
        (s.inService a || decide (a = area)) := by
      rw [last.inService_eq (by decide), asked.inService_eq (by decide), inService_of_in (u.out_reopened area),
        touched.inService_eq (by decide)]
      rfl
    have plant : (u.reopened area).plant = s.plant :=
      (reopened.plant_eq (by decide)).trans (touched.plant_eq (by decide))
    have asking : (u.reopened area).areaResyncNumber = s.areaResyncNumber := by simp only [areaResyncNumber, plant]
    refine ⟨_, stepped, by simp [service], fun a other => by simp [service, other], fun unlinked => ?_,
      fun notStart notLost => ?_, fun st low high up => ?_, answered, within⟩
    · rw [last.plant_eq (by decide), areaResync, plant, if_pos unlinked, plant]
    · have linked : ¬ ((u.reopened area).plant.link = .start ∨ (u.reopened area).plant.link = .lost) := by
        rw [plant]
        exact fun h => h.elim notStart notLost
      have after := areaResync_of_linked _ area linked
      have port : ((u.areaIn area).finish.answer h (ans .done)).plant =
          { s.plant with resync := s.areaResyncNumber, expected := none } := by
        rw [last.plant_eq (by decide), after, asking, ← plant]
        rfl
      rw [port]
      refine ⟨rfl, mem_sent_answer _ (mem_sent_finish _ ?_ rfl), rfl⟩
      rw [areaIn_eq, serviceNotice, said_sayAfter, after, asking]
      exact .inl ((said_say _ _).mpr (.inr (List.mem_singleton.mpr rfl)))
    · have up' : ((u.reopened area).areaResync area).isUp st = true := by
        rw [asked.isUp_eq (by decide), reopened.isUp_eq (by decide), up]
      have told := serviceNotice_told _ area true low high up'
      rw [asked.outTo_eq (by decide), reopened.outTo_eq (by decide), touched.outTo_eq (by decide)] at told
      exact mem_sent_answer _ (mem_sent_finish _ told rfl)
end

section
/-! PROOFS. The Deferred List, counted annunciation and the metered release (R66 to R78). -/

namespace Sys2Proof.Machine.State

variable (s : State)

/-! ### A counted annunciation -/

theorem load_addCounted (a : Nat) (p : Priority) (b : Nat) :
    (s.addCounted a p).load b = if b = a then min (s.load a + p.weight) 65535 else s.load b := by
  rw [addCounted, (floodEntryTest_touches _ a).load_eq (by decide), load_setLoad]
  rfl

theorem flooded_addCounted (a : Nat) (p : Priority) (b : Nat) : (s.addCounted a p).flooded b =
    if b = a then s.flooded a || decide ((s.areaRec a).floodOn ≤ min (s.load a + p.weight) 65535) else s.flooded b := by
  rw [addCounted, flooded_floodEntryTest, load_setLoad, if_pos rfl]
  rfl

theorem look_release_addCounted (a : Nat) (p : Priority) (b : Nat) : (s.addCounted a p).flood.release.look b =
    if b = a ∧ s.flooded a = false ∧ (s.areaRec a).floodOn ≤ min (s.load a + p.weight) 65535 then none
    else s.flood.release.look b := by
  rw [addCounted, look_release_floodEntryTest, load_setLoad, if_pos rfl]
  rfl

/-- R67: an area that the addition floods is told of, by a notice that leaves with the load after the event. -/
theorem addCounted_tells {a : Nat} {p : Priority} (dry : s.flooded a = false) (wet : (s.addCounted a p).flooded a = true)
    {st : Nat} (low : 1 ≤ st) (high : st ≤ 16) (up : s.isUp st = true) :
    s.outTo st (.notice (.flood a true 0)) ∈ (s.addCounted a p).ev.pre := by
  have enters : (s.areaRec a).floodOn ≤ min (s.load a + p.weight) 65535 := by
    rw [flooded_addCounted, if_pos rfl, dry] at wet
    simpa using wet
  have here : (s.setLoad a (addWeight (s.load a) p.weight)).load a = min (s.load a + p.weight) 65535 := by
    rw [load_setLoad, if_pos rfl]
    rfl
  have told : (s.addCounted a p) = ((s.setLoad a (addWeight (s.load a) p.weight)).setFlooded a true).setRelease a none := by
    rw [addCounted, floodEntryTest, if_pos]
    rw [here]
    simp only [Bool.and_eq_true, Bool.not_eq_true', decide_eq_true_eq]
    exact ⟨dry, enters⟩
  rw [told]
  exact List.mem_append_right _ (mem_toUp _ low high up _)

/-! ### Annunciation -/

theorem present_ev (st n : Nat) : (s.present st n).ev = s.ev := by
  unfold present
  split
  · rfl
  · split <;> rfl

theorem presentAt_ev (sts : List Nat) (n : Nat) : (s.presentAt sts n).ev = s.ev := by
  unfold presentAt
  induction sts generalizing s with
  | nil => rfl
  | cons st sts ih => exact (ih _).trans (s.present_ev st n)

theorem announceAt_ev (n : Nat) : (s.announceAt n).ev = s.ev := presentAt_ev _ _ n

theorem touch_pre (n : Nat) : (s.touch n).ev.pre = s.ev.pre := by
  unfold touch
  split <;> rfl

theorem setEntry_pre (n : Nat) (e : Entry) : (s.setEntry n e).ev.pre = s.ev.pre := by
  show (s.touchIfChanged n e).ev.pre = s.ev.pre
  unfold touchIfChanged
  split
  · rfl
  · exact s.touch_pre n

theorem appendItem_pre (a : Nat) (r : ItemRef) (p : Option Priority) : (s.appendItem a r p).ev.pre = s.ev.pre := by
  unfold appendItem
  split
  · show (s.updSession a (fun x => listItem x ⟨r, p, false, false⟩)).ev.pre = s.ev.pre
    rw [updSession_ev]
  · rfl

/-- An entry annunciated, with its deadline, before it is presented. -/
def sounded (n : Nat) (e : Entry) : State :=
  (s.setEntry n { e with disp := .annunciated }).updAnnRec n (fun r =>
    { r with deadline := some (s.secondsAhead ((s.areaRec e.area).stage1Time e.cur), 1) })

theorem annunciate_of_entry {n : Nat} {e : Entry} (he : s.entry? n = some e) : s.annunciate n =
    ((s.sounded n e).announceAt n).appendItem e.area (.unackedAlarm (s.refOf n)) (some e.cur) := by
  have set := s.setEntry_touches n { e with disp := .annunciated }
  simp only [annunciate, he, set.secondsAhead_eq (by decide), set.areaRec_eq (by decide), sounded]

theorem annunciate_pre (n : Nat) : (s.annunciate n).ev.pre = s.ev.pre := by
  cases he : s.entry? n with
  | none => simp only [annunciate, he]
  | some e =>
    rw [s.annunciate_of_entry he, appendItem_pre, announceAt_ev]
    exact s.setEntry_pre n _

theorem annunciate_eases {n : Nat} {e : Entry} (he : s.entry? n = some e) : Eases (s.sounded n e) (s.annunciate n) := by
  rw [s.annunciate_of_entry he]
  exact (announceAt_eases _ n).trans (.of_touches (appendItem_touches _ e.area _ _) (by decide))

/-- R99: an entry annunciated now has its stage-1 deadline from now. -/
theorem deadline_annunciate {n : Nat} {e : Entry} (he : s.entry? n = some e) :
    ((s.annunciate n).annRec n).deadline = some (s.secondsAhead ((s.areaRec e.area).stage1Time e.cur), 1) := by
  rw [(s.annunciate_eases he).deadline, sounded, annRec_updAnnRec, if_pos rfl]

theorem deadline_annunciate_ne {n m : Nat} (h : m ≠ n) : ((s.annunciate n).annRec m).deadline = (s.annRec m).deadline := by
  cases he : s.entry? n with
  | none => simp only [annunciate, he]
  | some e =>
    rw [(s.annunciate_eases he).deadline, sounded, annRec_updAnnRec, if_neg h, (s.setEntry_touches n _).annRec_eq (by decide)]

/-! ### Leaving the Deferred List -/

/-- The Deferred List without an entry, the clearing test of R74 applied. -/
def takenOff (n : Nat) : State :=
  ({ s with flood := { s.flood with deferred := s.flood.deferred.filter (fun x => decide (x.ref.num ≠ n)) } } : State).overflowTest

theorem undefer_of_listed {n : Nat} {d : DeferredItem} (found : s.flood.deferred.find? (fun d => decide (d.ref.num = n)) = some d) :
    s.undefer n = if (s.takenOff n).deferredOf d.area = [] then
      ((s.takenOff n).setRelease d.area none).resolveItems d.area namesSummary else s.takenOff n := by
  simp only [undefer, found]
  rfl

theorem undefer_of_unlisted {n : Nat} (absent : ∀ d ∈ s.flood.deferred, d.ref.num ≠ n) : s.undefer n = s := by
  have found : s.flood.deferred.find? (fun d => decide (d.ref.num = n)) = none :=
    List.find?_eq_none.mpr (fun d hd => by simpa using absent d hd)
  simp only [undefer, found]

theorem overflowTest_overflow : s.overflowTest.flood.overflow =
    (s.flood.overflow && decide (192 < s.flood.deferred.length)) := by
  unfold overflowTest
  split
  case isTrue clears =>
    have returned := sysReturn_touches ({ s with flood := { s.flood with overflow := false, subject := [] } } : State) 515
    have short : s.flood.deferred.length ≤ 192 := of_decide_eq_true (Bool.and_eq_true_iff.mp clears).2
    rw [(returned .overflow (by decide) : _ = _), decide_eq_false (Nat.not_lt.mpr short), Bool.and_false]
  case isFalse stays =>
    cases raised : s.flood.overflow with
    | false => rfl
    | true =>
      have long : ¬ s.flood.deferred.length ≤ 192 := fun short =>
        stays (Bool.and_eq_true_iff.mpr ⟨raised, decide_eq_true short⟩)
      rw [Bool.true_and, decide_eq_true (Nat.lt_of_not_le long)]

theorem takenOff_deferred (n : Nat) :
    (s.takenOff n).flood.deferred = s.flood.deferred.filter (fun x => decide (x.ref.num ≠ n)) :=
  overflowTest_touches _ .deferred (by decide)

theorem takenOff_release (n : Nat) : (s.takenOff n).flood.release = s.flood.release := overflowTest_touches _ .release (by decide)

theorem takenOff_overflow (n : Nat) : (s.takenOff n).flood.overflow =
    (s.flood.overflow && decide (192 < (s.flood.deferred.filter (fun x => decide (x.ref.num ≠ n))).length)) :=
  overflowTest_overflow _

/-- What the departure from the list leaves alone once its own effects are taken. -/
theorem undefer_touches_takenOff {n : Nat} {d : DeferredItem}
    (found : s.flood.deferred.find? (fun d => decide (d.ref.num = n)) = some d) :
    Touches [.release, .handover] (s.takenOff n) (s.undefer n) := by
  rw [s.undefer_of_listed found]
  exact .ite (.after (resolveItems_touches _ _ _) (by decide) ((setRelease_touches _ _ _).mono (by decide))) (.refl _ _)

theorem undefer_deferred (n : Nat) :
    (s.undefer n).flood.deferred = s.flood.deferred.filter (fun x => decide (x.ref.num ≠ n)) := by
  cases found : s.flood.deferred.find? (fun d => decide (d.ref.num = n)) with
  | none =>
    have absent : ∀ d ∈ s.flood.deferred, d.ref.num ≠ n := fun d hd => by simpa using List.find?_eq_none.mp found d hd
    rw [s.undefer_of_unlisted absent, List.filter_eq_self.mpr (fun d hd => decide_eq_true (absent d hd))]
  | some d => exact (s.undefer_touches_takenOff found .deferred (by decide) : _ = _).trans (s.takenOff_deferred n)

theorem look_release_undefer {n : Nat} {d : DeferredItem}
    (found : s.flood.deferred.find? (fun d => decide (d.ref.num = n)) = some d) (b : Nat) :
    (s.undefer n).flood.release.look b =
      if b = d.area ∧ (s.undefer n).deferredOf b = [] then none else s.flood.release.look b := by
  have same : (s.undefer n).deferredOf d.area = (s.takenOff n).deferredOf d.area :=
    (s.undefer_touches_takenOff found).deferredOf_eq (by decide) _
  by_cases here : b = d.area
  · subst here
    rw [same, s.undefer_of_listed found]
    split
    · rw [(resolveItems_touches _ _ _ .release (by decide) : _ = _), look_setRelease, if_pos rfl, if_pos ⟨rfl, ‹_›⟩]
    · rw [takenOff_release, if_neg (by tauto)]
  · rw [if_neg (by tauto), s.undefer_of_listed found]
    split
    · rw [(resolveItems_touches _ _ _ .release (by decide) : _ = _), look_setRelease, if_neg here, takenOff_release]
    · rw [takenOff_release]

/-! ### The metered release (R78) -/

/-- The oldest deferred entry annunciated and counted. -/
def released (n a : Nat) (p : Priority) : State :=
  (((s.undefer n).updEntry n (fun e => { e with disp := .annunciated })).addCounted a p).annunciate n

theorem releaseOldest_of_first {a : Nat} {d : DeferredItem} {rest : List DeferredItem} {e : Entry}
    (first : s.deferredOf a = d :: rest) (he : s.entry? d.ref.num = some e) : s.releaseOldest a =
      if (s.released d.ref.num a e.cur).flooded a then s.released d.ref.num a e.cur
      else (s.released d.ref.num a e.cur).setRelease a (if (s.released d.ref.num a e.cur).deferredOf a = [] then none
        else some (s.secondsAhead (s.areaRec a).release)) := by
  simp only [releaseOldest, first, he]
  change (if (s.released d.ref.num a e.cur).flooded a then s.released d.ref.num a e.cur
    else if (s.released d.ref.num a e.cur).deferredOf a = [] then (s.released d.ref.num a e.cur).setRelease a none
    else (s.released d.ref.num a e.cur).setRelease a (some (s.secondsAhead (s.areaRec a).release))) = _
  split
  · rfl
  · split <;> rfl

theorem releaseOldest_touches_released {a : Nat} {d : DeferredItem} {rest : List DeferredItem} {e : Entry}
    (first : s.deferredOf a = d :: rest) (he : s.entry? d.ref.num = some e) :
    Touches [.release] (s.released d.ref.num a e.cur) (s.releaseOldest a) := by
  rw [s.releaseOldest_of_first first he]
  exact .ite (.refl _ _) (setRelease_touches _ _ _)

theorem released_touches (n a : Nat) (p : Priority) : Touches ([.deferred, .overflow, .overflowSubject, .handover] ++
    floodParts ++ sysParts) s (s.released n a p) :=
  .after (annunciate_touches _ n) (by decide) (.after (addCounted_touches _ a p) (by decide)
    (.after (updEntry_touches _ n _) (by decide) ((s.undefer_touches n).mono (by decide))))

/-- The list's departure and the entry's change, before the weight is added. -/
def unlisted (n : Nat) : State := (s.undefer n).updEntry n (fun e => { e with disp := .annunciated })

theorem unlisted_touches (n : Nat) : Touches departureParts s (s.unlisted n) :=
  .after (updEntry_touches _ n _) (by decide) (s.undefer_touches n)

theorem released_eq (n a : Nat) (p : Priority) : s.released n a p = ((s.unlisted n).addCounted a p).annunciate n := rfl

theorem entry?_unlisted {n m : Nat} (low : n < 512) (low' : m < 512) : (s.unlisted n).entry? m =
    if m = n then (s.entry? n).map (fun e => { e with disp := .annunciated }) else s.entry? m := by
  rw [unlisted, entry?_updEntry, entry?_undefer_ne _ n (by omega), entry?_undefer_ne _ n (by omega)]

end Sys2Proof.Machine.State

open Sys2Proof.Machine State in
/-- Settles O30: the entry leaves the list, its weight is added, and the timer follows the flag and the list. -/
theorem releaseTimerReleasesOldest : Obligations.ReleaseTimerReleasesOldest := by
  unfold Obligations.ReleaseTimerReleasesOldest
  intro s a d rest e on due first he low tagged unacked area one
  have listed : d ∈ s.fresh.flood.deferred ∧ d.area = a := by
    have member : d ∈ s.deferredOf a := first ▸ List.mem_cons_self
    simpa [deferredOf] using member
  have found : s.fresh.flood.deferred.find? (fun x => decide (x.ref.num = d.ref.num)) = some d := by
    cases search : s.fresh.flood.deferred.find? (fun x => decide (x.ref.num = d.ref.num)) with
    | none => exact (List.find?_eq_none.mp search d listed.1 (by simp)).elim
    | some y => rw [one y (List.mem_of_find?_eq_some search) (by simpa using List.find?_some search)]
  have due' : s.fresh.releaseDue a = true := due
  have first' : s.fresh.deferredOf a = d :: rest := first
  have he' : s.fresh.entry? d.ref.num = some e := he
  have step := timerEvent_of_due (due := fun s => s.releaseDue a) on due' (fun s => s.releaseOldest a)
  have timed := s.fresh.releaseOldest_touches_released first' he'
  have outcome := s.fresh.releaseOldest_of_first first' he'
  have released := s.fresh.released_touches d.ref.num a e.cur
  have off := s.fresh.unlisted_touches d.ref.num
  have entry (m : Nat) (low' : m < 512) : (s.fresh.unlisted d.ref.num).entry? m = _ := s.fresh.entry?_unlisted low low'
  have counted := (s.fresh.unlisted d.ref.num).addCounted_touches a e.cur
  have sounding : ((s.fresh.unlisted d.ref.num).addCounted a e.cur).entry? d.ref.num =
      some { e with disp := .annunciated } := by
    rw [counted.entry?_eq (by decide), entry _ low, if_pos rfl, he']
    rfl
  have last := (annunciate_touches ((s.fresh.unlisted d.ref.num).addCounted a e.cur) d.ref.num)
  have ended : Touches (.release :: endParts) (s.fresh.released d.ref.num a e.cur) (s.fresh.releaseOldest a).finish :=
    .after (finish_touches _) (by decide) (timed.mono (by decide))
  have flooded (b : Nat) : (s.fresh.releaseOldest a).finish.flooded b = if b = a then
      s.flooded a || decide ((s.areaRec a).floodOn ≤ min (s.load a + e.cur.weight) 65535) else s.flooded b := by
    rw [ended.flooded_eq (by decide), released_eq, last.flooded_eq (by decide), flooded_addCounted, off.flooded_eq (by decide),
      off.areaRec_eq (by decide), off.load_eq (by decide), off.flooded_eq (by decide)]
    rfl
  have load (b : Nat) : (s.fresh.releaseOldest a).finish.load b =
      if b = a then min (s.load a + e.cur.weight) 65535 else s.load b := by
    rw [ended.load_eq (by decide), released_eq, last.load_eq (by decide), load_addCounted, off.load_eq (by decide),
      off.load_eq (by decide)]
    rfl
  have timer (b : Nat) : (s.fresh.released d.ref.num a e.cur).flood.release.look b =
      if b = a ∧ s.flooded a = false ∧ (s.areaRec a).floodOn ≤ min (s.load a + e.cur.weight) 65535 then none
      else (s.fresh.undefer d.ref.num).flood.release.look b := by
    rw [released_eq, (last .release (by decide) : _ = _), look_release_addCounted, off.flooded_eq (by decide),
      off.areaRec_eq (by decide), off.load_eq (by decide),
      show (s.fresh.unlisted d.ref.num).flood.release = (s.fresh.undefer d.ref.num).flood.release from
        updEntry_touches _ _ _ .release (by decide)]
    rfl
  have deferred : (s.fresh.releaseOldest a).finish.flood.deferred =
      s.flood.deferred.filter (fun x => decide (x.ref.num ≠ d.ref.num)) := by
    rw [(ended .deferred (by decide) : _ = _), released_eq, (last .deferred (by decide) : _ = _),
      (counted .deferred (by decide) : _ = _)]
    exact (updEntry_touches _ _ _ .deferred (by decide) : _ = _).trans (s.fresh.undefer_deferred d.ref.num)
  have finished := (s.fresh.releaseOldest a).finish_touches
  refine ⟨_, step, ?_, ?_, (load a).trans (if_pos rfl), deferred, ?_, ?_, fun dry wet st low high up => ?_,
    fun dry => ?_, fun b other => ⟨(load b).trans (if_neg other), (flooded b).trans (if_neg other), ?_⟩,
    fun j low' other => ?_, .after finished (by decide) (.after timed (by decide) (released.mono (by decide)))⟩
  · rw [ended.entry?_eq (by decide), released_eq, entry?_annunciate, if_pos rfl, sounding]
    rfl
  · have eased := finish_eases (s.fresh.releaseOldest a)
    rw [eased.deadline, timed.annRec_eq (by decide), released_eq, deadline_annunciate _ sounding,
      counted.secondsAhead_eq (by decide), counted.areaRec_eq (by decide), off.secondsAhead_eq (by decide),
      off.areaRec_eq (by decide), area]
    rfl
  · rw [deferred, (ended .overflow (by decide) : _ = _), released_eq, (last .overflow (by decide) : _ = _),
      (counted .overflow (by decide) : _ = _)]
    exact ((updEntry_touches _ _ _ .overflow (by decide) : _ = _).trans
      (s.fresh.undefer_touches_takenOff found .overflow (by decide) : _ = _)).trans (s.fresh.takenOff_overflow d.ref.num)
  · rw [flooded, if_pos rfl, load, if_pos rfl]
  · have wet' : ((s.fresh.unlisted d.ref.num).addCounted a e.cur).flooded a = true := by
      rw [← wet, ended.flooded_eq (by decide), released_eq, last.flooded_eq (by decide)]
    have told := addCounted_tells _ ((off.flooded_eq (by decide) a).trans dry) wet' low high ((off.isUp_eq (by decide) st).trans up)
    rw [off.outTo_eq (by decide)] at told
    have pre : (s.fresh.releaseOldest a).ev.pre = ((s.fresh.unlisted d.ref.num).addCounted a e.cur).ev.pre := by
      rw [outcome]
      split
      · exact annunciate_pre _ _
      · exact annunciate_pre _ _
    rw [← pre] at told
    have sent := flood_mem_sent_finish _ told
    rwa [← finished.load_eq (by decide)] at sent
  · have same : (s.fresh.releaseOldest a).finish.flooded a = (s.fresh.released d.ref.num a e.cur).flooded a :=
      ended.flooded_eq (by decide) a
    have list : (s.fresh.releaseOldest a).finish.deferredOf a = (s.fresh.released d.ref.num a e.cur).deferredOf a :=
      ended.deferredOf_eq (by decide) a
    have value := flooded a
    rw [if_pos rfl, dry, Bool.false_or] at value
    rw [(finished .release (by decide) : _ = _), list, same, outcome]
    cases wet : (s.fresh.released d.ref.num a e.cur).flooded a with
    | true =>
      rw [same, wet] at value
      rw [if_pos rfl, if_pos (.inl rfl), timer, if_pos ⟨rfl, dry, of_decide_eq_true value.symm⟩]
    | false =>
      rw [if_neg (by simp), look_setRelease, if_pos rfl]
      simp
      rfl
  · rw [(finished .release (by decide) : _ = _), outcome]
    have kept : (s.fresh.released d.ref.num a e.cur).flood.release.look b = s.flood.release.look b := by
      rw [timer, if_neg (by tauto), look_release_undefer _ found, if_neg (by rw [listed.2]; tauto)]
      rfl
    split
    · exact kept
    · rw [look_setRelease, if_neg other, kept]
  · rw [ended.entry?_eq (by decide), released_eq, entry?_annunciate, if_neg other, counted.entry?_eq (by decide),
      entry _ low', if_neg other]
    rfl
end

section
/-! PROOFS. A notice in sequence over a link that stands (R176), and a RAISE (R46 to R50): the entry it creates, renews or
counts. -/

namespace Sys2Proof.Machine

theorem not_mem_lowestGap {k : Nat} {l : List Nat} (rising : l.Pairwise (· < ·)) (above : ∀ x ∈ l, k ≤ x) :
    lowestGap k l ∉ l := by
  induction l generalizing k with
  | nil => simp
  | cons x l ih =>
    obtain ⟨least, rest⟩ := List.pairwise_cons.mp rising
    unfold lowestGap
    split
    case isTrue here =>
      have beyond : ∀ m (l : List Nat), m ≤ lowestGap m l := by
        intro m l
        induction l generalizing m with
        | nil => exact Nat.le_refl _
        | cons y l ih =>
          unfold lowestGap
          split
          · exact Nat.le_trans (Nat.le_succ m) (ih (m + 1))
          · exact Nat.le_refl _
      refine List.not_mem_cons_of_ne_of_not_mem (fun same => ?_) (ih rest (fun y hy => here ▸ least y hy))
      have := beyond (k + 1) l
      omega
    case isFalse other =>
      have below : k < x := Nat.lt_of_le_of_ne (above x (by simp)) (Ne.symm other)
      exact List.not_mem_cons_of_ne_of_not_mem (Nat.ne_of_lt below) (fun hk => absurd (least k hk) (by omega))

namespace State

variable (s : State)

theorem entry?_of_freeEntry? {s : State} (sound : s.EntriesSound) {n : Nat} (free : s.freeEntry? = some n) :
    s.entry? n = none := by
  have rising : s.alarm.entries.keys.Pairwise (· < ·) := List.pairwise_map.mpr sound.1
  have gap := not_mem_lowestGap rising (k := 0) (by simp)
  have here : lowestGap 0 s.alarm.entries.keys = n := by
    simp only [freeEntry?, Option.ite_none_right_eq_some] at free
    exact Option.some.inj free.2
  rw [here] at gap
  cases he : s.entry? n with
  | none => rfl
  | some e => exact absurd (List.mem_map.mpr ⟨(n, e), Tbl.mem_of_look he, rfl⟩) gap

/-! ### Suppression -/

/-- An entry that stands for an ACTIVE alarm of the parent tag in the mask (R49 step 2). -/
def Entry.parents (parent : Nat) (mask : BitVec 8) (e : Entry) : Prop :=
  e.active = true ∧ e.tag = some parent ∧ ∃ c, e.cond = some c ∧ mask.getLsbD c = true

theorem parentActive_iff_mem {parent : Nat} {mask : BitVec 8} :
    s.parentActive parent mask = true ↔ ∃ p ∈ s.alarm.entries, Entry.parents parent mask p.2 := by
  simp only [parentActive, List.any_eq_true, Bool.and_eq_true, decide_eq_true_eq, Entry.parents]
  refine exists_congr (fun p => and_congr_right (fun _ => ?_))
  cases p.2.cond with
  | none => simp
  | some c => simp [and_assoc]

theorem parentActive_iff {s : State} (listed : Tbl.wf s.alarm.entries) {parent : Nat} {mask : BitVec 8} :
    s.parentActive parent mask = true ↔ ∃ n e, s.entry? n = some e ∧ Entry.parents parent mask e := by
  rw [parentActive_iff_mem]
  constructor
  · rintro ⟨⟨n, e⟩, mem, parents⟩
    exact ⟨n, e, Tbl.look_of_mem listed mem, parents⟩
  · rintro ⟨n, e, he, parents⟩
    exact ⟨(n, e), Tbl.mem_of_look he, parents⟩

/-- A new entry of a tag is no parent of it (R5 field 4). -/
theorem suppressed_setEntry_of_free {s : State} (listed : Tbl.wf s.alarm.entries) {n tag : Nat} (free : s.entry? n = none)
    {e : Entry} (tagged : e.tag = some tag) {r : TagRec} (record : s.tagRec? tag = some r)
    (apart : ∀ q, r.parent = some q → q.1 ≠ tag) : (s.setEntry n e).suppressed tag = s.suppressed tag := by
  have record' : (s.setEntry n e).tagRec? tag = some r :=
    ((s.setEntry_touches n e).tagRec?_eq (by decide) tag).trans record
  have listed' : Tbl.wf (s.setEntry n e).alarm.entries := Tbl.wf_put listed n e
  simp only [suppressed, record, record', Option.bind_some]
  cases parent : r.parent with
  | none => rfl
  | some q =>
    have other := apart q parent
    refine Bool.eq_iff_iff.mpr ?_
    dsimp only
    rw [parentActive_iff listed', parentActive_iff listed]
    refine exists_congr (fun m => ?_)
    rw [entry_setEntry]
    split
    case isTrue here =>
      constructor
      · rintro ⟨f, hf, -, same, -⟩
        rw [← Option.some.inj hf, tagged] at same
        exact absurd (Option.some.inj same).symm other
      · rintro ⟨f, hf, -⟩
        rw [here, free] at hf
        cases hf
    case isFalse => rfl

/-! ### A notice handed on -/

/-- The state a notice in sequence finds once the watch is served. -/
def hearingNotice (seq : Nat) : State := s.fresh.serveLink.noteSeq seq

theorem hearingNotice_touches {s : State} (standing : s.plant.link = .up ∨ s.plant.link = .resync) (seq : Nat) :
    Touches [.plantHeard, .plantMark, .plantExpected] s.fresh (s.hearingNotice seq) :=
  .after (noteSeq_touches _ seq) (by decide) ((serveLink_touches_of_standing (s := s.fresh) standing).mono (by decide))

theorem hearingNotice_ev {s : State} (standing : s.plant.link = .up ∨ s.plant.link = .resync) (seq : Nat) :
    (s.hearingNotice seq).ev = EvBuf.empty :=
  serveLink_ev_of_standing (s := s.fresh) standing

theorem hearingNotice_expected (seq : Nat) : (s.hearingNotice seq).plant.expected = some seq := rfl

theorem next_of_standing {s : State} (standing : s.plant.link = .up ∨ s.plant.link = .resync) {x : Nat}
    (expected : s.plant.expected = some x) : seqFinding s.fresh.serveLink.plant.expected ((x + 1) % 65536) = .next := by
  have upright : ¬ (s.fresh.plant.link = .start ∨ s.fresh.plant.link = .lost) := by
    show ¬ (s.plant.link = .start ∨ s.plant.link = .lost)
    rcases standing with up | resync <;> simp [*]
  rw [expected_serveLink, if_neg upright, show s.fresh.plant.expected = some x from expected]
  exact seqFinding_next x

theorem takeContent_of_sound {tag cond : Nat} (range : tag ≤ 4095) (range' : cond ≤ 7) (raised resync : Bool) (time : MillTime) :
    s.takeContent tag cond (if raised then 1 else 2) (if resync then 1 else 0) 0 time =
      s.takeNotice tag cond raised resync time := by
  have sound : noticeFaulty tag cond (if raised then 1 else 2) (if resync then 1 else 0) 0 = false := by
    cases raised <;> cases resync <;> simp [noticeFaulty] <;> omega
  rw [takeContent, sound]
  cases raised <;> cases resync <;> simp

/-- R176: a notice in sequence goes to the Alarm Processor. -/
theorem noticeFrame_of_next {s : State} (standing : s.plant.link = .up ∨ s.plant.link = .resync) {m : NoticeFields} {x : Nat}
    (expected : s.plant.expected = some x) (seq : m.seq = (x + 1) % 65536) (range : m.tag ≤ 4095) (range' : m.cond ≤ 7)
    (raised : Bool) :
    s.fresh.noticeFrame m.seq m.tag m.cond (if raised then 1 else 2) (if m.resync then 1 else 0) 0 m.time =
      (s.hearingNotice m.seq).takeNotice m.tag m.cond raised m.resync m.time := by
  rw [noticeFrame, takeSequenced_of_next _ (by rw [seq]; exact next_of_standing standing expected)]
  exact takeContent_of_sound _ range range' raised m.resync m.time

theorem exec_raise_of_next {s : State} (on : s.running = true) (standing : s.plant.link = .up ∨ s.plant.link = .resync)
    {m : NoticeFields} {x : Nat} (expected : s.plant.expected = some x) (seq : m.seq = (x + 1) % 65536)
    (range : m.tag ≤ 4095) (range' : m.cond ≤ 7) : exec (.alarmNoticeRaise m) s =
      .next ((s.hearingNotice m.seq).takeNotice m.tag m.cond true m.resync m.time).finish :=
  (plantEvent_of_running on (fun s => s.noticeFrame m.seq m.tag m.cond 1 (if m.resync then 1 else 0) 0 m.time)).trans
    (congrArg (fun t : State => Host.Outcome.next t.finish) (noticeFrame_of_next standing expected seq range range' true))

theorem exec_return_of_next {s : State} (on : s.running = true) (standing : s.plant.link = .up ∨ s.plant.link = .resync)
    {m : NoticeFields} {x : Nat} (expected : s.plant.expected = some x) (seq : m.seq = (x + 1) % 65536)
    (range : m.tag ≤ 4095) (range' : m.cond ≤ 7) : exec (.alarmNoticeReturn m) s =
      .next ((s.hearingNotice m.seq).takeNotice m.tag m.cond false m.resync m.time).finish :=
  (plantEvent_of_running on (fun s => s.noticeFrame m.seq m.tag m.cond 2 (if m.resync then 1 else 0) 0 m.time)).trans
    (congrArg (fun t : State => Host.Outcome.next t.finish) (noticeFrame_of_next standing expected seq range range' false))

theorem takeNotice_of_raise {tag cond : Nat} {r : TagRec} {p : Priority} (record : s.tagRec? tag = some r)
    (prio : r.prio cond = some p) (open_ : s.inService r.area = true) (resync : Bool) (time : MillTime) :
    s.takeNotice tag cond true resync time = s.applyRaise tag cond r.area p resync time := by
  simp only [takeNotice, record, prio, open_]
  rfl

theorem takeNotice_of_return {tag cond : Nat} {r : TagRec} {p : Priority} (record : s.tagRec? tag = some r)
    (prio : r.prio cond = some p) (open_ : s.inService r.area = true) (resync : Bool) (time : MillTime) :
    s.takeNotice tag cond false resync time = match s.entryOf? tag cond with
      | none => s.countDiscarded r.area
      | some (n, e) => s.applyReturn n e time := by
  simp only [takeNotice, record, prio, open_]
  rfl

/-! ### Admission, case by case -/

/-- An admission's weight, where it counts. -/
def weighed (counted : Bool) (a : Nat) (p : Priority) : State := if counted then s.addCounted a p else s

theorem weighed_touches (counted : Bool) (a : Nat) (p : Priority) : Touches floodParts s (s.weighed counted a p) :=
  .ite (s.addCounted_touches a p) (.refl _ s)

theorem load_weighed (counted : Bool) (a : Nat) (p : Priority) (b : Nat) : (s.weighed counted a p).load b =
    if b = a ∧ counted = true then min (s.load a + p.weight) 65535 else s.load b := by
  cases counted with
  | true => simp only [weighed, if_true, load_addCounted, and_true]
  | false => simp [weighed]

theorem flooded_weighed (counted : Bool) (a : Nat) (p : Priority) (b : Nat) : (s.weighed counted a p).flooded b =
    if b = a then s.flooded a || (counted && decide ((s.areaRec a).floodOn ≤ (s.weighed counted a p).load a))
    else s.flooded b := by
  cases counted with
  | true =>
    have load : (s.weighed true a p).load a = min (s.load a + p.weight) 65535 := by rw [load_weighed, if_pos ⟨rfl, rfl⟩]
    rw [load, Bool.true_and]
    exact s.flooded_addCounted a p b
  | false =>
    rw [Bool.false_and, Bool.or_false]
    by_cases here : b = a
    · rw [if_pos here, here]
      rfl
    · rw [if_neg here]
      rfl

theorem look_release_weighed (counted : Bool) (a : Nat) (p : Priority) (b : Nat) :
    (s.weighed counted a p).flood.release.look b =
      if b = a ∧ s.flooded a = false ∧ (s.weighed counted a p).flooded a = true then none else s.flood.release.look b := by
  cases counted with
  | true =>
    simp only [weighed, if_true, look_release_addCounted, flooded_addCounted]
    refine if_congr (and_congr_right (fun _ => and_congr_right (fun dry => ?_))) rfl rfl
    rw [dry]
    simp
  | false =>
    rw [if_neg]
    · rfl
    · rintro ⟨-, dry, wet⟩
      rw [show (s.weighed false a p).flooded a = s.flooded a from rfl, dry] at wet
      cases wet

theorem weighed_tells {counted : Bool} {a : Nat} {p : Priority} (dry : s.flooded a = false)
    (wet : (s.weighed counted a p).flooded a = true) {st : Nat} (low : 1 ≤ st) (high : st ≤ 16) (up : s.isUp st = true) :
    s.outTo st (.notice (.flood a true 0)) ∈ (s.weighed counted a p).ev.pre := by
  cases counted with
  | true => exact s.addCounted_tells dry wet low high up
  | false =>
    rw [show (s.weighed false a p).flooded a = s.flooded a from rfl, dry] at wet
    cases wet

/-- R71: above the cut, or in an area that is not flooded. -/
theorem admitEntry_of_clear {n : Nat} {e : Entry} (he : s.entry? n = some e)
    (clear : s.flooded e.area = false ∨ (s.areaRec e.area).cut.value < e.cur.value) (counted : Bool) :
    s.admitEntry n counted = (s.weighed counted e.area e.cur).annunciate n := by
  simp only [admitEntry, he]
  rw [if_neg]
  · rfl
  · rw [Bool.and_eq_true, decide_eq_true_eq]
    rintro ⟨wet, low⟩
    rcases clear with dry | above
    · rw [dry] at wet; cases wet
    · omega

/-- R72: at or below the cut of a flooded area while the list has room. -/
theorem admitEntry_of_room {n : Nat} {e : Entry} (he : s.entry? n = some e) (wet : s.flooded e.area = true)
    (low : e.cur.value ≤ (s.areaRec e.area).cut.value) (room : s.flood.deferred.length < 256) (counted : Bool) :
    s.admitEntry n counted = s.defer n e.area := by
  simp only [admitEntry, he, wet, low]
  exact if_pos room

/-- R73: at or below the cut of a flooded area while the list is full. -/
theorem admitEntry_of_full {n : Nat} {e : Entry} (he : s.entry? n = some e) (wet : s.flooded e.area = true)
    (low : e.cur.value ≤ (s.areaRec e.area).cut.value) (full : 256 ≤ s.flood.deferred.length) (counted : Bool) :
    s.admitEntry n counted = ((s.weighed counted e.area e.cur).noteOverflow e.area).annunciate n := by
  simp only [admitEntry, he, wet, low]
  exact if_neg (Nat.not_lt.mpr full)

/-! ### The disposition order, case by case -/

theorem decideEntry_of_shelved {n k : Nat} {e : Entry} {o : Override} (he : s.entry? n = some e)
    (shelf : e.tag.bind (s.override? .shelve) = some (k, o)) (counted : Bool) :
    s.decideEntry n counted = s.setEntry n { e with disp := .shelved, ack := some ⟨s.time.mill, o.holder⟩ } := by
  simp only [decideEntry, he, shelf]

theorem decideEntry_of_suppressed {n tag : Nat} {e : Entry} (he : s.entry? n = some e) (tagged : e.tag = some tag)
    (unshelved : s.override? .shelve tag = none) (suppressed : s.suppressed tag = true) (counted : Bool) :
    s.decideEntry n counted = s.setEntry n { e with disp := .suppressed } := by
  simp [decideEntry, decideUnshelved, he, tagged, unshelved, suppressed]

theorem decideEntry_of_free {n tag : Nat} {e : Entry} (he : s.entry? n = some e) (tagged : e.tag = some tag)
    (unshelved : s.override? .shelve tag = none) (free : s.suppressed tag = false) (counted : Bool) :
    s.decideEntry n counted = s.admitEntry n counted := by
  simp [decideEntry, decideUnshelved, he, tagged, unshelved, free]

theorem applyRaise_of_new {tag cond n : Nat} (new : s.entryOf? tag cond = none) (free : s.freeEntry? = some n) (a : Nat)
    (p : Priority) (resync : Bool) (time : MillTime) : s.applyRaise tag cond a p resync time =
      (s.setEntry n (newEntry tag cond a p time)).decideEntry n (!resync) := by
  simp only [applyRaise, new, createEntry, free]

theorem applyRaise_of_full {tag cond : Nat} (new : s.entryOf? tag cond = none) (full : s.freeEntry? = none) (a : Nat)
    (p : Priority) (resync : Bool) (time : MillTime) : s.applyRaise tag cond a p resync time = s.dropRaise a := by
  simp only [applyRaise, new, createEntry, full]

/-- An entry of the raised pair: its stale flag cleared, confirmed (R46). -/
def confirmedEntry (n : Nat) (e : Entry) : State := s.setEntry n { e with stale := false, confirmed := true }

theorem applyRaise_of_active {tag cond n : Nat} {e : Entry} (found : s.entryOf? tag cond = some (n, e)) (active : e.active = true)
    (a : Nat) (p : Priority) (resync : Bool) (time : MillTime) : s.applyRaise tag cond a p resync time =
      if resync then s.confirmedEntry n e else (s.confirmedEntry n e).countDuplicate e.area := by
  simp only [applyRaise, found]
  exact if_pos active

/-- An entry raised again (R48). -/
def raisedAgain (n : Nat) (e : Entry) : State :=
  (s.confirmedEntry n e).setEntry n { e with
    active := true, returnTime := none, raiseCount := min (e.raiseCount + 1) 255, stale := false, confirmed := true }

theorem applyRaise_of_returned {tag cond n : Nat} {e : Entry} (found : s.entryOf? tag cond = some (n, e))
    (returned : e.active = false) (a : Nat) (p : Priority) (resync : Bool) (time : MillTime) :
    s.applyRaise tag cond a p resync time = if e.disp = .annunciated then
      ((s.raisedAgain n e).weighed (!resync) e.area e.cur).represent n else s.raisedAgain n e := by
  have entry : (s.confirmedEntry n e).entry? n = some { e with stale := false, confirmed := true } := by
    rw [confirmedEntry, entry_setEntry, if_pos rfl]
  have taken : s.applyRaise tag cond a p resync time = (s.confirmedEntry n e).reRaise n resync := by
    simp only [applyRaise, found]
    exact if_neg (by simp [returned])
  rw [taken]
  simp only [reRaise, entry]
  have again : (s.confirmedEntry n e).setEntry n { e with
      active := true, returnTime := none, raiseCount := min (e.raiseCount + 1) Config.raiseCountMax, stale := false,
      confirmed := true } = s.raisedAgain n e := rfl
  rw [again]
  cases resync <;> rfl

theorem entry?_raisedAgain (n : Nat) (e : Entry) (m : Nat) : (s.raisedAgain n e).entry? m = if m = n then some { e with
    active := true, returnTime := none, raiseCount := min (e.raiseCount + 1) 255, stale := false, confirmed := true }
    else s.entry? m := by
  rw [raisedAgain, entry_setEntry, confirmedEntry, entry_setEntry]
  split <;> rfl

theorem raisedAgain_touches (n : Nat) (e : Entry) : Touches [.entries] s (s.raisedAgain n e) :=
  (s.setEntry_touches n _).trans (setEntry_touches _ n _)

theorem silenced_represent (n : Nat) : ((s.represent n).annRec n).silenced = [] := by
  have shown := presentAt_touches (s.updAnnRec n (fun a => { a with silenced := [] }))
    ((s.updAnnRec n (fun a => { a with silenced := [] })).annRec n).route n
  have here : ((s.updAnnRec n (fun a => { a with silenced := [] })).annRec n).silenced = [] := by
    rw [annRec_updAnnRec, if_pos rfl]
  exact (congrArg AnnRec.silenced (shown.annRec_eq (by decide) n)).trans here

end State

end Sys2Proof.Machine
end

section
/-! PROOFS. The outcomes of a RAISE (R45 to R50). -/

namespace Sys2Proof.Machine.State

variable (s : State)

theorem countDuplicate_effect (a : Nat) : (s.countDuplicate a).alarm.duplicates.getD a 0 =
      min (s.alarm.duplicates.getD a 0 + 1) 65535 ∧
    ∀ b, b ≠ a → (s.countDuplicate a).alarm.duplicates.getD b 0 = s.alarm.duplicates.getD b 0 := by
  refine ⟨?_, fun b other => ?_⟩
  · exact (Tbl.getD_setD_self _ _ _ _).trans rfl
  · exact Tbl.getD_setD_ne _ _ _ other

/-- The new entry of a pair, on the state that the notice finds. -/
structure NewPair (s v : State) (m : NoticeFields) (r : TagRec) (p : Priority) (n : Nat) : Prop where
  heard : Touches [.plantHeard, .plantMark, .plantExpected] s.fresh v
  quiet : v.ev = EvBuf.empty
  listed : Tbl.wf v.alarm.entries
  low : n < 512
  free : v.entry? n = none
  record : v.tagRec? m.tag = some r
  apart : ∀ q, r.parent = some q → q.1 ≠ m.tag

theorem new_suppressed {s v : State} {m : NoticeFields} {r : TagRec} {p : Priority} {n : Nat} (new : NewPair s v m r p n) :
    (v.setEntry n (newEntry m.tag m.cond r.area p m.time)).suppressed m.tag = s.suppressed m.tag := by
  rw [suppressed_setEntry_of_free new.listed new.free rfl new.record new.apart, new.heard.suppressed_eq (by decide) (by decide)]
  rfl

end Sys2Proof.Machine.State

namespace Sys2Proof.Machine.State

/-- A RAISE of a new pair in an area in service: the entry is created and its disposition decided. -/
theorem exec_raise_of_new {s : State} {m : NoticeFields} {r : TagRec} {p : Priority} {n x : Nat} (on : s.running = true)
    (sound : s.EntriesSound) (standing : s.plant.link = .up ∨ s.plant.link = .resync) (expected : s.plant.expected = some x)
    (seq : m.seq = (x + 1) % 65536) (range : m.tag ≤ 4095) (range' : m.cond ≤ 7) (record : s.tagRec? m.tag = some r)
    (apart : ∀ q, r.parent = some q → q.1 ≠ m.tag) (prio : r.prio m.cond = some p) (open_ : s.inService r.area = true)
    (new : s.entryOf? m.tag m.cond = none) (free : s.freeEntry? = some n) :
    ∃ v, v.plant.expected = some m.seq ∧ NewPair s v m r p n ∧ exec (.alarmNoticeRaise m) s =
      .next ((v.setEntry n (newEntry m.tag m.cond r.area p m.time)).decideEntry n (!m.resync)).finish := by
  have heard := hearingNotice_touches standing m.seq
  have record' := (heard.tagRec?_eq (by decide) m.tag).trans record
  refine ⟨s.hearingNotice m.seq, rfl, ⟨heard, hearingNotice_ev standing m.seq, ?_, s.lt_of_freeEntry? free, ?_, record', apart⟩, ?_⟩
  · rw [(heard .entries (by decide) : _ = _)]
    exact sound.1
  · rw [heard.entry?_eq (by decide)]
    exact entry?_of_freeEntry? sound free
  · rw [exec_raise_of_next on standing expected seq range range',
      takeNotice_of_raise _ record' prio ((heard.inService_eq (by decide) _).trans open_),
      applyRaise_of_new _ ((heard.entryOf?_eq (by decide) _ _).trans new) ((heard.freeEntry?_eq (by decide)).trans free)]

end Sys2Proof.Machine.State

open Sys2Proof.Machine State in
/-- Settles O24: a new entry is admitted and sounds; one that stands is confirmed, and one RETURNED is raised again. -/
theorem raiseCreatesOrRenewsEntry : Obligations.RaiseCreatesOrRenewsEntry := by
  unfold Obligations.RaiseCreatesOrRenewsEntry
  refine ⟨fun s m r p n x on sound standing expected seq range range' record apart prio open_ new free unshelved unsuppressed
    clear => ?_, fun s m r p n x e on standing expected seq range range' record prio open_ found entry => ?_⟩
  · obtain ⟨v, noted, pair, step⟩ := exec_raise_of_new on sound standing expected seq range range' record apart prio open_ new free
    have heard := pair.heard
    have created := v.setEntry_touches n (newEntry m.tag m.cond r.area p m.time)
    have suppressed := new_suppressed pair
    have pre := v.setEntry_pre n (newEntry m.tag m.cond r.area p m.time)
    have entries := v.entry_setEntry n (newEntry m.tag m.cond r.area p m.time)
    generalize making : v.setEntry n (newEntry m.tag m.cond r.area p m.time) = w at *
    have begun : Touches [.plantHeard, .plantMark, .plantExpected, .entries] s.fresh w :=
      .after created (by decide) (heard.mono (by decide))
    have here : w.entry? n = some (newEntry m.tag m.cond r.area p m.time) := by rw [entries, if_pos rfl]
    have admitted := decideEntry_of_free w here rfl
      (by rw [← unshelved]; exact begun.override?_eq (by decide) _ _) (suppressed.trans unsuppressed) (!m.resync)
    have plain : w.admitEntry n (!m.resync) = (w.weighed (!m.resync) r.area p).annunciate n := by
      refine w.admitEntry_of_clear here ?_ _
      rw [begun.flooded_eq (by decide), begun.areaRec_eq (by decide)]
      exact clear
    rw [admitted, plain] at step
    have weight := w.weighed_touches (!m.resync) r.area p
    have sounding : (w.weighed (!m.resync) r.area p).entry? n = some (newEntry m.tag m.cond r.area p m.time) :=
      (weight.entry?_eq (by decide) n).trans here
    have sounded := (w.weighed (!m.resync) r.area p).annunciate_touches n
    have last : Touches (.handover :: sysParts ++ endParts) (w.weighed (!m.resync) r.area p)
        ((w.weighed (!m.resync) r.area p).annunciate n).finish := .after (finish_touches _) (by decide) (sounded.mono (by decide))
    have load (a : Nat) : ((w.weighed (!m.resync) r.area p).annunciate n).finish.load a =
        if a = r.area ∧ (!m.resync) = true then min (s.load r.area + p.weight) 65535 else s.load a := by
      rw [last.load_eq (by decide), load_weighed, begun.load_eq (by decide), begun.load_eq (by decide)]
      rfl
    have flooded (a : Nat) : ((w.weighed (!m.resync) r.area p).annunciate n).finish.flooded a = if a = r.area then
        s.flooded r.area || (!m.resync && decide ((s.areaRec r.area).floodOn ≤
          ((w.weighed (!m.resync) r.area p).annunciate n).finish.load r.area)) else s.flooded a := by
      rw [last.flooded_eq (by decide), flooded_weighed, last.load_eq (by decide), begun.flooded_eq (by decide),
        begun.flooded_eq (by decide), begun.areaRec_eq (by decide)]
      rfl
    have timer (a : Nat) : ((w.weighed (!m.resync) r.area p).annunciate n).finish.flood.release.look a =
        if a = r.area ∧ s.flooded r.area = false ∧ ((w.weighed (!m.resync) r.area p).annunciate n).finish.flooded r.area = true
        then none else s.flood.release.look a := by
      rw [(last .release (by decide) : _ = _), look_release_weighed, last.flooded_eq (by decide), begun.flooded_eq (by decide),
        (begun .release (by decide) : _ = _)]
      rfl
    have entry (j : Nat) : ((w.weighed (!m.resync) r.area p).annunciate n).finish.entry? j =
        if j = n then some (newEntry m.tag m.cond r.area p m.time) else s.entry? j := by
      rw [entry?_finish, entry?_annunciate, sounding]
      split
      · rfl
      · rw [weight.entry?_eq (by decide), entries, if_neg ‹_›, heard.entry?_eq (by decide)]
        rfl
    refine ⟨_, step, (entry n).trans (if_pos rfl), ?_, ?_, ?_, fun a other => ?_, (flooded r.area).trans (if_pos rfl),
      fun a other => (flooded a).trans (if_neg other), ?_, fun a other => ?_, fun dry wet st low high up => ?_,
      fun j other => (entry j).trans (if_neg other), ?_, ?_⟩
    · rw [last.gen_eq (by decide), weight.gen_eq (by decide), begun.gen_eq (by decide)]
      rfl
    · rw [(finish_eases _).deadline, deadline_annunciate _ sounding, weight.secondsAhead_eq (by decide),
        weight.areaRec_eq (by decide), begun.secondsAhead_eq (by decide), begun.areaRec_eq (by decide)]
      rfl
    · rw [load]
      cases m.resync <;> simp
    · rw [load, if_neg (by tauto)]
    · rw [timer]
      simp
    · rw [timer, if_neg (by tauto)]
    · have wet' : (w.weighed (!m.resync) r.area p).flooded r.area = true := by rw [← wet, last.flooded_eq (by decide)]
      have told := w.weighed_tells ((begun.flooded_eq (by decide) r.area).trans dry) wet' low high
        ((begun.isUp_eq (by decide) st).trans up)
      rw [begun.outTo_eq (by decide), ← annunciate_pre _ n] at told
      have sent := flood_mem_sent_finish _ told
      rwa [← (finish_touches _).load_eq (by decide)] at sent
    · rw [(last .plantExpected (by decide) : _ = _), (weight .plantExpected (by decide) : _ = _),
        (created .plantExpected (by decide) : _ = _), noted]
    · exact .after last (by decide) (.after weight (by decide) (begun.mono (by decide)))
  · have heard := hearingNotice_touches standing m.seq
    have noted : (s.hearingNotice m.seq).plant.expected = some m.seq := rfl
    have quiet := hearingNotice_ev standing m.seq
    have step := exec_raise_of_next on standing expected seq range range'
    rw [takeNotice_of_raise _ ((heard.tagRec?_eq (by decide) m.tag).trans record) prio
      ((heard.inService_eq (by decide) _).trans open_)] at step
    have found' := (heard.entryOf?_eq (by decide) m.tag m.cond).trans found
    generalize hearing : s.hearingNotice m.seq = v at *
    refine ⟨fun active => ?_, fun returned sounding => ?_, fun returned deferred => ?_⟩
    · rw [applyRaise_of_active _ found' active] at step
      have confirmed : Touches [.entries] v (v.confirmedEntry n e) := v.setEntry_touches n _
      have counted : Touches [.duplicates] (v.confirmedEntry n e)
          (if m.resync then v.confirmedEntry n e else (v.confirmedEntry n e).countDuplicate e.area) :=
        .ite (.refl _ _) (countDuplicate_touches _ _)
      have ended := finish_touches (if m.resync then v.confirmedEntry n e else (v.confirmedEntry n e).countDuplicate e.area)
      have entry (j : Nat) := v.entry_setEntry n { e with stale := false, confirmed := true } j
      have tally (a : Nat) : (v.confirmedEntry n e).alarm.duplicates.getD a 0 = s.alarm.duplicates.getD a 0 := by
        rw [(confirmed .duplicates (by decide) : _ = _), (heard .duplicates (by decide) : _ = _)]
        rfl
      obtain ⟨mine, others⟩ := (v.confirmedEntry n e).countDuplicate_effect e.area
      refine ⟨_, step, ?_, fun j other => ?_, ?_, ?_, fun a other => ?_,
        .after ended (by decide) (.after counted (by decide) (.after confirmed (by decide) (heard.mono (by decide))))⟩
      · rw [entry?_finish, counted.entry?_eq (by decide), confirmedEntry, entry, if_pos rfl]
      · rw [entry?_finish, counted.entry?_eq (by decide), confirmedEntry, entry, if_neg other, heard.entry?_eq (by decide)]
        rfl
      · rw [(ended .plantExpected (by decide) : _ = _), (counted .plantExpected (by decide) : _ = _),
          (confirmed .plantExpected (by decide) : _ = _), noted]
      · rw [(ended .duplicates (by decide) : _ = _)]
        split
        · exact tally _
        · rw [mine, tally]
      · rw [(ended .duplicates (by decide) : _ = _)]
        split
        · exact tally _
        · rw [others a other, tally]
    · rw [applyRaise_of_returned _ found' returned, if_pos sounding] at step
      have again := v.raisedAgain_touches n e
      have weight := (v.raisedAgain n e).weighed_touches (!m.resync) e.area e.cur
      have shown := ((v.raisedAgain n e).weighed (!m.resync) e.area e.cur).represent_touches n
      have ended := finish_touches (((v.raisedAgain n e).weighed (!m.resync) e.area e.cur).represent n)
      have entry (j : Nat) := v.entry?_raisedAgain n e j
      have load (a : Nat) : (((v.raisedAgain n e).weighed (!m.resync) e.area e.cur).represent n).finish.load a =
          if a = e.area ∧ (!m.resync) = true then min (s.load e.area + e.cur.weight) 65535 else s.load a := by
        rw [ended.load_eq (by decide), shown.load_eq (by decide), load_weighed, again.load_eq (by decide),
          again.load_eq (by decide), heard.load_eq (by decide), heard.load_eq (by decide)]
        rfl
      have eased := (represent_eases ((v.raisedAgain n e).weighed (!m.resync) e.area e.cur) n).trans (finish_eases _)
      refine ⟨_, step, ?_, fun j other => ?_, (finish_eases _).silenced_nil (silenced_represent _ n), ?_, ?_,
        fun a other => ?_, .after ended (by decide) (.after shown (by decide) (.after weight (by decide)
          (.after again (by decide) (heard.mono (by decide)))))⟩
      · rw [entry?_finish, entry?_represent, weight.entry?_eq (by decide), entry, if_pos rfl]
      · rw [entry?_finish, entry?_represent, weight.entry?_eq (by decide), entry, if_neg other, heard.entry?_eq (by decide)]
        rfl
      · rw [eased.deadline, weight.annRec_eq (by decide), again.annRec_eq (by decide), heard.annRec_eq (by decide)]
        rfl
      · rw [load]
        cases m.resync <;> simp
      · rw [load, if_neg (by tauto)]
    · rw [applyRaise_of_returned _ found' returned, if_neg (by simp [deferred])] at step
      have again := v.raisedAgain_touches n e
      refine ⟨_, step, ?_, fun j other => ?_, .after (finish_touches _) (by decide) (.after again (by decide)
        (heard.mono (by decide)))⟩
      · rw [entry?_finish, entry?_raisedAgain, if_pos rfl]
      · rw [entry?_finish, entry?_raisedAgain, if_neg other, heard.entry?_eq (by decide)]
        rfl
end

section
/-! PROOFS. A RAISE held back (R49, R50, R72 to R74). -/

namespace Sys2Proof.Machine.State

variable (s : State)

/-- The Flood Monitor with an overflow noted (R73, R74), before DEFERRAL OVERFLOW is raised. -/
def overflowed (a : Nat) : State :=
  { s with flood := { s.flood with
      overflows := s.flood.overflows.setD a 0 (bump (s.flood.overflows.getD a 0)), overflow := true
      subject := if s.flood.overflow then s.flood.subject.ins a else [a] } }

theorem noteOverflow_eq (a : Nat) : s.noteOverflow a =
    (s.overflowed a).sysRaise 515 (.areas (if s.flood.overflow then s.flood.subject.ins a else [a])) := rfl

/-- R67: in an area that is flooded already a weight changes the load only. -/
theorem weighed_touches_of_flooded {a : Nat} (wet : s.flooded a = true) (counted : Bool) (p : Priority) :
    Touches [.load] s (s.weighed counted a p) := by
  refine .ite ?_ (.refl _ s)
  have wet' : (s.setLoad a (addWeight (s.load a) p.weight)).flooded a = true := wet
  rw [addCounted, floodEntryTest, if_neg (by simp [wet'])]
  exact s.setLoad_touches a _

theorem noteOverflow_effect (a : Nat) :
    (s.noteOverflow a).flood.overflows = s.flood.overflows.setD a 0 (bump (s.flood.overflows.getD a 0)) ∧
      (s.noteOverflow a).flood.overflow = true ∧
      (s.noteOverflow a).flood.subject = (if s.flood.overflow then s.flood.subject.ins a else [a]) ∧
      ∃ e, (s.noteOverflow a).entry? 515 = some e ∧ e.active = true ∧
        e.subject = .areas (if s.flood.overflow then s.flood.subject.ins a else [a]) := by
  have raised := (s.overflowed a).sysRaise_touches 515 (.areas (if s.flood.overflow then s.flood.subject.ins a else [a]))
  rw [noteOverflow_eq]
  refine ⟨raised .overflows (by decide), raised .overflow (by decide), raised .overflowSubject (by decide), ?_⟩
  exact ⟨_, entry?_sysRaise_self _ _ _, raisedAlarm_active _ _ _, raisedAlarm_subject _ _ _⟩

/-- A RAISE dropped (R50), before ALARM TABLE FULL is raised. -/
def dropping (a : Nat) : State :=
  { s.countDropped a with alarm := { (s.countDropped a).alarm with tableFull := true } }

theorem dropRaise_eq (a : Nat) : s.dropRaise a = (s.dropping a).sysRaise 514 (.areas (s.fullAreas.ins a)) := rfl

theorem fullAreas_of_room (room : s.alarm.tableFull = false) : s.fullAreas = [] := by
  simp only [fullAreas, room]

theorem fullAreas_of_full {f : Entry} {l : NSet} (full : s.alarm.tableFull = true) (entry : s.entry? 514 = some f)
    (subject : f.subject = .areas l) : s.fullAreas = l := by
  simp only [fullAreas, full, entry, subject]

theorem raisedAlarm_of_entry {n : Nat} {f : Entry} (entry : s.entry? n = some f) (x : Subject) :
    (s.raisedAlarm n x).raiseCount = min (f.raiseCount + 1) 255 := by
  simp only [raisedAlarm, entry]
  rfl

theorem finish_unitAlarm_of_full {e : Entry} (entry : s.entry? 514 = some e) (active : e.active = true) :
    s.finish.alarm.unitAlarm = true := by
  show s.urgentActive = true
  simp [urgentActive, entry, active]

theorem dropRaise_effect (a : Nat) :
    (s.dropRaise a).alarm.dropped = s.alarm.dropped.setD a 0 (bump (s.alarm.dropped.getD a 0)) ∧
      (s.dropRaise a).alarm.tableFull = true ∧
      (s.dropRaise a).entry? 514 = some ((s.dropping a).raisedAlarm 514 (.areas (s.fullAreas.ins a))) ∧
      ∀ j, j < 512 → (s.dropRaise a).entry? j = s.entry? j := by
  have raised := (s.dropping a).sysRaise_touches 514 (.areas (s.fullAreas.ins a))
  rw [dropRaise_eq]
  exact ⟨raised .dropped (by decide), raised .tableFull (by decide), entry?_sysRaise_self _ _ _,
    fun j low => entry?_sysRaise_ne _ (by omega) _⟩

end Sys2Proof.Machine.State

open Sys2Proof.Machine State in
/-- Settles O25: the new entry is shelved, suppressed, deferred or overflows; without a free one the RAISE is dropped. -/
theorem raiseMayBeHeldBack : Obligations.RaiseMayBeHeldBack := by
  unfold Obligations.RaiseMayBeHeldBack
  intro s m r p x on sound standing expected seq range range' record apart prio open_ new
  have create {n : Nat} (free : s.freeEntry? = some n) :=
    exec_raise_of_new on sound standing expected seq range range' record apart prio open_ new free
  refine ⟨fun n k o free shelf => ?_, fun n free unshelved suppressed => ?_,
    fun n free unshelved unsuppressed wet below room => ?_, fun n free unshelved unsuppressed wet below crowded => ?_,
    fun none_ => ?_⟩
  case refine_5 =>
    have heard := hearingNotice_touches standing m.seq
    have step := exec_raise_of_next on standing expected seq range range'
    rw [takeNotice_of_raise _ ((heard.tagRec?_eq (by decide) m.tag).trans record) prio
      ((heard.inService_eq (by decide) _).trans open_),
      applyRaise_of_full _ ((heard.entryOf?_eq (by decide) _ _).trans new) ((heard.freeEntry?_eq (by decide)).trans none_)] at step
    have dropped := (s.hearingNotice m.seq).dropRaise_touches r.area
    obtain ⟨tally, full, alarm, ordinary⟩ := (s.hearingNotice m.seq).dropRaise_effect r.area
    have ended := ((s.hearingNotice m.seq).dropRaise r.area).finish_touches
    have table : (s.hearingNotice m.seq).alarm.tableFull = s.alarm.tableFull := heard .tableFull (by decide)
    have counters : (s.hearingNotice m.seq).alarm.dropped = s.alarm.dropped := heard .dropped (by decide)
    rw [counters] at tally
    have active := ((s.hearingNotice m.seq).dropping r.area).raisedAlarm_active 514
      (.areas ((s.hearingNotice m.seq).fullAreas.ins r.area))
    refine ⟨_, _, step, fun j low => ?_, ?_, fun a other => ?_, ?_, by rw [entry?_finish]; exact alarm, active,
      finish_unitAlarm_of_full _ alarm active, fun free => ?_, fun f l was standing_ subject => ⟨?_, ?_⟩,
      .after ended (by decide) (.after dropped (by decide) (heard.mono (by decide)))⟩
    · rw [entry?_finish, ordinary j low, heard.entry?_eq (by decide)]
      rfl
    · rw [(ended .dropped (by decide) : _ = _), tally]
      exact Sys2Proof.Tbl.getD_setD_self _ _ _ _
    · rw [(ended .dropped (by decide) : _ = _), tally]
      exact Sys2Proof.Tbl.getD_setD_ne _ _ _ other
    · rw [(ended .tableFull (by decide) : _ = _), full]
    · rw [raisedAlarm_subject, fullAreas_of_room _ (table.trans free)]
      rfl
    · rw [raisedAlarm_subject, fullAreas_of_full _ (table.trans was) ((heard.entry?_eq (by decide) 514).trans standing_) subject]
    · exact raisedAlarm_of_entry _ ((heard.entry?_eq (by decide) 514).trans standing_) _
  all_goals
    obtain ⟨v, noted, pair, step⟩ := create free
    have heard := pair.heard
    have created := v.setEntry_touches n (newEntry m.tag m.cond r.area p m.time)
    have suppression := new_suppressed pair
    have entries := v.entry_setEntry n (newEntry m.tag m.cond r.area p m.time)
    generalize making : v.setEntry n (newEntry m.tag m.cond r.area p m.time) = w at *
    have begun : Touches [.plantHeard, .plantMark, .plantExpected, .entries] s.fresh w :=
      .after created (by decide) (heard.mono (by decide))
    have here : w.entry? n = some (newEntry m.tag m.cond r.area p m.time) := by rw [entries, if_pos rfl]
    have elsewhere (j : Nat) (other : j ≠ n) : w.entry? j = s.entry? j := by
      rw [entries, if_neg other, heard.entry?_eq (by decide)]
      rfl
    have shelves : w.override? .shelve m.tag = s.override? .shelve m.tag := begun.override?_eq (by decide) _ _
  case refine_1 =>
    rw [decideEntry_of_shelved _ here (shelves.trans shelf)] at step
    refine ⟨_, step, ?_, fun j other => ?_, .after (finish_touches _) (by decide) (.after (setEntry_touches _ n _) (by decide)
      (begun.mono (by decide)))⟩
    · rw [entry?_finish, entry_setEntry, if_pos rfl, begun.mill_eq (by decide)]
      rfl
    · rw [entry?_finish, entry_setEntry, if_neg other, elsewhere j other]
  case refine_2 =>
    rw [decideEntry_of_suppressed _ here rfl (shelves.trans unshelved) (suppression.trans suppressed)] at step
    refine ⟨_, step, ?_, fun j other => ?_, .after (finish_touches _) (by decide) (.after (setEntry_touches _ n _) (by decide)
      (begun.mono (by decide)))⟩
    · rw [entry?_finish, entry_setEntry, if_pos rfl]
      rfl
    · rw [entry?_finish, entry_setEntry, if_neg other, elsewhere j other]
  case refine_3 =>
    rw [decideEntry_of_free _ here rfl (shelves.trans unshelved) (suppression.trans unsuppressed),
      w.admitEntry_of_room here ((begun.flooded_eq (by decide) _).trans wet)
        (by rw [begun.areaRec_eq (by decide)]; exact below)
        (by rw [(begun .deferred (by decide) : w.flood.deferred = s.fresh.flood.deferred)]; exact room)] at step
    have deferred := w.defer_touches n r.area
    refine ⟨_, step, ?_, fun j other => ?_, ?_, .after (finish_touches _) (by decide) (.after deferred (by decide)
      (begun.mono (by decide)))⟩
    · rw [entry?_finish]
      exact (w.entry?_defer n r.area n).trans (by rw [if_pos rfl, here]; rfl)
    · rw [entry?_finish]
      exact (w.entry?_defer n r.area j).trans (by rw [if_neg other, elsewhere j other])
    · have listed : (w.defer n r.area).flood.deferred = w.flood.deferred ++ [⟨w.refOf n, r.area⟩] :=
        updEntry_touches _ n _ .deferred (by decide)
      rw [(finish_touches _ .deferred (by decide) : _ = _)]
      refine listed.trans ?_
      rw [(begun .deferred (by decide) : w.flood.deferred = s.fresh.flood.deferred), refOf, begun.gen_eq (by decide)]
      rfl
  case refine_4 =>
    have outcome : w.admitEntry n (!m.resync) = ((w.weighed (!m.resync) r.area p).noteOverflow r.area).annunciate n :=
      w.admitEntry_of_full here ((begun.flooded_eq (by decide) _).trans wet) (by rw [begun.areaRec_eq (by decide)]; exact below)
        (by rw [(begun .deferred (by decide) : w.flood.deferred = s.fresh.flood.deferred)]; exact crowded) _
    rw [decideEntry_of_free _ here rfl (shelves.trans unshelved) (suppression.trans unsuppressed), outcome] at step
    have low := pair.low
    have weight := w.weighed_touches_of_flooded ((begun.flooded_eq (by decide) _).trans wet) (!m.resync) p
    have noting := (w.weighed (!m.resync) r.area p).noteOverflow_touches r.area
    obtain ⟨tally, over_, subject, e, alarm, active, named⟩ := (w.weighed (!m.resync) r.area p).noteOverflow_effect r.area
    rw [(weight .overflow (by decide) : _ = _), (weight .overflowSubject (by decide) : _ = _),
      (begun .overflow (by decide) : _ = _), (begun .overflowSubject (by decide) : _ = _)] at subject named
    rw [(weight .overflows (by decide) : _ = _), (begun .overflows (by decide) : _ = _)] at tally
    have spared (j : Nat) (other : j ≠ 515) :
        ((w.weighed (!m.resync) r.area p).noteOverflow r.area).entry? j = w.entry? j := by
      rw [entry?_noteOverflow_ne _ _ other, weight.entry?_eq (by decide)]
    have load := w.load_weighed (!m.resync) r.area p
    have begun' : Touches ([.plantHeard, .plantMark, .plantExpected, .overflow, .overflowSubject, .overflows, .load] ++
        sysParts) s.fresh ((w.weighed (!m.resync) r.area p).noteOverflow r.area) :=
      .after noting (by decide) (.after weight (by decide) (begun.mono (by decide)))
    have load' (a : Nat) := noting.load_eq (by decide) a
    generalize overflowing : (w.weighed (!m.resync) r.area p).noteOverflow r.area = y at *
    have sounding : y.entry? n = some (newEntry m.tag m.cond r.area p m.time) := (spared n (by omega)).trans here
    have sounded := y.annunciate_touches n
    have last : Touches (.handover :: sysParts ++ endParts) y (y.annunciate n).finish :=
      .after (finish_touches _) (by decide) (sounded.mono (by decide))
    have entry (j : Nat) : (y.annunciate n).finish.entry? j =
        if j = n then some (newEntry m.tag m.cond r.area p m.time) else y.entry? j := by
      rw [entry?_finish, entry?_annunciate, sounding]
      rfl
    have final (a : Nat) : (y.annunciate n).finish.load a =
        if a = r.area ∧ (!m.resync) = true then min (s.load r.area + p.weight) 65535 else s.load a := by
      rw [last.load_eq (by decide), load', load, begun.load_eq (by decide), begun.load_eq (by decide)]
      rfl
    refine ⟨_, e, step, (entry n).trans (if_pos rfl), fun j low' other => ?_, ?_, ?_, fun a other => ?_, ?_,
      fun a other => ?_, ?_, ?_, ?_, active, ?_, .after last (by decide) (begun'.mono (by decide))⟩
    · rw [entry, if_neg other, spared j (by omega), elsewhere j other]
    · rw [(finish_eases _).deadline, deadline_annunciate _ sounding, begun'.secondsAhead_eq (by decide),
        begun'.areaRec_eq (by decide)]
      rfl
    · rw [final]
      cases m.resync <;> simp
    · rw [final, if_neg (by tauto)]
    · rw [(last .overflows (by decide) : _ = _), tally]
      exact Sys2Proof.Tbl.getD_setD_self _ _ _ _
    · rw [(last .overflows (by decide) : _ = _), tally]
      exact Sys2Proof.Tbl.getD_setD_ne _ _ _ other
    · rw [(last .overflow (by decide) : _ = _), over_]
    · rw [(last .overflowSubject (by decide) : _ = _), subject]
      rfl
    · rw [entry, if_neg (by omega), alarm]
    · rw [named, (last .overflowSubject (by decide) : _ = _), subject]
end

section
/-! PROOFS. The departure of a parent (R52, R53): the walk over the ordinary entries re-decides each freed child once. -/

namespace Sys2Proof.Machine

theorem Keeps.entriesSound {s t : State} (h : Keeps s t) (sound : s.EntriesSound) : t.EntriesSound :=
  State.entriesSound_iff.mpr (h.sound _ (State.entriesSound_iff.mp sound))

namespace State

variable (s : State)

theorem untagged_of_high {s : State} (sound : s.EntriesSound) {n : Nat} (high : 512 ≤ n) {e : Entry} (he : s.entry? n = some e) :
    e.tag = none := by
  obtain ⟨-, -, -, -, -, tag⟩ := sound.2 _ (Tbl.mem_of_look he)
  have low : ¬ e.tag.isSome = true := fun h => absurd (tag.mp h) (by simp [Config.ordinaryEntries]; omega)
  simpa using low

/-- What suppresses a tag is told by the conditions of the ordinary entries. -/
theorem suppressed_of_cores {s t : State} (sound : s.EntriesSound) (sound' : t.EntriesSound)
    (cores : ∀ n, n < 512 → (t.entry? n).map Entry.core = (s.entry? n).map Entry.core) (tags : t.tables.tags = s.tables.tags)
    (tag : Nat) : t.suppressed tag = s.suppressed tag := by
  have oneWay {u v : State} (sound : u.EntriesSound)
      (cores : ∀ n, n < 512 → (v.entry? n).map Entry.core = (u.entry? n).map Entry.core) {parent : Nat} {mask : BitVec 8} :
      (∃ n e, u.entry? n = some e ∧ Entry.parents parent mask e) → ∃ n e, v.entry? n = some e ∧ Entry.parents parent mask e := by
    rintro ⟨n, e, he, active, tagged, c, cond, covered⟩
    have low : n < 512 := by
      by_contra high
      rw [untagged_of_high sound (by omega) he] at tagged
      cases tagged
    have same := cores n low
    rw [he] at same
    obtain ⟨f, hf, core⟩ := Option.map_eq_some_iff.mp same
    exact ⟨n, f, hf, (Entry.active_of_core core).trans active,
      (congrArg Entry.tag core : f.core.tag = e.core.tag).trans tagged, c,
      (congrArg Entry.cond core : f.core.cond = e.core.cond).trans cond, covered⟩
  have record : t.tagRec? tag = s.tagRec? tag := congrArg (Tbl.look · tag) tags
  unfold suppressed
  rw [record]
  split
  · rfl
  · rw [Bool.eq_iff_iff, parentActive_iff sound'.1, parentActive_iff sound.1]
    exact ⟨oneWay sound' (fun n low => (cores n low).symm), oneWay sound cores⟩

/-! ### One visit of the walk -/

/-- One entry's turn as a parent's departure is worked through. -/
def visitChild (tag n : Nat) : State := if s.freedChild tag n then (s.resetForDecision n).decideEntry n true else s

theorem parentDeparted_eq (tag : Nat) : s.parentDeparted tag = s.ordinary.foldl (fun s n => s.visitChild tag n) s := rfl

/-- A freed child, once its acknowledgement, priority and stage are set back (R53). -/
def Entry.again (e : Entry) : Entry := { e with ack := none, cur := e.cfg, stage := 0 }

/-- What makes an entry a freed child (R52). -/
def Frees (tag : Nat) (e : Entry) : Prop :=
  e.active = true ∧ e.disp = .suppressed ∧ s.inService e.area = true ∧
    ∃ g, e.tag = some g ∧ ((s.tagRec? g).bind (·.parent)).map Prod.fst = some tag ∧ s.suppressed g = false

theorem freedChild_iff {tag n : Nat} : s.freedChild tag n = true ↔ ∃ e, s.entry? n = some e ∧ s.Frees tag e := by
  unfold freedChild Frees
  cases he : s.entry? n with
  | none => simp
  | some e =>
    cases tagged : e.tag with
    | none => simp [tagged]
    | some g => simp [tagged, and_assoc]

theorem visitChild_of_freed {tag n : Nat} (freed : s.freedChild tag n = true) :
    s.visitChild tag n = (s.resetForDecision n).decideEntry n true := if_pos freed

theorem visitChild_of_kept {tag n : Nat} (kept : s.freedChild tag n = false) : s.visitChild tag n = s :=
  if_neg (by simp [kept])

theorem visitChild_touches (tag n : Nat) : Touches admissionParts s (s.visitChild tag n) :=
  .ite (.after (decideEntry_touches _ n true) (by decide) ((s.resetForDecision_touches n).mono (by decide))) (.refl _ s)

theorem visitChild_keeps (tag n : Nat) : Keeps s (s.visitChild tag n) := by
  unfold visitChild
  split
  case isTrue child =>
    obtain ⟨e, he, active⟩ := s.active_of_freedChild child
    refine (s.resetForDecision_keeps n).trans (decideEntry_keeps _ (fun e' he' => ?_) true)
    rw [entry?_resetForDecision, if_pos rfl, he] at he'
    obtain rfl := Option.some.inj he'
    exact active
  case isFalse => exact .refl s

theorem entry?_visitChild_ne {tag n m : Nat} (h : m ≠ n) (low : m < 512) : (s.visitChild tag n).entry? m = s.entry? m := by
  unfold visitChild
  split
  · rw [entry?_decideEntry_ne _ true h (by omega), entry?_resetForDecision, if_neg h]
  · rfl

theorem core_visitChild (tag n : Nat) {m : Nat} (low : m < 512) :
    ((s.visitChild tag n).entry? m).map Entry.core = (s.entry? m).map Entry.core := by
  unfold visitChild
  split
  · rw [core_decideEntry _ n true low, core_resetForDecision]
  · rfl

/-! ### What an admission does to the other entries and areas -/

theorem noteOverflow_eases (a : Nat) : Eases s (s.noteOverflow a) := by
  have noted : Eases s (s.overflowed a) := .of_touches (l := [.overflow, .overflowSubject, .overflows]) (by
    intro p hp
    cases p <;> first | rfl | exact ⟨rfl, rfl⟩ | exact absurd (by decide) hp) (by decide)
  rw [noteOverflow_eq]
  exact noted.trans (sysRaise_eases _ _ _)

/-- What one admission leaves: other entries' deadlines, the list but for its tail, floods, and other areas' loads. -/
structure Admits (n a : Nat) (s t : State) : Prop where
  deadline : ∀ m, m ≠ n → (t.annRec m).deadline = (s.annRec m).deadline
  listed : ∀ d ∈ s.flood.deferred, d ∈ t.flood.deferred
  flooded : ∀ b, s.flooded b = true → t.flooded b = true
  load : ∀ b, b ≠ a → t.load b = s.load b

theorem Admits.refl (n a : Nat) (s : State) : Admits n a s s := ⟨fun _ _ => rfl, fun _ h => h, fun _ h => h, fun _ _ => rfl⟩

theorem Admits.trans {n a : Nat} {s t u : State} (h : Admits n a s t) (k : Admits n a t u) : Admits n a s u :=
  ⟨fun m hm => (k.deadline m hm).trans (h.deadline m hm), fun d hd => k.listed d (h.listed d hd),
    fun b hb => k.flooded b (h.flooded b hb), fun b hb => (k.load b hb).trans (h.load b hb)⟩

theorem Admits.of_touches {n a : Nat} {l : List Part} {s t : State} (h : Touches l s t)
    (hl : ∀ p ∈ [Part.recs, .deferred, .flooded, .load], p ∉ l) : Admits n a s t where
  deadline m _ := congrArg AnnRec.deadline (h.annRec_eq (hl _ (by simp)) m)
  listed d hd := by rwa [(h .deferred (hl _ (by simp)) : t.flood.deferred = s.flood.deferred)]
  flooded b hb := (h.flooded_eq (hl _ (by simp)) b).trans hb
  load b _ := h.load_eq (hl _ (by simp)) b

theorem Admits.of_eases {n a : Nat} {l : List Part} {s t : State} (eased : Eases s t) (h : Touches l s t)
    (hl : ∀ p ∈ [Part.deferred, .flooded, .load], p ∉ l) : Admits n a s t where
  deadline m _ := eased.deadline m
  listed d hd := by rwa [(h .deferred (hl _ (by simp)) : t.flood.deferred = s.flood.deferred)]
  flooded b hb := (h.flooded_eq (hl _ (by simp)) b).trans hb
  load b _ := h.load_eq (hl _ (by simp)) b

theorem weighed_admits (n : Nat) (counted : Bool) (a : Nat) (p : Priority) : Admits n a s (s.weighed counted a p) where
  deadline m _ := congrArg AnnRec.deadline ((s.weighed_touches counted a p).annRec_eq (by decide) m)
  listed d hd := by rwa [(s.weighed_touches counted a p .deferred (by decide) : _ = s.flood.deferred)]
  flooded b hb := by
    rw [flooded_weighed]
    split
    case isTrue here => rw [← here, hb, Bool.true_or]
    case isFalse => exact hb
  load b hb := by rw [load_weighed, if_neg (by tauto)]

theorem annunciate_admits (n a : Nat) : Admits n a s (s.annunciate n) where
  deadline m hm := s.deadline_annunciate_ne hm
  listed d hd := by rwa [(s.annunciate_touches n .deferred (by decide) : _ = s.flood.deferred)]
  flooded b hb := ((s.annunciate_touches n).flooded_eq (by decide) b).trans hb
  load b _ := (s.annunciate_touches n).load_eq (by decide) b

theorem defer_admits (n a : Nat) : Admits n a s (s.defer n a) where
  deadline m _ := congrArg AnnRec.deadline ((s.defer_touches n a).annRec_eq (by decide) m)
  listed d hd := by
    have list : (s.defer n a).flood.deferred = s.flood.deferred ++ [⟨s.refOf n, a⟩] := updEntry_touches _ n _ .deferred (by decide)
    exact list ▸ List.mem_append_left _ hd
  flooded b hb := ((s.defer_touches n a).flooded_eq (by decide) b).trans hb
  load b _ := (s.defer_touches n a).load_eq (by decide) b

theorem setEntry_admits (n a : Nat) (e : Entry) : Admits n a s (s.setEntry n e) := .of_touches (s.setEntry_touches n e) (by decide)

theorem admitEntry_admits {n : Nat} {e : Entry} (he : s.entry? n = some e) (counted : Bool) :
    Admits n e.area s (s.admitEntry n counted) := by
  have weight := s.weighed_admits n counted e.area e.cur
  obtain deferred | overflown | plain := s.admitEntry_cases he counted
  · exact deferred ▸ s.defer_admits n e.area
  · exact overflown ▸ (weight.trans (.of_eases (noteOverflow_eases _ e.area) (noteOverflow_touches _ e.area) (by decide))).trans
      (annunciate_admits _ n e.area)
  · exact plain ▸ weight.trans (annunciate_admits _ n e.area)

theorem decideEntry_admits {n : Nat} {e : Entry} (he : s.entry? n = some e) (counted : Bool) :
    Admits n e.area s (s.decideEntry n counted) := by
  simp only [decideEntry, he]
  split
  · exact s.setEntry_admits n e.area _
  · simp only [decideUnshelved, he]
    split
    · exact s.setEntry_admits n e.area _
    · exact s.admitEntry_admits he counted

theorem resetForDecision_admits (n a : Nat) : Admits n a s (s.resetForDecision n) where
  deadline m hm := by
    rw [resetForDecision, annRec_updAnnRec, if_neg hm, (updEntry_touches s n _).annRec_eq (by decide)]
  listed d hd := by rwa [(s.resetForDecision_touches n .deferred (by decide) : _ = s.flood.deferred)]
  flooded b hb := ((s.resetForDecision_touches n).flooded_eq (by decide) b).trans hb
  load b _ := (s.resetForDecision_touches n).load_eq (by decide) b

theorem entry?_reset {n : Nat} {e : Entry} (he : s.entry? n = some e) : (s.resetForDecision n).entry? n = some (Entry.again e) := by
  rw [entry?_resetForDecision, if_pos rfl, he]
  rfl

theorem visitChild_admits {tag n : Nat} {e : Entry} (he : s.entry? n = some e) : Admits n e.area s (s.visitChild tag n) := by
  unfold visitChild
  split
  · exact (s.resetForDecision_admits n e.area).trans (decideEntry_admits _ (s.entry?_reset he) true)
  · exact .refl n e.area s

/-! ### The turn of a freed child -/

/-- What a re-decision makes of a freed child (R49, R53), its area's load, where that is told, standing at `load` before. -/
def ChildDecided (c : Nat) (f : Entry) (told : Prop) (load : Nat) (t : State) : Prop :=
  (∀ k o, f.tag.bind (s.override? .shelve) = some (k, o) →
    t.entry? c = some { Entry.again f with disp := .shelved, ack := some ⟨s.time.mill, o.holder⟩ }) ∧
  (f.tag.bind (s.override? .shelve) = none →
    (t.entry? c = some { Entry.again f with disp := .deferred } ∧ t.flooded f.area = true ∧
        f.cfg.value ≤ (s.areaRec f.area).cut.value ∧ ⟨⟨c, s.gen c⟩, f.area⟩ ∈ t.flood.deferred) ∨
      (t.entry? c = some { Entry.again f with disp := .annunciated } ∧
        (t.annRec c).deadline = some (s.secondsAhead ((s.areaRec f.area).stage1Time f.cfg), 1) ∧
        (told → t.load f.area = min (load + f.cfg.weight) 65535)))

theorem visitChild_decides {tag c : Nat} {f : Entry} (sound : s.EntriesSound) (low : c < 512) (hf : s.entry? c = some f)
    (frees : s.Frees tag f) (told : Prop) :
    s.ChildDecided c f told (s.load f.area) (s.visitChild tag c) := by
  have freed : s.freedChild tag c = true := s.freedChild_iff.mpr ⟨f, hf, frees⟩
  obtain ⟨-, -, -, g, tagged, -, unsuppressed⟩ := frees
  rw [s.visitChild_of_freed freed]
  have reset := s.resetForDecision_touches c
  have again := s.entry?_reset hf
  have unsuppressed' : (s.resetForDecision c).suppressed g = false :=
    (suppressed_of_cores sound ((s.resetForDecision_keeps c).entriesSound sound) (fun n _ => s.core_resetForDecision c n)
      (reset .tags (by decide)) g).trans unsuppressed
  have shelves (k : Nat) : (s.resetForDecision c).override? .shelve k = s.override? .shelve k := reset.override?_eq (by decide) _ _
  have shelves' : (s.resetForDecision c).override? .shelve = s.override? .shelve := funext shelves
  refine ⟨fun k o shelf => ?_, fun unshelved => ?_⟩
  · rw [decideEntry_of_shelved _ again (by rw [shelves']; exact shelf), entry_setEntry, if_pos rfl, reset.mill_eq (by decide)]
  · have tagged' : (Entry.again f).tag = some g := tagged
    have unshelved' : s.override? .shelve g = none := by rw [tagged] at unshelved; exact unshelved
    rw [decideEntry_of_free _ again tagged' ((shelves g).trans unshelved') unsuppressed']
    by_cases clear : (s.resetForDecision c).flooded f.area = false ∨
        ((s.resetForDecision c).areaRec f.area).cut.value < f.cfg.value
    · have outcome : (s.resetForDecision c).admitEntry c true =
          ((s.resetForDecision c).weighed true f.area f.cfg).annunciate c := admitEntry_of_clear _ again clear true
      rw [outcome]
      have weight := (s.resetForDecision c).weighed_touches true f.area f.cfg
      have sounding := (weight.entry?_eq (by decide) c).trans again
      refine .inr ⟨?_, ?_, ?_⟩
      · rw [entry?_annunciate, if_pos rfl, sounding]
        rfl
      · rw [deadline_annunciate _ sounding, weight.secondsAhead_eq (by decide), weight.areaRec_eq (by decide),
          reset.secondsAhead_eq (by decide), reset.areaRec_eq (by decide)]
        rfl
      · intro _
        rw [(annunciate_touches _ c).load_eq (by decide), load_weighed, if_pos ⟨rfl, rfl⟩, reset.load_eq (by decide)]
    · obtain ⟨wet, below⟩ := not_or.mp clear
      have wet : (s.resetForDecision c).flooded f.area = true := by simpa using wet
      have below : f.cfg.value ≤ ((s.resetForDecision c).areaRec f.area).cut.value := Nat.le_of_not_lt below
      by_cases room : (s.resetForDecision c).flood.deferred.length < 256
      · have outcome : (s.resetForDecision c).admitEntry c true = (s.resetForDecision c).defer c f.area :=
          admitEntry_of_room _ again wet below room true
        rw [outcome]
        refine .inl ⟨?_, ?_, ?_, ?_⟩
        · rw [entry?_defer, if_pos rfl, again]
          rfl
        · rw [(defer_touches _ c f.area).flooded_eq (by decide), wet]
        · rwa [reset.areaRec_eq (by decide)] at below
        · have list : ((s.resetForDecision c).defer c f.area).flood.deferred =
              (s.resetForDecision c).flood.deferred ++ [⟨(s.resetForDecision c).refOf c, f.area⟩] :=
            updEntry_touches _ c _ .deferred (by decide)
          rw [list, refOf, reset.gen_eq (by decide)]
          exact List.mem_append_right _ (List.mem_singleton.mpr rfl)
      · have outcome : (s.resetForDecision c).admitEntry c true =
            (((s.resetForDecision c).weighed true f.area f.cfg).noteOverflow f.area).annunciate c :=
          admitEntry_of_full _ again wet below (Nat.le_of_not_lt room) true
        rw [outcome]
        have weight := (s.resetForDecision c).weighed_touches true f.area f.cfg
        have noted := ((s.resetForDecision c).weighed true f.area f.cfg).noteOverflow_touches f.area
        have sounding : (((s.resetForDecision c).weighed true f.area f.cfg).noteOverflow f.area).entry? c =
            some (Entry.again f) := by
          rw [entry?_noteOverflow_ne _ _ (by omega), weight.entry?_eq (by decide), again]
        refine .inr ⟨?_, ?_, ?_⟩
        · rw [entry?_annunciate, if_pos rfl, sounding]
          rfl
        · rw [deadline_annunciate _ sounding, noted.secondsAhead_eq (by decide), noted.areaRec_eq (by decide),
            weight.secondsAhead_eq (by decide), weight.areaRec_eq (by decide), reset.secondsAhead_eq (by decide),
            reset.areaRec_eq (by decide)]
          rfl
        · intro _
          rw [(annunciate_touches _ c).load_eq (by decide), noted.load_eq (by decide), load_weighed, if_pos ⟨rfl, rfl⟩,
            reset.load_eq (by decide)]

/-! ### The walk -/

/-- A state that a walk from `w` has come to. -/
structure Walked (w u : State) : Prop where
  sound : u.EntriesSound
  touched : Touches admissionParts w u
  cores : ∀ n, n < 512 → (u.entry? n).map Entry.core = (w.entry? n).map Entry.core
  hidden : ∀ n e, n < 512 → u.entry? n = some e → e.disp = .suppressed → w.entry? n = some e

theorem Walked.refl {w : State} (sound : w.EntriesSound) : Walked w w :=
  ⟨sound, .refl _ w, fun _ _ => rfl, fun _ _ _ he _ => he⟩

theorem Walked.frees_iff {w u : State} (walked : Walked w u) (sound : w.EntriesSound) (tag : Nat) (e : Entry) :
    u.Frees tag e ↔ w.Frees tag e := by
  have tags : u.tables.tags = w.tables.tags := walked.touched .tags (by decide)
  have record (g : Nat) : u.tagRec? g = w.tagRec? g := congrArg (Tbl.look · g) tags
  simp only [Frees, walked.touched.inService_eq (by decide), record, suppressed_of_cores sound walked.sound walked.cores tags]

theorem Walked.visit {w u : State} (walked : Walked w u) (tag n : Nat) : Walked w (u.visitChild tag n) where
  sound := (u.visitChild_keeps tag n).entriesSound walked.sound
  touched := walked.touched.trans (u.visitChild_touches tag n)
  cores m low := (u.core_visitChild tag n low).trans (walked.cores m low)
  hidden m e low he disp := by
    by_cases here : m = n
    · subst here
      cases freed : u.freedChild tag m with
      | false => exact walked.hidden m e low (by rwa [u.visitChild_of_kept freed] at he) disp
      | true =>
        obtain ⟨f, hf, frees⟩ := u.freedChild_iff.mp freed
        obtain ⟨shelf, other⟩ := u.visitChild_decides walked.sound low hf frees True
        cases found : f.tag.bind (u.override? .shelve) with
        | some q =>
          rw [shelf q.1 q.2 found] at he
          rw [← Option.some.inj he] at disp
          cases disp
        | none =>
          rcases other found with ⟨entry, -⟩ | ⟨entry, -⟩
          all_goals
            rw [entry] at he
            rw [← Option.some.inj he] at disp
            cases disp
    · rw [u.entry?_visitChild_ne here low] at he
      exact walked.hidden m e low he disp

theorem Walked.freed {w u : State} (walked : Walked w u) (sound : w.EntriesSound) {tag n : Nat} (low : n < 512)
    (freed : u.freedChild tag n = true) : ∃ e, u.entry? n = some e ∧ w.entry? n = some e ∧ w.Frees tag e := by
  obtain ⟨e, he, frees⟩ := u.freedChild_iff.mp freed
  exact ⟨e, he, walked.hidden n e low he frees.2.1, (walked.frees_iff sound tag e).mp frees⟩

/-- A walk that visits `c` once comes to what the visit reaches and later visits keep. -/
theorem foldl_reaches {f : State → Nat → State} {c : Nat} {P Q : State → Prop} {ns : List Nat}
    (before : ∀ u, ∀ k ∈ ns, k ≠ c → P u → P (f u k)) (visit : ∀ u, P u → Q (f u c))
    (after : ∀ u, ∀ k ∈ ns, k ≠ c → Q u → Q (f u k)) (once : ns.Nodup) (listed : c ∈ ns) :
    ∀ u, P u → Q (ns.foldl f u) := by
  have later : ∀ (ks : List Nat), (∀ k ∈ ks, k ∈ ns ∧ k ≠ c) → ∀ u, Q u → Q (ks.foldl f u) := by
    intro ks
    induction ks with
    | nil => exact fun _ _ h => h
    | cons k ks ih =>
      intro hk u hu
      obtain ⟨⟨mem, other⟩, rest⟩ := List.forall_mem_cons.mp hk
      exact ih rest _ (after u k mem other hu)
  obtain ⟨earlier, rest, split⟩ := List.append_of_mem listed
  subst split
  obtain ⟨-, restOnce, apart⟩ := List.nodup_append.mp once
  obtain ⟨fresh, -⟩ := List.nodup_cons.mp restOnce
  have sooner : ∀ (ks : List Nat), (∀ k ∈ ks, k ∈ earlier) → ∀ u, P u → P (ks.foldl f u) := by
    intro ks
    induction ks with
    | nil => exact fun _ _ h => h
    | cons k ks ih =>
      intro hk u hu
      obtain ⟨mem, more⟩ := List.forall_mem_cons.mp hk
      exact ih more _ (before u k (List.mem_append_left _ mem) (apart k mem c List.mem_cons_self) hu)
  intro u hu
  rw [List.foldl_append, List.foldl_cons]
  refine later rest (fun k hk => ⟨by simp [hk], fun same => fresh (same ▸ hk)⟩) _ (visit _ (sooner earlier (fun _ h => h) u hu))

/-- Only child of its area: its area's load is told after the walk. -/
def OnlyChild (w : State) (tag c a : Nat) : Prop :=
  ∀ c' f', c' < 512 → w.entry? c' = some f' → w.Frees tag f' → f'.area = a → c' = c

theorem childDecided_visit {w u : State} (walked : Walked w u) (sound : w.EntriesSound) {tag c k : Nat} {f : Entry}
    (low : c < 512) (low' : k < 512) (other : k ≠ c) {load : Nat}
    (decided : w.ChildDecided c f (OnlyChild w tag c f.area) load u) :
    w.ChildDecided c f (OnlyChild w tag c f.area) load (u.visitChild tag k) := by
  have entry : (u.visitChild tag k).entry? c = u.entry? c := u.entry?_visitChild_ne (Ne.symm other) low
  cases freed : u.freedChild tag k with
  | false => rwa [u.visitChild_of_kept freed]
  | true =>
    obtain ⟨e, he, origin, frees⟩ := walked.freed sound low' freed
    have admits := u.visitChild_admits (tag := tag) he
    refine ⟨fun j o shelf => entry.trans (decided.1 j o shelf), fun unshelved => ?_⟩
    rcases decided.2 unshelved with ⟨deferred, wet, below, listed⟩ | ⟨sounding, deadline, weight⟩
    · exact .inl ⟨entry.trans deferred, admits.flooded _ wet, below, admits.listed _ listed⟩
    · refine .inr ⟨entry.trans sounding, (admits.deadline c (Ne.symm other)).trans deadline, fun only => ?_⟩
      have apart : f.area ≠ e.area := fun same => other (only k e low' origin frees same.symm)
      exact (admits.load _ apart).trans (weight only)

/-- R52: every freed child has been decided again when the walk is over. -/
theorem parentDeparted_decides {w : State} (sound : w.EntriesSound) {tag c : Nat} {f : Entry} (low : c < 512)
    (hf : w.entry? c = some f) (frees : w.Frees tag f) :
    w.ChildDecided c f (OnlyChild w tag c f.area) (w.load f.area) (w.parentDeparted tag) := by
  have once : w.ordinary.Nodup := by
    have rising : w.alarm.entries.keys.Pairwise (· < ·) := List.pairwise_map.mpr sound.1
    exact (rising.imp (fun h => Nat.ne_of_lt h)).filter _
  refine (foldl_reaches (f := fun s n => s.visitChild tag n)
    (P := fun u => Walked w u ∧ u.entry? c = w.entry? c ∧ (OnlyChild w tag c f.area → u.load f.area = w.load f.area))
    (Q := fun u => Walked w u ∧ w.ChildDecided c f (OnlyChild w tag c f.area) (w.load f.area) u)
    ?_ ?_ ?_ once (w.mem_ordinary low hf) w ⟨.refl sound, rfl, fun _ => rfl⟩).2
  · rintro u k hk other ⟨walked, entry, load⟩
    have low' := w.lt_of_mem_ordinary hk
    refine ⟨walked.visit tag k, (u.entry?_visitChild_ne (Ne.symm other) low).trans entry, fun only => ?_⟩
    cases freed : u.freedChild tag k with
    | false => rw [u.visitChild_of_kept freed, load only]
    | true =>
      obtain ⟨e, he, origin, frees'⟩ := walked.freed sound low' freed
      have apart : f.area ≠ e.area := fun same => other (only k e low' origin frees' same.symm)
      exact ((u.visitChild_admits he).load _ apart).trans (load only)
  · rintro u ⟨walked, entry, load⟩
    have decided := u.visitChild_decides walked.sound low (entry.trans hf) ((walked.frees_iff sound tag f).mpr frees)
      (OnlyChild w tag c f.area)
    have overrides : u.override? .shelve = w.override? .shelve :=
      funext (fun g => walked.touched.override?_eq (by decide) _ g)
    simp only [ChildDecided, overrides, walked.touched.mill_eq (by decide), walked.touched.areaRec_eq (by decide),
      walked.touched.gen_eq (by decide), walked.touched.secondsAhead_eq (by decide)] at decided
    refine ⟨walked.visit tag c, decided.1, fun unshelved => (decided.2 unshelved).imp_right ?_⟩
    rintro ⟨sounding, deadline, weight⟩
    exact ⟨sounding, deadline, fun only => load only ▸ weight only⟩
  · rintro u k hk other ⟨walked, decided⟩
    exact ⟨walked.visit tag k, childDecided_visit walked sound low (w.lt_of_mem_ordinary hk) other decided⟩

/-- An entry that is no freed child is left as it is. -/
theorem entry?_parentDeparted_of_kept {w : State} (sound : w.EntriesSound) {tag c : Nat} (low : c < 512)
    (kept : w.freedChild tag c = false) : (w.parentDeparted tag).entry? c = w.entry? c := by
  have walk : ∀ (ks : List Nat) (u : State), Walked w u → u.entry? c = w.entry? c →
      (ks.foldl (fun s n => s.visitChild tag n) u).entry? c = w.entry? c := by
    intro ks
    induction ks with
    | nil => exact fun _ _ h => h
    | cons k ks ih =>
      intro u walked entry
      refine ih _ (walked.visit tag k) ?_
      show (u.visitChild tag k).entry? c = w.entry? c
      by_cases here : c = k
      · subst here
        have stays : u.freedChild tag c = false := by
          rw [← Bool.not_eq_true]
          intro freed
          obtain ⟨e, -, he, frees⟩ := walked.freed sound low freed
          rw [w.freedChild_iff.mpr ⟨e, he, frees⟩] at kept
          cases kept
        rw [u.visitChild_of_kept stays, entry]
      · rw [u.entry?_visitChild_ne here low, entry]
  exact walk _ w (.refl sound) rfl

end State

end Sys2Proof.Machine
end

section
/-! PROOFS. A RETURN (R51 to R53): the entry becomes RETURNED or is removed, and its children are decided again. -/

namespace Sys2Proof.Machine.State

/-- The children that a return of the entry `n` of a tag frees, as the state before it tells (R52). -/
def FreedBy (s : State) (tag n c : Nat) (f : Entry) : Prop :=
  c < 512 ∧ c ≠ n ∧ f.active = true ∧ f.disp = .suppressed ∧ s.inService f.area = true ∧
    ∃ g q mask, f.tag = some g ∧ s.tagRec? g = some q ∧ q.parent = some (tag, mask) ∧
      ∀ b ∈ s.alarm.entries, b.1 ≠ n → b.2.active = true → b.2.tag = some tag →
        ∀ k, b.2.cond = some k → mask.getLsbD k = false

/-- The state in which a return has taken the entry out of ACTIVE and its children are still to be decided. -/
structure LeftActive (s w : State) (n : Nat) : Prop where
  sound : w.EntriesSound
  touched : Touches ([.plantHeard, .plantMark, .plantExpected, .entries, .gens, .tableFull, .recs, .attnStacks, .overdue,
    .deferred, .release, .overflow, .overflowSubject, .handover] : List Part) s.fresh w
  others : ∀ j, j < 512 → j ≠ n → w.entry? j = s.entry? j
  gens : ∀ j, j ≠ n → w.gen j = s.gen j
  inactive : ∀ e, w.entry? n = some e → e.active = false

variable {s w : State} {n tag : Nat}

theorem LeftActive.frees_iff (left : LeftActive s w n) (sound : s.EntriesSound) {c : Nat} {f : Entry} (low : c < 512) (other : c ≠ n) :
    w.Frees tag f ↔ FreedBy s tag n c f := by
  have record (g : Nat) : w.tagRec? g = s.tagRec? g := left.touched.tagRec?_eq (by decide) g
  have service : w.inService f.area = s.inService f.area := left.touched.inService_eq (by decide) _
  have parents (mask : BitVec 8) : w.parentActive tag mask = false ↔
      ∀ b ∈ s.alarm.entries, b.1 ≠ n → b.2.active = true → b.2.tag = some tag →
        ∀ k, b.2.cond = some k → mask.getLsbD k = false := by
    rw [← Bool.not_eq_true, parentActive_iff left.sound.1]
    constructor
    · intro none_ b mem apart active tagged k cond
      rw [← Bool.not_eq_true]
      intro covered
      have here := Tbl.look_of_mem sound.1 mem
      have below : b.1 < 512 := by
        by_contra high
        rw [untagged_of_high sound (by omega) here] at tagged
        cases tagged
      exact none_ ⟨b.1, b.2, (left.others b.1 below apart).trans here, active, tagged, k, cond, covered⟩
    · rintro clear ⟨m, e, he, active, tagged, k, cond, covered⟩
      have apart : m ≠ n := by
        rintro rfl
        rw [left.inactive e he] at active
        cases active
      have below : m < 512 := by
        by_contra high
        rw [untagged_of_high left.sound (by omega) he] at tagged
        cases tagged
      have mem := Tbl.mem_of_look ((left.others m below apart).symm.trans he)
      rw [clear (m, e) mem apart active tagged k cond] at covered
      cases covered
  unfold Frees FreedBy
  rw [service]
  constructor
  · rintro ⟨active, disp, open_, g, tagged, parent, unsuppressed⟩
    refine ⟨low, other, active, disp, open_, g, ?_⟩
    rw [record] at parent
    obtain ⟨⟨p, mask⟩, found, same⟩ := Option.map_eq_some_iff.mp parent
    obtain ⟨q, hq, hp⟩ := Option.bind_eq_some_iff.mp found
    obtain rfl : p = tag := same
    refine ⟨q, mask, tagged, hq, hp, (parents mask).mp ?_⟩
    simpa [suppressed, record, hq, hp] using unsuppressed
  · rintro ⟨-, -, active, disp, open_, g, q, mask, tagged, hq, hp, clear⟩
    refine ⟨active, disp, open_, g, tagged, by simp [record, hq, hp], ?_⟩
    simpa [suppressed, record, hq, hp] using (parents mask).mpr clear

/-- R52, R53: what the departure of the parent leaves, once the event has ended. -/
theorem LeftActive.departed (left : LeftActive s w n) (sound : s.EntriesSound) :
    (∀ c f, s.entry? c = some f → FreedBy s tag n c f →
      s.ChildDecided c f (∀ c' f', s.entry? c' = some f' → FreedBy s tag n c' f' → f'.area = f.area → c' = c) (s.load f.area)
        (w.parentDeparted tag).finish) ∧
    (∀ c f, c < 512 → c ≠ n → s.entry? c = some f → ¬ FreedBy s tag n c f →
      (w.parentDeparted tag).finish.entry? c = some f) := by
  refine ⟨fun c f hf freed => ?_, fun c f low other hf kept => ?_⟩
  · obtain ⟨low, other, -⟩ := id freed
    have here := (left.others c low other).trans hf
    have decided := parentDeparted_decides left.sound low here ((left.frees_iff sound low other).mpr freed)
    have overrides : w.override? .shelve = s.override? .shelve :=
      funext (fun g => left.touched.override?_eq (by decide) _ g)
    simp only [ChildDecided, overrides, left.touched.mill_eq (by decide), left.touched.areaRec_eq (by decide),
      left.gens c other, left.touched.secondsAhead_eq (by decide), left.touched.load_eq (by decide)] at decided
    have ended := (w.parentDeparted tag).finish_touches
    refine ⟨fun k o shelf => (entry?_finish _ c).trans (decided.1 k o shelf), fun unshelved => ?_⟩
    rcases decided.2 unshelved with ⟨deferred, wet, below, listed⟩ | ⟨sounding, deadline, weight⟩
    · refine .inl ⟨(entry?_finish _ c).trans deferred, (ended.flooded_eq (by decide) _).trans wet, below, ?_⟩
      rwa [(ended .deferred (by decide) : _ = (w.parentDeparted tag).flood.deferred)]
    · refine .inr ⟨(entry?_finish _ c).trans sounding, ((finish_eases _).deadline c).trans deadline, fun only => ?_⟩
      refine (ended.load_eq (by decide) _).trans (weight ?_)
      intro c' f' low' hf' frees' same
      have apart : c' ≠ n := by
        rintro rfl
        have active := frees'.1
        rw [left.inactive f' hf'] at active
        cases active
      exact only c' f' ((left.others c' low' apart).symm.trans hf') ((left.frees_iff sound low' apart).mp frees') same
  · rw [entry?_finish, entry?_parentDeparted_of_kept left.sound low, left.others c low other, hf]
    rw [← Bool.not_eq_true, freedChild_iff]
    rintro ⟨e, he, frees⟩
    rw [left.others c low other, hf] at he
    obtain rfl := Option.some.inj he
    exact kept ((left.frees_iff sound low other).mp frees)

theorem gens_freeOrdinary (s : State) (n : Nat) :
    (s.freeOrdinary n).alarm.gens = s.alarm.gens.setD n 0 ((s.alarm.gens.getD n 0 + 1) % 65536) := by
  have tested (u : State) : u.tableFullTest.alarm.gens = u.alarm.gens := u.tableFullTest_touches .gens (by decide)
  have dropped : (s.dropEntry n).alarm.gens = s.alarm.gens := s.dropEntry_touches n .gens (by decide)
  rw [freeOrdinary, tested]
  dsimp only
  rw [dropped]

theorem gen_departed (s : State) (n : Nat) (e : Entry) (m : Nat) (low : n < 512) :
    (s.departed n e).gen m = if m = n then (s.gen n + 1) % 65536 else s.gen m := by
  have before : Touches (.overdue :: departureParts) s (((s.undefer n).withdraw n).resolveItems e.area (namesAlarm (s.refOf n))) :=
    .after (resolveItems_touches _ _ _) (by decide) (.after (withdraw_touches _ n) (by decide) ((s.undefer_touches n).mono (by decide)))
  have gens := (((s.undefer n).withdraw n).resolveItems e.area (namesAlarm (s.refOf n))).gens_freeOrdinary n
  rw [(before .gens (by decide) : _ = s.alarm.gens)] at gens
  have here : (s.departed n e).gen m = if m < 512 then (s.alarm.gens.setD n 0 ((s.alarm.gens.getD n 0 + 1) % 65536)).getD m 0 else 0 := by
    rw [← gens]
    rfl
  rw [here, Tbl.getD_setD, gen, gen]
  simp only [Config.ordinaryEntries]
  by_cases same : m = n
  · subst same; simp [low]
  · simp only [if_neg same]
    rfl

theorem departed_keeps (s : State) (n : Nat) (e : Entry) : Keeps s (s.departed n e) :=
  (s.undefer_keeps n).trans (withdraw_freeOrdinary_keeps _ n _ _)

/-- A RETURN that finds its entry ACTIVE: what is left of the entry, and the walk over its children. -/
theorem returnActive_of_kept {s : State} {n tag : Nat} {e : Entry} (he : s.entry? n = some e) (unacked : e.ack = none)
    (shown : e.disp ≠ .suppressed) (tagged : e.tag = some tag) (time : MillTime) : s.returnActive n time =
      (s.setEntry n { e with active := false, returnTime := some time }).parentDeparted tag := by
  simp only [returnActive, he, tagged]
  rw [if_neg (by simp [unacked, shown])]

theorem returnActive_of_gone {s : State} {n tag : Nat} {e : Entry} (he : s.entry? n = some e) (active : e.active = true)
    (gone : e.ack.isSome = true ∨ e.disp = .suppressed) (tagged : e.tag = some tag) (time : MillTime) :
    s.returnActive n time = (s.departed n e).parentDeparted tag := by
  simp only [returnActive, he]
  rw [if_pos (by simpa using gone), s.removeEntry_of_entry he, if_pos active, tagged]

end Sys2Proof.Machine.State

open Sys2Proof.Machine State in
/-- Settles O26: the entry leaves ACTIVE, RETURNED or removed, and its freed children are decided once each. -/
theorem returnEndsActiveEntry : Obligations.ReturnEndsActiveEntry := by
  unfold Obligations.ReturnEndsActiveEntry
  intro s m r p n x e on sound standing expected seq range range' record prio open_ low found entry freed departed
  have heard := hearingNotice_touches standing m.seq
  have noted : (s.hearingNotice m.seq).plant.expected = some m.seq := rfl
  have step := exec_return_of_next on standing expected seq range range'
  have tagged : e.tag = some m.tag := (by simpa using List.find?_some found : e.tag = some m.tag ∧ _).1
  rw [takeNotice_of_return _ ((heard.tagRec?_eq (by decide) m.tag).trans record) prio
    ((heard.inService_eq (by decide) _).trans open_), heard.entryOf?_eq (by decide),
    show s.fresh.entryOf? m.tag m.cond = some (n, e) from found] at step
  have sound' : (s.hearingNotice m.seq).EntriesSound := (Keeps.of_touches heard (by decide)).entriesSound (s := s.fresh) sound
  generalize hearing : s.hearingNotice m.seq = v at *
  have here : v.entry? n = some e := (heard.entry?_eq (by decide) n).trans entry
  have unstaled := v.setEntry_touches n { e with stale := false }
  have unstaledKeeps : Keeps v (v.setEntry n { e with stale := false }) := v.setEntry_keeps_of_look here (fun h => h)
  have entries := v.entry_setEntry n { e with stale := false }
  have returns : v.applyReturn n e m.time = if e.active then (v.setEntry n { e with stale := false }).returnActive n m.time
      else (v.setEntry n { e with stale := false }).countDuplicate e.area := rfl
  dsimp only at step
  rw [returns] at step
  generalize making : v.setEntry n { e with stale := false } = u at *
  have begun : Touches [.plantHeard, .plantMark, .plantExpected, .entries] s.fresh u :=
    .after unstaled (by decide) (heard.mono (by decide))
  have mine : u.entry? n = some { e with stale := false } := by rw [entries, if_pos rfl]
  have elsewhere (j : Nat) (other : j ≠ n) : u.entry? j = s.entry? j := by
    rw [entries, if_neg other, heard.entry?_eq (by decide)]
    rfl
  have gens (j : Nat) : u.gen j = s.gen j := begun.gen_eq (by decide) j
  refine ⟨fun active unacked shown => ?_, fun active gone => ?_, fun returned => ?_⟩
  · have kept := u.setEntry_touches n { e with stale := false, active := false, returnTime := some m.time }
    have keeps : Keeps u (u.setEntry n { e with stale := false, active := false, returnTime := some m.time }) :=
      u.setEntry_keeps_of_look mine (fun h => ⟨.inr unacked, h.2⟩)
    have entries' := u.entry_setEntry n { e with stale := false, active := false, returnTime := some m.time }
    rw [if_pos active, returnActive_of_kept mine unacked (by rcases shown with h | h <;> simp [h]) tagged] at step
    have left : LeftActive s (u.setEntry n { e with stale := false, active := false, returnTime := some m.time }) n :=
      { sound := keeps.entriesSound (unstaledKeeps.entriesSound sound')
        touched := .after kept (by decide) (begun.mono (by decide))
        others := fun j _ other => by rw [entries', if_neg other, elsewhere j other]
        gens := fun j _ => (kept.gen_eq (by decide) j).trans (gens j)
        inactive := fun f hf => by
          rw [entries', if_pos rfl] at hf
          exact Option.some.inj hf ▸ rfl }
    have walked := parentDeparted_touches (u.setEntry n { e with stale := false, active := false, returnTime := some m.time }) m.tag
    have ended := finish_touches ((u.setEntry n { e with stale := false, active := false, returnTime := some m.time }).parentDeparted
      m.tag)
    refine ⟨_, step, ?_, ?_, left.departed sound, .after ended (by decide) (.after walked (by decide) (left.touched.mono (by decide)))⟩
    · rw [entry?_finish, entry?_parentDeparted_of_kept left.sound low, entries', if_pos rfl]
      rw [← Bool.not_eq_true, freedChild_iff]
      rintro ⟨f, hf, frees⟩
      exact absurd (frees.1.symm.trans (left.inactive f hf)) (by simp)
    · rw [ended.gen_eq (by decide), walked.gen_eq (by decide), kept.gen_eq (by decide), gens]
  · have away := u.departed_touches n { e with stale := false }
    have entries' (j : Nat) (low' : j < 512) := u.entry?_departed n { e with stale := false } low'
    have gens' (j : Nat) := u.gen_departed n { e with stale := false } j low
    rw [if_pos active, returnActive_of_gone mine active gone tagged] at step
    have left : LeftActive s (u.departed n { e with stale := false }) n :=
      { sound := (u.departed_keeps n _).entriesSound (unstaledKeeps.entriesSound sound')
        touched := .after away (by decide) (begun.mono (by decide))
        others := fun j low' other => by rw [entries' j low', if_neg other, elsewhere j other]
        gens := fun j other => by rw [gens', if_neg other, gens]
        inactive := fun f hf => by
          rw [entries' n low, if_pos rfl] at hf
          cases hf }
    have walked := parentDeparted_touches (u.departed n { e with stale := false }) m.tag
    have ended := finish_touches ((u.departed n { e with stale := false }).parentDeparted m.tag)
    refine ⟨_, step, ?_, ?_, left.departed sound, .after ended (by decide) (.after walked (by decide) (left.touched.mono (by decide)))⟩
    · rw [entry?_finish, entry?_parentDeparted_of_kept left.sound low, entries' n low, if_pos rfl]
      rw [← Bool.not_eq_true, freedChild_iff]
      rintro ⟨f, hf, -⟩
      rw [entries' n low, if_pos rfl] at hf
      cases hf
    · rw [ended.gen_eq (by decide), walked.gen_eq (by decide), gens', if_pos rfl, gens]
  · rw [if_neg (by simp [returned])] at step
    have counted := u.countDuplicate_touches e.area
    obtain ⟨tally, others⟩ := u.countDuplicate_effect e.area
    have before : u.alarm.duplicates = s.alarm.duplicates := begun .duplicates (by decide)
    rw [before] at tally others
    have ended := (u.countDuplicate e.area).finish_touches
    refine ⟨_, step, ?_, fun j other => ?_, ?_, ?_, fun a other => ?_,
      .after ended (by decide) (.after counted (by decide) (begun.mono (by decide)))⟩
    · rw [entry?_finish, counted.entry?_eq (by decide), mine]
    · rw [entry?_finish, counted.entry?_eq (by decide), elsewhere j other]
    · rw [(ended .plantExpected (by decide) : _ = _), (counted .plantExpected (by decide) : _ = _),
        (unstaled .plantExpected (by decide) : _ = _), noted]
    · rw [(ended .duplicates (by decide) : _ = _), tally]
    · rw [(ended .duplicates (by decide) : _ = _), others a other]
end

section
/-! PROOFS. An alarm that is withdrawn stays withdrawn through the event (R94), and what an event has noted of an entry stays
noted (R62). -/

namespace Sys2Proof.Machine

/-- The alarm has no route, silence or deadline and is in no stack (R94). -/
def Withdrawn (n : Nat) (s : State) : Prop :=
  s.annRec n = ⟨[], [], none⟩ ∧ ∀ st, 1 ≤ st → st ≤ 16 → n ∉ s.stack st

theorem Withdrawn.of_touches {n : Nat} {l : List Part} {s t : State} (h : Withdrawn n s) (touched : Touches l s t)
    (hr : .recs ∉ l) (hs : .attnStacks ∉ l) : Withdrawn n t :=
  ⟨(touched.annRec_eq hr n).trans h.1, fun st low high => touched.stack_eq hs st ▸ h.2 st low high⟩

theorem Withdrawn.foldl {n : Nat} {α : Type} {f : State → α → State} {xs : List α}
    (step : ∀ s, ∀ x ∈ xs, Withdrawn n s → Withdrawn n (f s x)) : ∀ s, Withdrawn n s → Withdrawn n (xs.foldl f s) := by
  induction xs with
  | nil => exact fun _ h => h
  | cons x xs ih =>
    exact fun s h => ih (fun s y hy => step s y (List.mem_cons_of_mem _ hy)) _ (step s x List.mem_cons_self h)

namespace State

variable {s : State} {n : Nat}

/-! ### Withdrawal -/

theorem unstack_withdrawn (h : Withdrawn n s) (st m : Nat) : Withdrawn n (s.unstack st m) := by
  refine ⟨((unstack_touches s st m).annRec_eq (by decide) n).trans h.1, fun x low high => ?_⟩
  rw [stack_unstack]
  split
  case isTrue here => exact fun mem => h.2 st (here ▸ low) (here ▸ high) (List.mem_filter.mp mem).1
  case isFalse => exact h.2 x low high

theorem stack_unstackAll (s : State) (m : Nat) {st : Nat} (low : 1 ≤ st) (high : st ≤ 16) : m ∉ (s.unstackAll m).stack st := by
  have walk : ∀ (sts : List Nat) (u : State), (st ∈ sts ∨ m ∉ u.stack st) → m ∉ (sts.foldl (fun s x => s.unstack x m) u).stack st := by
    intro sts
    induction sts with
    | nil => exact fun u h => h.resolve_left (by simp)
    | cons x sts ih =>
      intro u h
      refine ih _ ?_
      rw [stack_unstack]
      by_cases here : st = x
      · exact .inr (by simp [here])
      · rw [if_neg here]
        exact h.imp_left (fun mem => (List.mem_cons.mp mem).resolve_left here)
  exact walk stationNumbers s (.inl (mem_stationNumbers.mpr ⟨low, high⟩))

theorem withdrawStacks_withdrawn_self (s : State) (n : Nat) : Withdrawn n (s.withdrawStacks n) :=
  ⟨by rw [annRec_withdrawStacks, if_pos rfl], fun st low high => by
    rw [withdrawStacks, (setAnnRec_touches _ n _).stack_eq (by decide)]
    exact s.stack_unstackAll n low high⟩

theorem withdrawStacks_withdrawn (h : Withdrawn n s) (m : Nat) : Withdrawn n (s.withdrawStacks m) := by
  have cleared : Withdrawn n (s.unstackAll m) := Withdrawn.foldl (fun s st _ h => unstack_withdrawn h st m) s h
  refine ⟨?_, fun st low high => ?_⟩
  · rw [annRec_withdrawStacks]
    split
    · rfl
    · exact h.1
  · rw [withdrawStacks, (setAnnRec_touches _ m _).stack_eq (by decide)]
    exact cleared.2 st low high

theorem sysReturn_withdrawn (h : Withdrawn n s) (m : Nat) : Withdrawn n (s.sysReturn m) := by
  unfold sysReturn
  split
  · exact h
  · split
    · exact h
    · split
      · exact (withdrawStacks_withdrawn h m).of_touches (dropEntry_touches _ m) (by decide) (by decide)
      · exact h.of_touches (setEntry_touches s m _) (by decide) (by decide)

theorem sysUpdate_withdrawn (h : Withdrawn n s) (m : Nat) (x : Subject) : Withdrawn n (s.sysUpdate m x) := by
  unfold sysUpdate
  split
  · exact h
  · split
    · exact h.of_touches (setEntry_touches s m _) (by decide) (by decide)
    · exact h

theorem overdueDown_withdrawn (h : Withdrawn n s) : Withdrawn n s.overdueDown := by
  have counted : Withdrawn n (s.withOverdue (s.ann.overdue - 1)) := h.of_touches (s.withOverdue_touches _) (by decide) (by decide)
  rw [overdueDown_eq]
  split
  · exact sysReturn_withdrawn counted 518
  · exact sysUpdate_withdrawn counted 518 _

/-- A withdrawal as it is: the stacks first, then the overdue count where the entry was overdue (R94, R102). -/
theorem withdraw_of_entry (s : State) {n : Nat} {e : Entry} (he : s.entry? n = some e) : s.withdraw n =
    if e.tag ≠ none ∧ e.ack = none ∧ e.stage = 2 then (s.withdrawStacks n).overdueDown else s.withdrawStacks n := by
  simp only [withdraw, he]

theorem withdraw_withdrawn_self (s : State) {n : Nat} {e : Entry} (he : s.entry? n = some e) : Withdrawn n (s.withdraw n) := by
  rw [s.withdraw_of_entry he]
  split
  · exact overdueDown_withdrawn (s.withdrawStacks_withdrawn_self n)
  · exact s.withdrawStacks_withdrawn_self n

theorem overflowTest_withdrawn (h : Withdrawn n s) : Withdrawn n s.overflowTest := by
  unfold overflowTest
  split
  · exact sysReturn_withdrawn (h.of_touches (t := { s with flood := { s.flood with overflow := false, subject := [] } })
      (l := [.overflow, .overflowSubject]) (by
        intro p hp
        cases p <;> first | rfl | exact ⟨rfl, rfl⟩ | exact absurd (by decide) hp) (by decide) (by decide)) 515
  · exact h

theorem undefer_withdrawn (h : Withdrawn n s) (m : Nat) : Withdrawn n (s.undefer m) := by
  unfold undefer
  split
  · exact h
  · have off : Withdrawn n (s.takenOff m) := overflowTest_withdrawn (h.of_touches (s.setDeferred_touches _) (by decide) (by decide))
    change Withdrawn n (if (s.takenOff m).deferredOf _ = [] then ((s.takenOff m).setRelease _ none).resolveItems _ namesSummary
      else s.takenOff m)
    split
    · exact (off.of_touches (setRelease_touches _ _ none) (by decide) (by decide)).of_touches (resolveItems_touches _ _ _)
        (by decide) (by decide)
    · exact off

theorem tableFullTest_withdrawn (h : Withdrawn n s) : Withdrawn n s.tableFullTest := by
  unfold tableFullTest
  split
  · exact sysReturn_withdrawn (h.of_touches (t := { s with alarm := { s.alarm with tableFull := false } })
      (l := [.tableFull]) (by
        intro p hp
        cases p <;> first | rfl | exact ⟨rfl, rfl⟩ | exact absurd (by decide) hp) (by decide) (by decide)) 514
  · exact h

theorem freeOrdinary_withdrawn (h : Withdrawn n s) (m : Nat) : Withdrawn n (s.freeOrdinary m) := by
  refine tableFullTest_withdrawn ((h.of_touches (dropEntry_touches s m) (by decide) (by decide)).of_touches (l := [.gens]) ?_
    (by decide) (by decide))
  intro p hp
  cases p <;> first | rfl | exact ⟨rfl, rfl⟩ | exact absurd (by decide) hp

/-! ### The end of the event -/

theorem leaveRoute_withdrawn (h : Withdrawn n s) (st : Nat) {m : Nat} (other : n ≠ m) : Withdrawn n (s.leaveRoute st m) := by
  have off := unstack_withdrawn h st m
  refine ⟨?_, fun x low high => ?_⟩
  · rw [leaveRoute, annRec_updAnnRec, if_neg other]
    exact off.1
  · rw [leaveRoute, (updAnnRec_touches _ m _).stack_eq (by decide)]
    exact off.2 x low high

theorem push_withdrawn (h : Withdrawn n s) (st : Nat) {m : Nat} (other : n ≠ m) : Withdrawn n (s.push st m) := by
  refine ⟨((push_touches s st m).annRec_eq (by decide) n).trans h.1, fun x low high => ?_⟩
  rw [push, stack_setStack]
  split
  case isTrue here =>
    rw [List.mem_append, List.mem_singleton]
    rintro (mem | same)
    · refine h.2 st (here ▸ low) (here ▸ high) ?_
      split at mem
      · exact List.mem_of_mem_tail mem
      · exact mem
    · exact other same
  case isFalse => exact h.2 x low high

theorem present_withdrawn (h : Withdrawn n s) (st : Nat) {m : Nat} (other : n ≠ m) : Withdrawn n (s.present st m) := by
  unfold present
  split
  · exact h
  · split
    · exact push_withdrawn h st other
    · exact h

theorem rerouteAt_withdrawn (h : Withdrawn n s) {news : List (Nat × NSet)} (off : ∀ p ∈ news, p.1 = n → p.2 = []) (st : Nat) :
    Withdrawn n (s.rerouteAt news st) := by
  refine Withdrawn.foldl (fun u p hp hu => present_withdrawn hu st (fun same => ?_)) _
    (Withdrawn.foldl (fun u p hp hu => leaveRoute_withdrawn hu st (fun same => ?_)) _ h)
  · obtain ⟨m, hm, found⟩ := List.mem_filterMap.mp (mem_sortBy hp)
    obtain ⟨q, hq, here⟩ := List.mem_map.mp hm
    obtain ⟨mem, joins⟩ := List.mem_filter.mp hq
    obtain ⟨e, -, made⟩ := Option.map_eq_some_iff.mp found
    rw [← made] at same
    have joins := of_decide_eq_true joins
    rw [off q mem (here.trans same.symm)] at joins
    exact absurd joins.2 (by simp)
  · obtain ⟨mem, leaves⟩ := List.mem_filter.mp hp
    have leaves := of_decide_eq_true leaves
    rw [← same, h.1] at leaves
    exact absurd leaves.1 (by simp)

theorem reroute_withdrawn (h : Withdrawn n s) (off : s.routeNow n = []) : Withdrawn n s.reroute := by
  have news : ∀ p ∈ s.alarm.entries.keys.map (fun m => (m, s.routeNow m)), p.1 = n → p.2 = [] := by
    intro p hp here
    obtain ⟨m, -, rfl⟩ := List.mem_map.mp hp
    have here : m = n := here
    show s.routeNow m = []
    rw [here]
    exact off
  refine Withdrawn.foldl (f := fun s (p : Nat × NSet) => s.updAnnRec p.1 (fun a => { a with route := p.2 })) (fun u p hp hu => ?_) _
    (Withdrawn.foldl (fun u st _ hu => rerouteAt_withdrawn hu news st) _ h)
  refine ⟨?_, fun st low high => by
    rw [(updAnnRec_touches u p.1 _).stack_eq (by decide)]
    exact hu.2 st low high⟩
  rw [annRec_updAnnRec]
  split
  case isTrue here => rw [← here, hu.1, news p hp here.symm]
  case isFalse => exact hu.1

theorem refillAll_withdrawn (h : Withdrawn n s) : Withdrawn n s.refillAll := by
  refine Withdrawn.foldl (f := refillAt) (fun u st _ hu => ?_) s h
  unfold refillAt
  split
  · exact hu
  case h_2 m e rest sorted =>
    split
    · refine push_withdrawn hu st (fun same => ?_)
      have waits := (List.mem_filter.mp (mem_sortBy (x := (m, e)) (sorted ▸ List.mem_cons_self))).2
      rw [Bool.and_eq_true, decide_eq_true_eq, ← same, hu.1] at waits
      exact absurd waits.2.1 (by simp)
    · exact hu

/-- R87, R91: what has no route is not routed, presented or refilled at the event's end. -/
theorem finish_withdrawn (h : Withdrawn n s) (off : s.routeNow n = []) : Withdrawn n s.finish := by
  obtain ⟨rec_, stacked⟩ := refillAll_withdrawn (reroute_withdrawn h off)
  exact ⟨rec_, stacked⟩

theorem routeNow_of_acked {e : Entry} (he : s.entry? n = some e) (acked : e.ack.isSome = true) : s.routeNow n = [] := by
  have quiet : e.sounding = false := by
    cases ack : e.ack with
    | none => simp [ack] at acked
    | some a => simp [Entry.sounding, ack]
  simp [routeNow, he, quiet]

/-! ### What an event has noted -/

theorem touch_notes (s : State) (m : Nat) {x : Touch} (h : x ∈ s.ev.touched) : x ∈ (s.touch m).ev.touched := by
  unfold touch
  split
  · exact h
  · exact List.mem_append_left _ h

theorem setEntry_notes (s : State) (m : Nat) (e : Entry) {x : Touch} (h : x ∈ s.ev.touched) : x ∈ (s.setEntry m e).ev.touched := by
  show x ∈ (s.touchIfChanged m e).ev.touched
  unfold touchIfChanged
  split
  · exact h
  · exact s.touch_notes m h

theorem updEntry_notes (s : State) (m : Nat) (f : Entry → Entry) {x : Touch} (h : x ∈ s.ev.touched) :
    x ∈ (s.updEntry m f).ev.touched := by
  unfold updEntry
  split
  · exact h
  · exact s.setEntry_notes m _ h

/-- R59, R62: what a dropped entry's note goes as. -/
def noteGone (m : Nat) (gone : Announce) (x : Touch) : Touch :=
  if x.num = m ∧ x.gone = none then { x with gone := some gone } else x

theorem dropEntry_touched (s : State) {m : Nat} {e : Entry} (he : s.entry? m = some e) :
    (s.dropEntry m).ev.touched = (s.touch m).ev.touched.map (noteGone m ⟨s.refOf m, true, e.shown⟩) := by
  simp only [dropEntry, he]
  rfl

theorem dropEntry_notes (s : State) (m : Nat) {x : Touch} (h : x ∈ s.ev.touched) (other : ¬ (x.num = m ∧ x.gone = none)) :
    x ∈ (s.dropEntry m).ev.touched := by
  cases he : s.entry? m with
  | none => simpa only [dropEntry, he] using h
  | some e =>
    rw [s.dropEntry_touched he]
    exact List.mem_map.mpr ⟨x, s.touch_notes m h, if_neg other⟩

theorem unstackAll_touched (s : State) (m : Nat) : (s.unstackAll m).ev.touched = s.ev.touched := by
  unfold unstackAll
  induction stationNumbers generalizing s with
  | nil => rfl
  | cons st sts ih => exact (ih _).trans (s.silence_ev st m).1

theorem withdrawStacks_touched (s : State) (m : Nat) : (s.withdrawStacks m).ev.touched = s.ev.touched := by
  rw [← s.unstackAll_touched m]
  unfold withdrawStacks
  generalize s.unstackAll m = u
  rfl

theorem sysReturn_notes (s : State) (m : Nat) {x : Touch} (h : x ∈ s.ev.touched) (other : ¬ (x.num = m ∧ x.gone = none)) :
    x ∈ (s.sysReturn m).ev.touched := by
  have off : x ∈ (s.withdrawStacks m).ev.touched := by rwa [withdrawStacks_touched]
  unfold sysReturn
  split
  · exact h
  · split
    · exact h
    · split
      · rw [sysRemove]
        exact dropEntry_notes _ m off other
      · exact s.setEntry_notes m _ h

theorem sysUpdate_notes (s : State) (m : Nat) (y : Subject) {x : Touch} (h : x ∈ s.ev.touched) :
    x ∈ (s.sysUpdate m y).ev.touched := by
  unfold sysUpdate
  split
  · exact h
  · split
    · exact s.setEntry_notes m _ h
    · exact h

theorem overdueDown_notes (s : State) {x : Touch} (h : x ∈ s.ev.touched) (other : ¬ (x.num = 518 ∧ x.gone = none)) :
    x ∈ s.overdueDown.ev.touched := by
  have counted : x ∈ (s.withOverdue (s.ann.overdue - 1)).ev.touched := h
  rw [overdueDown_eq]
  split
  · exact sysReturn_notes _ 518 counted other
  · exact sysUpdate_notes _ 518 _ counted

theorem withdraw_notes (s : State) (m : Nat) {x : Touch} (h : x ∈ s.ev.touched) (other : ¬ (x.num = 518 ∧ x.gone = none)) :
    x ∈ (s.withdraw m).ev.touched := by
  unfold withdraw
  split
  · exact h
  · have off : x ∈ (s.withdrawStacks m).ev.touched := by rwa [withdrawStacks_touched]
    dsimp only
    split
    · exact overdueDown_notes _ off other
    · exact off

theorem undefer_notes (s : State) (m : Nat) {x : Touch} (h : x ∈ s.ev.touched) (other : ¬ (x.num = 515 ∧ x.gone = none)) :
    x ∈ (s.undefer m).ev.touched := by
  cases found : s.flood.deferred.find? (fun d => decide (d.ref.num = m)) with
  | none => simp only [undefer, found]; exact h
  | some d =>
    have off : x ∈ (s.takenOff m).ev.touched := by
      unfold takenOff overflowTest
      split
      · exact sysReturn_notes _ 515 h other
      · exact h
    rw [s.undefer_of_listed found]
    split
    · rw [resolveItems_touched]
      exact off
    · exact off

/-- R59, R62: the entry that is dropped is noted as it stood before the event and as it goes. -/
theorem dropEntry_notes_self (s : State) {m : Nat} {e : Entry} {before : Option Entry} (he : s.entry? m = some e)
    (h : ⟨m, before, none⟩ ∈ s.ev.touched) :
    (⟨m, before, some ⟨s.refOf m, true, e.shown⟩⟩ : Touch) ∈ (s.dropEntry m).ev.touched := by
  rw [s.dropEntry_touched he]
  exact List.mem_map.mpr ⟨_, s.touch_notes m h, if_pos ⟨rfl, rfl⟩⟩

theorem tableFullTest_notes (s : State) {x : Touch} (h : x ∈ s.ev.touched) (other : ¬ (x.num = 514 ∧ x.gone = none)) :
    x ∈ s.tableFullTest.ev.touched := by
  unfold tableFullTest
  split
  · exact sysReturn_notes _ 514 h other
  · exact h

/-- R62: a removal noted of an entry that was seen is announced to every UP station. -/
theorem removal_announced (s : State) {m : Nat} {e : Entry} {a : Announce} (seen : e.hidden = false)
    (h : (⟨m, some e, some a⟩ : Touch) ∈ s.ev.touched) {st : Nat} (low : 1 ≤ st) (high : st ≤ 16) (up : s.isUp st = true) :
    s.outTo st (.announce a) ∈ s.finish.sent := by
  have drawn : s.announceOf ⟨m, some e, some a⟩ = some a := by simp [announceOf, seen]
  have listed : s.outTo st (.announce a) ∈ s.announces :=
    List.mem_flatMap.mpr ⟨a, List.mem_filterMap.mpr ⟨_, h, drawn⟩,
      List.mem_map_of_mem (List.mem_filter.mpr ⟨mem_stationNumbers.mpr ⟨low, high⟩, up⟩)⟩
  simp only [finish, List.mem_append]
  exact .inl (.inl (.inl (.inr listed)))

end State

end Sys2Proof.Machine
end

section
/-! PROOFS. An accepted acknowledgement (R55 to R59, R94, R102). -/

namespace Sys2Proof.Machine

/-- The overdue count and OVERDUE ALARM are all that a fall of the count reads and changes. -/
theorem OverdueFell.of_same {s s' t t' : State} (h : OverdueFell s' t') (before : s'.ann.overdue = s.ann.overdue)
    (alarm : s'.entry? 518 = s.entry? 518) (mill : s'.time.mill = s.time.mill) (after : t.ann.overdue = t'.ann.overdue)
    (alarm' : t.entry? 518 = t'.entry? 518) : OverdueFell s t := by
  unfold OverdueFell at h ⊢
  rwa [after, alarm', ← before, ← alarm, ← mill]

namespace State

variable {s : State} {n : Nat} {e : Entry}

theorem overdueDown_fell (s : State) : OverdueFell s s.overdueDown := by
  have count : s.overdueDown.ann.overdue = s.ann.overdue - 1 := by
    rw [overdueDown_eq]
    split
    · exact sysReturn_touches _ 518 .overdue (by decide)
    · exact sysUpdate_touches _ 518 _ .overdue (by decide)
  refine ⟨count, fun e he active => ⟨fun more => ?_, fun last => ?_⟩⟩
  · rw [overdueDown_eq, if_neg (by omega), entry?_sysUpdate_self, (withOverdue_touches s _).entry?_eq (by decide), he,
      Option.map_some, if_pos active]
  · rw [overdueDown_eq, if_pos (by omega), entry?_sysReturn_self, (withOverdue_touches s _).entry?_eq (by decide), he,
      Option.bind_some, returnedAlarm, active]
    rfl

/-! ### The alarm is acknowledged -/

/-- R57 steps 1 and 2: the alarm is withdrawn and carries the acknowledgement. -/
def acking (s : State) (n op : Nat) : State :=
  ((s.touch n).withdraw n).updEntry n (fun e => { e with ack := some ⟨s.time.mill, op⟩ })

/-- R57 step 3: an ACTIVE entry that was DEFERRED leaves the Deferred List. -/
def acked (s : State) (n op : Nat) (e : Entry) : State :=
  if e.disp = .deferred then ((s.acking n op).undefer n).updEntry n (fun e => { e with disp := .annunciated })
  else s.acking n op

theorem entry?_acking_self (he : s.entry? n = some e) (tagged : n = 518 → e.tag = none) (op : Nat) :
    (s.acking n op).entry? n = some { e with ack := some ⟨s.time.mill, op⟩ } := by
  have noted : (s.touch n).entry? n = some e := ((s.touch_touches n).entry?_eq (by decide) n).trans he
  rw [acking, entry?_updEntry, if_pos rfl, entry?_withdraw_self _ noted tagged]
  rfl

theorem entry?_acking_ne (op : Nat) {m : Nat} (other : m ≠ n) (h : m ≠ 518) : (s.acking n op).entry? m = s.entry? m := by
  rw [acking, entry?_updEntry, if_neg other, entry?_withdraw_ne _ n h, (s.touch_touches n).entry?_eq (by decide)]

theorem acking_withdrawn (he : s.entry? n = some e) (op : Nat) : Withdrawn n (s.acking n op) :=
  (withdraw_withdrawn_self _ (((s.touch_touches n).entry?_eq (by decide) n).trans he)).of_touches (updEntry_touches _ n _)
    (by decide) (by decide)

theorem acking_touches (s : State) (n op : Nat) : Touches (.overdue :: sysParts) s (s.acking n op) :=
  .after (updEntry_touches _ n _) (by decide) (.after (withdraw_touches _ n) (by decide) ((s.touch_touches n).mono (by decide)))

theorem touch_notes_self (s : State) (quiet : s.ev.touched = []) (n : Nat) :
    (⟨n, s.entry? n, none⟩ : Touch) ∈ (s.touch n).ev.touched := by
  simp [touch, quiet]

/-- The entry as the event finds it is noted before anything changes (R62). -/
theorem acking_notes (s : State) (quiet : s.ev.touched = []) {n : Nat} (low : n < 512) (op : Nat) :
    (⟨n, s.entry? n, none⟩ : Touch) ∈ (s.acking n op).ev.touched := by
  have noted := s.touch_notes_self quiet n
  exact updEntry_notes _ n _ (withdraw_notes _ n noted (fun h => absurd (show n = 518 from h.1) (by omega)))

/-- R94, R102: what an acknowledgement of an unacknowledged ordinary entry does to the overdue count. -/
theorem acking_overdue (he : s.entry? n = some e) (low : n < 512) (tagged : e.tag ≠ none) (unacked : e.ack = none) (op : Nat) :
    (e.stage = 2 → OverdueFell s (s.acking n op)) ∧
      (e.stage ≠ 2 → (s.acking n op).ann.overdue = s.ann.overdue ∧ (s.acking n op).entry? 518 = s.entry? 518) := by
  have touched := s.touch_touches n
  have noted : (s.touch n).entry? n = some e := (touched.entry?_eq (by decide) n).trans he
  have offStacks := (s.touch n).withdrawStacks_touches n
  have count (w : State) : (w.updEntry n (fun e => { e with ack := some ⟨s.time.mill, op⟩ })).ann.overdue = w.ann.overdue :=
    updEntry_touches w n _ .overdue (by decide)
  have alarm (w : State) : (w.updEntry n (fun e => { e with ack := some ⟨s.time.mill, op⟩ })).entry? 518 = w.entry? 518 := by
    rw [entry?_updEntry, if_neg (by omega)]
  have first : ((s.touch n).withdrawStacks n).ann.overdue = s.ann.overdue :=
    (offStacks .overdue (by decide) : _ = _).trans (touched .overdue (by decide))
  have first' : ((s.touch n).withdrawStacks n).entry? 518 = s.entry? 518 :=
    (offStacks.entry?_eq (by decide) 518).trans (touched.entry?_eq (by decide) 518)
  rw [acking, withdraw_of_entry _ noted]
  refine ⟨fun two => ?_, fun other => ?_⟩
  · rw [if_pos ⟨tagged, unacked, two⟩]
    exact (overdueDown_fell _).of_same first first' ((offStacks.mill_eq (by decide)).trans (touched.mill_eq (by decide)))
      (count _) (alarm _)
  · rw [if_neg (fun h => other h.2.2)]
    exact ⟨(count _).trans first, (alarm _).trans first'⟩

theorem acknowledge_of_active (he : s.entry? n = some e) (active : e.active = true) (op : Nat) :
    s.acknowledge n op = (s.acked n op e).relayFor e op := by
  simp only [acknowledge, he, active, acked, acking, Bool.not_true, Bool.false_eq_true, if_false]

theorem acknowledge_of_returned (he : s.entry? n = some e) (returned : e.active = false) (op : Nat) : s.acknowledge n op =
    (if e.tag = none then (s.acking n op).sysRemove n else (s.acking n op).removeEntry n).relayFor e op := by
  simp only [acknowledge, he, returned, acking, Bool.not_false, if_true]

/-! ### An ACTIVE entry -/

theorem entry?_acked_self (he : s.entry? n = some e) (low : n < 512) (op : Nat) : (s.acked n op e).entry? n =
    some { e with ack := some ⟨s.time.mill, op⟩, disp := if e.disp = .deferred then .annunciated else e.disp } := by
  have here := entry?_acking_self he (fun h => absurd h (by omega)) op
  unfold acked
  split
  case isTrue deferred => rw [entry?_updEntry, if_pos rfl, entry?_undefer_ne _ n (by omega), here]; rfl
  case isFalse => exact here

theorem entry?_acked_ne (op : Nat) {m : Nat} (other : m ≠ n) (h : m ≠ 515) :
    (s.acked n op e).entry? m = (s.acking n op).entry? m := by
  unfold acked
  split
  · rw [entry?_updEntry, if_neg other, entry?_undefer_ne _ n h]
  · rfl

theorem acked_withdrawn (he : s.entry? n = some e) (op : Nat) : Withdrawn n (s.acked n op e) := by
  have off := acking_withdrawn he op
  unfold acked
  split
  · exact (undefer_withdrawn off n).of_touches (updEntry_touches _ n _) (by decide) (by decide)
  · exact off

theorem acked_touches_acking (s : State) (n op : Nat) (e : Entry) : Touches departureParts (s.acking n op) (s.acked n op e) := by
  unfold acked
  split
  · exact .after (updEntry_touches _ n _) (by decide) (undefer_touches _ n)
  · exact .mono (.refl _ _) (List.nil_subset _)

theorem acked_deferred (op : Nat) (deferred : e.disp = .deferred) : ∀ d ∈ (s.acked n op e).flood.deferred, d.ref.num ≠ n := by
  have list : (s.acked n op e).flood.deferred = ((s.acking n op).undefer n).flood.deferred := by
    rw [acked, if_pos deferred]
    exact updEntry_touches _ n _ .deferred (by decide)
  rw [list, undefer_deferred]
  exact fun d hd => of_decide_eq_true (List.mem_filter.mp hd).2

/-- R58: the relay of an acknowledgement is said where the tag's record asks for it and the plant link carries it. -/
theorem relayFor_said (s : State) {tag cond op : Nat} {q : TagRec} (tagged : e.tag = some tag) (condition : e.cond = some cond)
    (record : s.tagRec? tag = some q) (relay : q.ackRelay = true) (start : s.plant.link ≠ .start) (lost : s.plant.link ≠ .lost) :
    .plant (.ackRelay tag cond (s.badgeOf op) s.time.mill) ∈ (s.relayFor e op).said := by
  simp only [relayFor, tagged, condition, record, Option.map_some, Option.getD_some, relay, if_true, relayAck, start, lost,
    or_self, if_false]
  exact (said_say _ _).mpr (.inr (List.mem_singleton.mpr rfl))

/-! ### A RETURNED entry -/

theorem removeEntry_of_inactive (he : s.entry? n = some e) (inactive : e.active = false) : s.removeEntry n = s.departed n e := by
  rw [removeEntry_of_entry _ he, inactive]
  rfl

/-- R59, R62: an entry that the event has noted goes noted with what it showed last. -/
theorem departed_notes (s : State) {n : Nat} {e : Entry} {before : Option Entry} (he : s.entry? n = some e) (low : n < 512)
    (noted : (⟨n, before, none⟩ : Touch) ∈ s.ev.touched) :
    (⟨n, before, some ⟨s.refOf n, true, e.shown⟩⟩ : Touch) ∈ (s.departed n e).ev.touched := by
  have parts : Touches (.overdue :: departureParts) s (((s.undefer n).withdraw n).resolveItems e.area (namesAlarm (s.refOf n))) :=
    .after (resolveItems_touches _ _ _) (by decide) (.after (withdraw_touches _ n) (by decide) ((undefer_touches _ n).mono (by decide)))
  have kept : (((s.undefer n).withdraw n).resolveItems e.area (namesAlarm (s.refOf n))).entry? n = some e := by
    rw [(resolveItems_touches _ _ _).entry?_eq (by decide), entry?_withdraw_ne _ n (by omega), entry?_undefer_ne _ n (by omega), he]
  have stillNoted : (⟨n, before, none⟩ : Touch) ∈
      (((s.undefer n).withdraw n).resolveItems e.area (namesAlarm (s.refOf n))).ev.touched := by
    rw [resolveItems_touched]
    exact withdraw_notes _ n (undefer_notes s n noted (fun h => absurd (show n = 515 from h.1) (by omega)))
      (fun h => absurd (show n = 518 from h.1) (by omega))
  have gone := dropEntry_notes_self _ kept stillNoted
  rw [parts.refOf_eq (by decide)] at gone
  refine tableFullTest_notes _ ?_ (fun h => absurd h.2 (by simp))
  exact gone

theorem departed_withdrawn (he : s.entry? n = some e) (low : n < 512) : Withdrawn n (s.departed n e) := by
  have kept : (s.undefer n).entry? n = some e := by rw [entry?_undefer_ne _ n (by omega), he]
  exact freeOrdinary_withdrawn ((withdraw_withdrawn_self _ kept).of_touches (resolveItems_touches _ _ _) (by decide) (by decide)) n

/-- A removal of an acknowledged entry leaves the overdue count alone. -/
theorem departed_overdue (he : s.entry? n = some e) (low : n < 512) (acked : e.ack ≠ none) :
    (s.departed n e).ann.overdue = s.ann.overdue ∧ (s.departed n e).entry? 518 = s.entry? 518 := by
  have kept : (s.undefer n).entry? n = some e := by rw [entry?_undefer_ne _ n (by omega), he]
  have off : (s.undefer n).withdraw n = (s.undefer n).withdrawStacks n := by
    rw [withdraw_of_entry _ kept, if_neg (fun h => acked h.2.1)]
  have freed := freeOrdinary_touches (((s.undefer n).withdraw n).resolveItems e.area (namesAlarm (s.refOf n))) n
  have before : Touches departureParts s (((s.undefer n).withdraw n).resolveItems e.area (namesAlarm (s.refOf n))) := by
    rw [off]
    exact .after (resolveItems_touches _ _ _) (by decide) (.after (withdrawStacks_touches _ n) (by decide) (undefer_touches _ n))
  refine ⟨(freed .overdue (by decide) : _ = _).trans (before .overdue (by decide)), ?_⟩
  have alarm : ((((s.undefer n).withdraw n).resolveItems e.area (namesAlarm (s.refOf n))).dropEntry n).entry? 518 = s.entry? 518 := by
    rw [entry?_dropEntry, if_neg (by omega), (resolveItems_touches _ _ _).entry?_eq (by decide), off,
      (withdrawStacks_touches _ n).entry?_eq (by decide), entry?_undefer_ne _ n (by decide)]
  rw [departed, freeOrdinary, entry?_tableFullTest_ne _ (by decide)]
  exact alarm

/-! ### The request -/

/-- R55's checks of an ACK that is accepted. -/
theorem takeAck_of_fits {st g op : Nat} (logged : s.logonAt st = some op) (he : s.entry? n = some e) (high : n ≤ 520)
    (current : s.gen n = g) (unacked : e.ack = none) (may : s.responsible op st e = true) :
    s.takeAck st ⟨n, g⟩ 0 = (s.acknowledge n op, ans .done) := by
  have range : ¬ Config.lastEntry < n := Nat.not_lt.mpr high
  simp [takeAck, logged, he, range, current, unacked, may]

theorem takeAck_of_irresponsible {st g op : Nat} (logged : s.logonAt st = some op) (he : s.entry? n = some e) (high : n ≤ 520)
    (current : s.gen n = g) (unacked : e.ack = none) (may : s.responsible op st e = false) :
    s.takeAck st ⟨n, g⟩ 0 = (s, ans .notResponsible) := by
  have range : ¬ Config.lastEntry < n := Nat.not_lt.mpr high
  simp [takeAck, logged, he, range, current, unacked, may]

/-- R42: system alarms have generation 0. -/
theorem gen_of_system (s : State) (h : 512 ≤ n) : s.gen n = 0 := if_neg (Nat.not_lt.mpr h)

/-- R94: what is withdrawn when the relay is decided is withdrawn when the request is answered. -/
theorem answered_withdrawn (h : Hdr) (a : Ans) (op : Nat) (off : Withdrawn n s)
    (silent : ∀ f, s.entry? n = some f → f.ack.isSome = true) : Withdrawn n ((s.relayFor e op).finish.answer h a) := by
  have relayed := s.relayFor_touches e op
  refine ((finish_withdrawn (off.of_touches relayed (by decide) (by decide)) ?_).of_touches (answer_touches _ h a)
    (by decide) (by decide))
  cases here : s.entry? n with
  | none => simp [routeNow, relayed.entry?_eq (by decide), here]
  | some f => exact routeNow_of_acked ((relayed.entry?_eq (by decide) n).trans here) (silent f here)

theorem entry?_answered (h : Hdr) (a : Ans) (op m : Nat) : ((s.relayFor e op).finish.answer h a).entry? m = s.entry? m :=
  (entry?_finish_answer _ h a m).trans ((s.relayFor_touches e op).entry?_eq (by decide) m)

theorem answered_touches (s : State) (e : Entry) (h : Hdr) (a : Ans) (op : Nat) :
    Touches (([.countersB, .said .relay, .said .answer] : List Part) ++ endParts) s ((s.relayFor e op).finish.answer h a) :=
  .after (finish_answer_eq _ h a) (by decide) ((s.relayFor_touches e op).mono (by decide))

theorem relayFor_touched (s : State) (e : Entry) (op : Nat) : (s.relayFor e op).ev.touched = s.ev.touched := by
  unfold relayFor relayAck
  split
  · split
    · split <;> rfl
    · rfl
  · rfl

/-- R62: the removal that an acknowledgement noted is announced. -/
theorem ack_announced {u w : State} {l : List Part} {f : Entry} {a : Announce} (acting : Touches l u w) (hk : .link ∉ l)
    (hs : .stations ∉ l) (seen : e.hidden = false) (noted : (⟨n, some e, some a⟩ : Touch) ∈ w.ev.touched) (h : Hdr) (x : Ans)
    (op : Nat) {st : Nat} (low : 1 ≤ st) (high : st ≤ 16) (up : u.isUp st = true) :
    u.outTo st (.announce a) ∈ ((w.relayFor f op).finish.answer h x).sent := by
  have relayed := w.relayFor_touches f op
  rw [← w.relayFor_touched f op] at noted
  have told := removal_announced _ seen noted low high
    ((relayed.isUp_eq (by decide) st).trans ((acting.isUp_eq hk st).trans up))
  rw [relayed.outTo_eq (by decide), acting.outTo_eq hs] at told
  exact mem_sent_answer _ told

/-! ### A system alarm -/

theorem acking_of_untagged (he : s.entry? n = some e) (untagged : e.tag = none) (op : Nat) : s.acking n op =
    ((s.touch n).withdrawStacks n).updEntry n (fun e => { e with ack := some ⟨s.time.mill, op⟩ }) := by
  rw [acking, withdraw_of_entry _ (((s.touch_touches n).entry?_eq (by decide) n).trans he), if_neg (fun h => h.1 untagged)]

theorem acking_of_untagged_touches (he : s.entry? n = some e) (untagged : e.tag = none) (op : Nat) :
    Touches sysParts s (s.acking n op) := by
  rw [acking_of_untagged he untagged op]
  exact .after (updEntry_touches _ n _) (by decide) (.after (withdrawStacks_touches _ n) (by decide) ((s.touch_touches n).mono (by decide)))

theorem entry?_acking_of_untagged (he : s.entry? n = some e) (untagged : e.tag = none) (op m : Nat) :
    (s.acking n op).entry? m = if m = n then some { e with ack := some ⟨s.time.mill, op⟩ } else s.entry? m := by
  split
  case isTrue here => rw [here]; exact entry?_acking_self he (fun _ => untagged) op
  case isFalse other =>
    rw [acking_of_untagged he untagged op, entry?_updEntry, if_neg other, (withdrawStacks_touches _ n).entry?_eq (by decide),
      (s.touch_touches n).entry?_eq (by decide)]

theorem sysRemove_withdrawn_self (s : State) (n : Nat) : Withdrawn n (s.sysRemove n) := by
  rw [sysRemove]
  exact (s.withdrawStacks_withdrawn_self n).of_touches (dropEntry_touches _ n) (by decide) (by decide)

/-- R59, R62: a system alarm that an acknowledgement frees goes noted with what it showed last. -/
theorem sysRemove_acking_notes (quiet : s.ev.touched = []) (he : s.entry? n = some e) (high : 512 ≤ n) (untagged : e.tag = none)
    (op : Nat) : (⟨n, some e, some ⟨⟨n, 0⟩, true, { e with ack := some ⟨s.time.mill, op⟩, confirmed := false }⟩⟩ : Touch) ∈
      ((s.acking n op).sysRemove n).ev.touched := by
  have noted : (⟨n, some e, none⟩ : Touch) ∈ ((s.acking n op).withdrawStacks n).ev.touched := by
    rw [withdrawStacks_touched, acking_of_untagged he untagged op]
    refine updEntry_notes _ n _ ?_
    rw [withdrawStacks_touched]
    exact he ▸ s.touch_notes_self quiet n
  have kept : ((s.acking n op).withdrawStacks n).entry? n = some { e with ack := some ⟨s.time.mill, op⟩ } := by
    rw [(withdrawStacks_touches _ n).entry?_eq (by decide), entry?_acking_of_untagged he untagged op n, if_pos rfl]
  have gone := dropEntry_notes_self _ kept noted
  rw [refOf, gen_of_system _ high] at gone
  rw [sysRemove]
  exact gone

end State

open State

/-- R57: an ACK of an ACTIVE ordinary entry. -/
theorem exec_ack_of_active {s : State} {h : Hdr} {r : Ref} {e : Entry} {op tag cond : Nat} (taken : Taken s h)
    (logged : s.logonAt h.station = some op) (low : r.num < 512) (he : s.entry? r.num = some e) (current : s.gen r.num = r.gen)
    (tagged : e.tag = some tag) (condition : e.cond = some cond) (unacked : e.ack = none) (active : e.active = true)
    (may : (arrived s h).responsible op h.station e = true) :
    ∃ t, exec (.ack h r 0) s = .next t ∧
        t.entry? r.num = some { e with
          ack := some ⟨s.time.mill, op⟩, disp := if e.disp = .deferred then .annunciated else e.disp } ∧
        t.annRec r.num = ⟨[], [], none⟩ ∧ (∀ st, 1 ≤ st → st ≤ 16 → r.num ∉ t.stack st) ∧
        (e.disp = .deferred → ∀ d ∈ t.flood.deferred, d.ref.num ≠ r.num) ∧ (e.stage = 2 → OverdueFell s t) ∧
        (e.stage ≠ 2 → t.ann.overdue = s.ann.overdue ∧ t.entry? 518 = s.entry? 518) ∧
        (∀ j, j < 512 → j ≠ r.num → t.entry? j = s.entry? j) ∧
        (∀ q, s.tagRec? tag = some q → q.ackRelay = true → s.plant.link ≠ .start → s.plant.link ≠ .lost →
          .plant (.ackRelay tag cond (s.badgeOf op) s.time.mill) ∈ t.sent) ∧
        Answered t h (ans .done) ∧
        Touches (([.entries, .recs, .attnStacks, .overdue, .deferred, .release, .overflow, .overflowSubject, .handover,
          .countersB, .said .relay, .said .answer] : List Part) ++ endParts) (arrived s h) t := by
  have touched := arrived_touches s h
  have ordinary (j : Nat) (low : j < 512) : (arrived s h).entry? j = s.entry? j := entry?_arrived s h low
  have alarm : (arrived s h).entry? 518 = s.entry? 518 := entry?_admitFrame_ne s.fresh h.station (by decide) (by decide)
  generalize arriving : arrived s h = u at touched may ordinary alarm ⊢
  have found : u.entry? r.num = some e := (ordinary _ low).trans he
  have mill : u.time.mill = s.time.mill := touched.mill_eq (by decide)
  have count : u.ann.overdue = s.ann.overdue := (touched .overdue (by decide) : _ = _)
  have done : u.takeAck h.station r 0 = ((u.acked r.num op e).relayFor e op, ans .done) := by
    rw [← acknowledge_of_active found active]
    exact takeAck_of_fits ((touched.logonAt_eq (by decide) _).trans logged) found (by omega)
      ((touched.gen_eq (by decide) _).trans current) unacked may
  have acting : Touches (.overdue :: departureParts) u (u.acked r.num op e) :=
    .after (u.acked_touches_acking r.num op e) (by decide) ((u.acking_touches r.num op).mono (by decide))
  obtain ⟨stepped, answered, within⟩ := requestEvent_carriedOut (i := .ack h r 0)
    (l' := ([.entries, .recs, .attnStacks, .overdue, .deferred, .release, .overflow, .overflowSubject, .handover,
          .countersB, .said .relay, .said .answer] : List Part) ++ endParts) taken rfl arriving done rfl
    (.after (relayFor_touches _ e op) (by decide) (acting.mono (l' := .countersB :: .said .relay :: .overdue :: departureParts) (by decide)))
    (by decide) (by decide)
  have ended := (u.acked r.num op e).answered_touches e h (ans .done) op
  have here := entry?_acked_self found low op
  obtain ⟨fell, stands⟩ := acking_overdue found low (by simp [tagged]) unacked op
  have same : ((u.acked r.num op e)).ann.overdue = (u.acking r.num op).ann.overdue :=
    u.acked_touches_acking r.num op e .overdue (by decide)
  have same' : (u.acked r.num op e).entry? 518 = (u.acking r.num op).entry? 518 :=
    entry?_acked_ne op (by omega) (by decide)
  refine ⟨_, stepped, ?_, (answered_withdrawn h _ op (acked_withdrawn found op) ?_).1,
    (answered_withdrawn h _ op (acked_withdrawn found op) ?_).2, fun deferred => ?_, fun two => ?_, fun other => ?_,
    fun j low' other => ?_, fun q record relay start lost => ?_, answered, within⟩
  · rw [entry?_answered, here, mill]
  · intro f hf
    cases here.symm.trans hf
    rfl
  · intro f hf
    cases here.symm.trans hf
    rfl
  · rw [(ended .deferred (by decide) : _ = _)]
    exact acked_deferred op deferred
  · exact (fell two).of_same count alarm mill ((ended .overdue (by decide) : _ = _).trans same) ((entry?_answered h _ op 518).trans same')
  · obtain ⟨kept, kept'⟩ := stands other
    exact ⟨(ended .overdue (by decide) : _ = _).trans (same.trans (kept.trans count)),
      (entry?_answered h _ op 518).trans (same'.trans (kept'.trans alarm))⟩
  · rw [entry?_answered, entry?_acked_ne op other (by omega), entry?_acking_ne op other (by omega), ordinary j low']
  · have link : u.plant.link = s.plant.link := touched .plantLink (by decide)
    have link' : (u.acked r.num op e).plant.link = u.plant.link := acting .plantLink (by decide)
    have relayed := relayFor_said (u.acked r.num op e) (op := op) tagged condition
      ((acting.tagRec?_eq (by decide) tag).trans ((touched.tagRec?_eq (by decide) tag).trans record)) relay
      (by rw [link', link]; exact start) (by rw [link', link]; exact lost)
    rw [acting.badgeOf_eq (by decide), touched.badgeOf_eq (by decide), acting.mill_eq (by decide), mill] at relayed
    exact mem_sent_answer _ (mem_sent_finish _ relayed rfl)

/-- R57, R59: an ACK of a RETURNED ordinary entry. -/
theorem exec_ack_of_returned {s : State} {h : Hdr} {r : Ref} {e : Entry} {op tag : Nat} (taken : Taken s h)
    (logged : s.logonAt h.station = some op) (low : r.num < 512) (he : s.entry? r.num = some e) (current : s.gen r.num = r.gen)
    (tagged : e.tag = some tag) (unacked : e.ack = none) (returned : e.active = false)
    (may : (arrived s h).responsible op h.station e = true) :
    ∃ t, exec (.ack h r 0) s = .next t ∧ t.entry? r.num = none ∧ t.gen r.num = (r.gen + 1) % 65536 ∧
        (e.stage = 2 → OverdueFell s t) ∧
        (e.stage ≠ 2 → t.ann.overdue = s.ann.overdue ∧ t.entry? 518 = s.entry? 518) ∧
        (∀ st, 1 ≤ st → st ≤ 16 → r.num ∉ t.stack st) ∧ (∀ j, j < 512 → j ≠ r.num → t.entry? j = s.entry? j) ∧
        (e.hidden = false → ∀ st, 1 ≤ st → st ≤ 16 → (arrived s h).isUp st = true →
          s.outTo st (.announce ⟨r, true, { e with ack := some ⟨s.time.mill, op⟩, confirmed := false }⟩) ∈ t.sent) ∧
        Answered t h (ans .done) ∧
        Touches (([.entries, .gens, .tableFull, .recs, .attnStacks, .overdue, .deferred, .release, .overflow,
          .overflowSubject, .handover, .countersB, .said .relay, .said .answer] : List Part) ++ endParts)
            (arrived s h) t := by
  have touched := arrived_touches s h
  have quiet : (arrived s h).ev.touched = [] := by rw [arrived_ev s h]; rfl
  have ordinary (j : Nat) (low : j < 512) : (arrived s h).entry? j = s.entry? j := entry?_arrived s h low
  have alarm : (arrived s h).entry? 518 = s.entry? 518 := entry?_admitFrame_ne s.fresh h.station (by decide) (by decide)
  generalize arriving : arrived s h = u at touched may ordinary alarm quiet ⊢
  have found : u.entry? r.num = some e := (ordinary _ low).trans he
  have mill : u.time.mill = s.time.mill := touched.mill_eq (by decide)
  have count : u.ann.overdue = s.ann.overdue := (touched .overdue (by decide) : _ = _)
  have gen : u.gen r.num = r.gen := (touched.gen_eq (by decide) _).trans current
  have acking := u.acking_touches r.num op
  have here := entry?_acking_self found (fun h => absurd h (by omega)) op
  generalize made : ({ e with ack := some ⟨u.time.mill, op⟩ } : Entry) = f at here
  have acked : f.ack ≠ none := by simp [← made]
  have done : u.takeAck h.station r 0 = ((((u.acking r.num op).departed r.num f).relayFor e op), ans .done) := by
    have removed : u.acknowledge r.num op = ((u.acking r.num op).departed r.num f).relayFor e op := by
      rw [acknowledge_of_returned found returned, if_neg (by simp [tagged]),
        removeEntry_of_inactive here (by rw [← made]; exact returned)]
    rw [← removed]
    exact takeAck_of_fits ((touched.logonAt_eq (by decide) _).trans logged) found (by omega) gen unacked may
  have departing := (u.acking r.num op).departed_touches r.num f
  have acting : Touches shelfParts u ((u.acking r.num op).departed r.num f) :=
    .after departing (by decide) (acking.mono (by decide))
  obtain ⟨stepped, answered, within⟩ := requestEvent_carriedOut (i := .ack h r 0)
    (l' := ([.entries, .gens, .tableFull, .recs, .attnStacks, .overdue, .deferred, .release, .overflow,
          .overflowSubject, .handover, .countersB, .said .relay, .said .answer] : List Part) ++ endParts) taken rfl arriving done rfl
    (.after (relayFor_touches _ e op) (by decide) (acting.mono (l' := .countersB :: .said .relay :: shelfParts) (by decide)))
    (by decide) (by decide)
  have ended := ((u.acking r.num op).departed r.num f).answered_touches e h (ans .done) op
  have gone : ((u.acking r.num op).departed r.num f).entry? r.num = none := by rw [entry?_departed _ _ _ low, if_pos rfl]
  obtain ⟨fell, stands⟩ := acking_overdue found low (by simp [tagged]) unacked op
  obtain ⟨same, same'⟩ := departed_overdue here low acked
  refine ⟨_, stepped, (entry?_answered h _ op _).trans gone, ?_, fun two => ?_, fun other => ?_,
    (answered_withdrawn h _ op (departed_withdrawn here low) (fun f hf => ?_)).2,
    fun j low' other => ?_, fun seen st low' high up => ?_, answered, within⟩
  · rw [ended.gen_eq (by decide), gen_departed _ _ _ _ low, if_pos rfl, acking.gen_eq (by decide), gen]
  · exact (fell two).of_same count alarm mill ((ended .overdue (by decide) : _ = _).trans same)
      ((entry?_answered h _ op 518).trans same')
  · obtain ⟨kept, kept'⟩ := stands other
    exact ⟨(ended .overdue (by decide) : _ = _).trans (same.trans (kept.trans count)),
      (entry?_answered h _ op 518).trans (same'.trans (kept'.trans alarm))⟩
  · rw [gone] at hf
    exact absurd hf (by simp)
  · rw [entry?_answered, entry?_departed _ _ _ low', if_neg other, entry?_acking_ne op other (by omega), ordinary j low']
  · have noted := departed_notes _ here low (u.acking_notes quiet low op)
    rw [found, refOf, acking.gen_eq (by decide), gen] at noted
    have told := ack_announced (u := u) acting (by decide) (by decide) seen noted h (ans .done) op (f := e) low' high up
    have last : f.shown = { e with ack := some ⟨s.time.mill, op⟩, confirmed := false } := by rw [← made, ← mill]; rfl
    rw [touched.outTo_eq (by decide), last] at told
    exact told

/-- R55, R56, R57: an ACK of a system alarm. -/
theorem exec_ack_of_system {s : State} {h : Hdr} {n : Nat} {e : Entry} {op : Nat} (taken : Taken s h)
    (logged : s.logonAt h.station = some op) (low : 512 ≤ n) (high : n ≤ 520) (he : (arrived s h).entry? n = some e)
    (untagged : e.tag = none) (shown : e.disp = .annunciated) (unacked : e.ack = none) :
    (s.isSupervisorRole op = true → e.active = true →
        ∃ t, exec (.ack h ⟨n, 0⟩ 0) s = .next t ∧ t.entry? n = some { e with ack := some ⟨s.time.mill, op⟩ } ∧
          t.annRec n = ⟨[], [], none⟩ ∧ (∀ st, 1 ≤ st → st ≤ 16 → n ∉ t.stack st) ∧
          (∀ j, j ≠ n → t.entry? j = (arrived s h).entry? j) ∧ Answered t h (ans .done) ∧
          Touches (([.entries, .recs, .attnStacks, .said .answer] : List Part) ++ endParts) (arrived s h) t) ∧
      (s.isSupervisorRole op = true → e.active = false →
        ∃ t, exec (.ack h ⟨n, 0⟩ 0) s = .next t ∧ t.entry? n = none ∧
          (∀ st, 1 ≤ st → st ≤ 16 → n ∉ t.stack st) ∧ (∀ j, j ≠ n → t.entry? j = (arrived s h).entry? j) ∧
          (∀ st, 1 ≤ st → st ≤ 16 → (arrived s h).isUp st = true →
            s.outTo st (.announce ⟨⟨n, 0⟩, true, { e with ack := some ⟨s.time.mill, op⟩, confirmed := false }⟩)
              ∈ t.sent) ∧
          Answered t h (ans .done) ∧
          Touches (([.entries, .recs, .attnStacks, .said .answer] : List Part) ++ endParts) (arrived s h) t) ∧
      (s.isSupervisorRole op = false →
        ∃ t, exec (.ack h ⟨n, 0⟩ 0) s = .next t ∧ Answered t h (ans .notResponsible) ∧
          Touches [.said .answer] (arrived s h) t) := by
  have touched := arrived_touches s h
  have quiet : (arrived s h).ev.touched = [] := by rw [arrived_ev s h]; rfl
  generalize arriving : arrived s h = u at touched he quiet ⊢
  have mill : u.time.mill = s.time.mill := touched.mill_eq (by decide)
  have loggedOn : u.logonAt h.station = some op := (touched.logonAt_eq (by decide) _).trans logged
  have role : u.responsible op h.station e = s.isSupervisorRole op := by
    rw [responsible, if_pos untagged, touched.isSupervisorRole_eq (by decide)]
    rfl
  have silent (w : State) : w.relayFor e op = w := by simp only [relayFor, untagged]
  have acting := acking_of_untagged_touches he untagged op
  have entry (m : Nat) := entry?_acking_of_untagged he untagged op m
  refine ⟨fun supervisor active => ?_, fun supervisor returned => ?_, fun other => ?_⟩
  · have done : u.takeAck h.station ⟨n, 0⟩ 0 = (u.acking n op, ans .done) := by
      have kept : u.acknowledge n op = u.acking n op := by
        rw [acknowledge_of_active he active, silent, acked, if_neg (by simp [shown])]
      rw [← kept]
      exact takeAck_of_fits loggedOn he high (gen_of_system u low) unacked (role.trans supervisor)
    obtain ⟨stepped, answered, within⟩ := requestEvent_carriedOut (i := .ack h ⟨n, 0⟩ 0)
      (l' := ([.entries, .recs, .attnStacks, .said .answer] : List Part) ++ endParts) taken rfl arriving done rfl acting
      (by decide) (by decide)
    have off : Withdrawn n ((u.acking n op).finish.answer h (ans .done)) := by
      have relayed := answered_withdrawn (e := e) h (ans .done) op (acking_withdrawn he op) (fun f hf => by
        rw [entry n, if_pos rfl] at hf
        cases hf
        rfl)
      rwa [silent] at relayed
    refine ⟨_, stepped, ?_, off.1, off.2, fun j other => ?_, answered, within⟩
    · rw [entry?_finish_answer, entry n, if_pos rfl, mill]
    · rw [entry?_finish_answer, entry j, if_neg other]
  · have done : u.takeAck h.station ⟨n, 0⟩ 0 = ((u.acking n op).sysRemove n, ans .done) := by
      have freed : u.acknowledge n op = (u.acking n op).sysRemove n := by
        rw [acknowledge_of_returned he returned, silent, if_pos untagged]
      rw [← freed]
      exact takeAck_of_fits loggedOn he high (gen_of_system u low) unacked (role.trans supervisor)
    have acting : Touches sysParts u ((u.acking n op).sysRemove n) := .after (sysRemove_touches _ n) (by decide) acting
    obtain ⟨stepped, answered, within⟩ := requestEvent_carriedOut (i := .ack h ⟨n, 0⟩ 0)
      (l' := ([.entries, .recs, .attnStacks, .said .answer] : List Part) ++ endParts) taken rfl arriving done rfl acting
      (by decide) (by decide)
    have gone (m : Nat) : ((u.acking n op).sysRemove n).entry? m = if m = n then none else u.entry? m := by
      rw [sysRemove, entry?_dropEntry, (withdrawStacks_touches _ n).entry?_eq (by decide), entry m]
      split <;> rfl
    have off : Withdrawn n (((u.acking n op).sysRemove n).finish.answer h (ans .done)) := by
      have vacant : ∀ f, ((u.acking n op).sysRemove n).entry? n = some f → f.ack.isSome = true := fun f hf =>
        absurd (((gone n).trans (if_pos rfl)).symm.trans hf) (by simp)
      have withdrawn := sysRemove_withdrawn_self (u.acking n op) n
      generalize (u.acking n op).sysRemove n = w at vacant withdrawn ⊢
      have relayed := answered_withdrawn (e := e) h (ans .done) op withdrawn vacant
      rwa [silent] at relayed
    refine ⟨_, stepped, ?_, off.2, fun j other => ?_, fun st low' high' up => ?_, answered, within⟩
    · rw [entry?_finish_answer, gone n, if_pos rfl]
    · rw [entry?_finish_answer, gone j, if_neg other]
    · have noted := sysRemove_acking_notes quiet he low untagged op
      have told := ack_announced (u := u) (f := e) acting (by decide) (by decide) (by simp [Entry.hidden, shown]) noted h
        (ans .done) op low' high' up
      rw [silent, touched.outTo_eq (by decide), mill] at told
      exact told
  · have refused : (arrived s h).takeAck h.station ⟨n, 0⟩ 0 = (arrived s h, ans .notResponsible) := by
      rw [arriving]
      exact takeAck_of_irresponsible loggedOn he high (gen_of_system u low) unacked (role.trans other)
    have stepped : exec (.ack h ⟨n, 0⟩ 0) s = .next ((arrived s h).answer h (ans .notResponsible)) :=
      requestEvent_of_refused (f := fun s => s.takeAck h.station ⟨n, 0⟩ 0) taken refused rfl
    rw [arriving] at stepped
    exact ⟨_, stepped, answered_answer _ h _, answer_touches _ h _⟩

end Sys2Proof.Machine

open Sys2Proof.Machine State in
/-- Settles O27: the alarm is withdrawn and acknowledged first; a RETURNED entry then goes as a removal, a DEFERRED one
leaves the Deferred List. -/
theorem ackAcknowledgesOrRemoves : Obligations.AckAcknowledgesOrRemoves := by
  unfold Obligations.AckAcknowledgesOrRemoves
  exact ⟨fun s h r e op tag cond taken logged low he current tagged condition unacked active may =>
      exec_ack_of_active taken logged low he current tagged condition unacked active may,
    fun s h r e op tag cond taken logged low he current tagged _ unacked returned may =>
      exec_ack_of_returned taken logged low he current tagged unacked returned may,
    fun s h n e op taken logged low high he untagged shown unacked =>
      exec_ack_of_system taken logged low high he untagged shown unacked⟩
end

section
/-! PROOFS. REVIEW marks items of the list (R158). -/

namespace Sys2Proof.Machine

namespace State

variable (s : State)

/-! ### A session is updated -/

theorem lookHand_updSession_ne {a b : Nat} (other : b ≠ a) (f : Session → Session) :
    (s.updSession a f).hand.look b = s.hand.look b := by
  unfold updSession
  split
  · exact Tbl.look_put_ne _ _ other
  · exact Tbl.look_put_ne _ _ other
  · rfl

theorem session?_updSession (a : Nat) (f : Session → Session) : (s.updSession a f).session? a = (s.session? a).map f := by
  unfold updSession
  split
  case h_1 x here => simp [session?, here]
  case h_2 x here => simp [session?, here]
  case h_3 none_ other => 
    have closed : s.session? a = none := by
      unfold session?
      split
      · exact absurd ‹_› (none_ _)
      · exact absurd ‹_› (other _)
      · rfl
    rw [closed]
    rfl

theorem isQuiescing_updSession (a : Nat) (f : Session → Session) : (s.updSession a f).isQuiescing a = s.isQuiescing a := by
  unfold updSession
  split
  case h_1 x here => simp [isQuiescing, here]
  case h_2 x here => simp [isQuiescing, here]
  case h_3 => rfl

/-! ### REVIEW -/

/-- R158 check 1: what is left where REVIEW is well formed. -/
theorem takeReview_of_formed {st area first count : Nat} (low : 1 ≤ area) (high : area ≤ 12) (first_ : 1 ≤ first ∧ first ≤ 64)
    (count_ : 1 ≤ count ∧ count ≤ 16) : s.takeReview st area first count 0 =
      match s.logonAt st, s.session? area with
      | none, _ => (s, ans .notLoggedOn)
      | some _, none => (s, ans .noSession)
      | some op, some x =>
        if x.inOp ≠ op ∨ x.inStation ≠ st then (s, ans .notIncoming)
        else if x.items.length < first then (s, ans .range x.items.length)
        else (s.updSession area (reviewItems first count), ans .done (unreviewed (reviewItems first count x))) := by
  have formed : handoverFault? area 0 = none := handoverFault?_eq_none.mpr ⟨⟨low, high⟩, rfl⟩
  simp only [takeReview, formed]
  exact if_neg (by omega)

theorem takeReview_of_reserved {st area first count rsv : Nat} (reserved : rsv ≠ 0) :
    s.takeReview st area first count rsv = (s, ans .reserved) := by
  simp [takeReview, handoverFault?, reserved]

theorem takeReview_of_outside {st area first count : Nat}
    (outside : area < 1 ∨ 12 < area ∨ first < 1 ∨ 64 < first ∨ count < 1 ∨ 16 < count) :
    s.takeReview st area first count 0 = (s, ans .range) := by
  by_cases area_ : area < 1 ∨ 12 < area
  · have formed : handoverFault? area 0 = some (ans .range) := if_pos area_
    simp only [takeReview, formed]
  · have formed : handoverFault? area 0 = none := by simp only [handoverFault?, area_]; rfl
    simp only [takeReview, formed]
    rw [if_pos (by tauto)]

/-- R158: the items from the first one on are reviewed, up to the count. -/
theorem getElem?_reviewItems {first count : Nat} {x : Session} {i : Nat} {item : Item} (here : x.items[i]? = some item) :
    (reviewItems first count x).items[i]? = some { item with
      reviewed := item.reviewed || (decide (first ≤ i + 1) && decide (i + 1 < first + count)) } := by
  rw [reviewItems, List.getElem?_mapIdx, here, Option.map_some]
  by_cases marked : first ≤ i + 1 ∧ i + 1 < first + count
  · simp [marked]
  · rw [if_neg marked, ← Bool.decide_and, decide_eq_false marked, Bool.or_false]

end State

open State

/-- A REVIEW that is refused. -/
theorem review_refused {s : State} {h : Hdr} {area first count rsv : Nat} {a : Ans} (taken : Taken s h)
    (refused : (arrived s h).takeReview h.station area first count rsv = (arrived s h, a)) (unchanged : a.code.changes = false) :
    ∃ t, exec (.review h area first count rsv) s = .next t ∧ Answered t h a ∧ Touches [.said .answer] (arrived s h) t :=
  justAnswered (i := .review h area first count rsv)
    (requestEvent_of_refused (f := fun s => s.takeReview h.station area first count rsv) taken refused unchanged)

end Sys2Proof.Machine

open Sys2Proof.Machine State in
/-- Settles O46: the five checks in their order, and the marking of an accepted REVIEW. -/
theorem reviewMarksItems : Obligations.ReviewMarksItems := by
  unfold Obligations.ReviewMarksItems
  intro s h area first count rsv taken
  have touched := arrived_touches s h
  have session : (arrived s h).session? area = s.session? area := touched.session?_eq (by decide) area
  have logon : (arrived s h).logonAt h.station = s.logonAt h.station := touched.logonAt_eq (by decide) _
  refine ⟨fun reserved => review_refused taken (takeReview_of_reserved _ reserved) rfl, fun unreserved outside => ?_,
    fun unreserved low high first_ first' count_ count' => ?_⟩
  · subst unreserved
    exact review_refused taken (takeReview_of_outside _ outside) rfl
  · subst unreserved
    have formed := (arrived s h).takeReview_of_formed (st := h.station) low high ⟨first_, first'⟩ ⟨count_, count'⟩
    rw [session, logon] at formed
    refine ⟨fun off => ?_, fun op on => ⟨fun closed => ?_, fun x open_ => ⟨fun other => ?_, fun op_ st_ beyond => ?_,
      fun op_ st_ within => ?_⟩⟩⟩
    · simp only [off] at formed
      exact review_refused taken formed rfl
    · simp only [on, closed] at formed
      exact review_refused taken formed rfl
    · simp only [on, open_] at formed
      rw [if_pos other] at formed
      exact review_refused taken formed rfl
    · simp only [on, open_] at formed
      rw [if_neg (by tauto), if_pos beyond] at formed
      exact review_refused taken formed rfl
    · simp only [on, open_] at formed
      rw [if_neg (by tauto), if_neg (by omega)] at formed
      have quiet := arrived_ev s h
      generalize arriving : arrived s h = u at formed touched session quiet ⊢
      obtain ⟨stepped, answered, -⟩ := requestEvent_carriedOut (i := .review h area first count 0)
        (f := fun s => s.takeReview h.station area first count 0) taken rfl arriving formed rfl
        (u.updSession_touches area _) (List.subset_append_left _ (.said .answer :: endParts))
        (List.subset_append_right _ _)
      have ended := finish_answer_eq (u.updSession area (reviewItems first count)) h
        (ans .done (unreviewed (reviewItems first count x)))
      refine ⟨_, reviewItems first count x, stepped, ?_, ?_, rfl, ?_, fun i item here => getElem?_reviewItems here,
        fun a other => ?_, answered, ?_⟩
      · rw [ended.session?_eq (by decide), session?_updSession, session, open_]
        rfl
      · have hand := ended.lookHand_eq (by decide) area
        rw [isQuiescing, hand, ← isQuiescing, isQuiescing_updSession, isQuiescing, touched.lookHand_eq (by decide), ← isQuiescing]
        rfl
      · simp [reviewItems]
      · rw [ended.lookHand_eq (by decide), lookHand_updSession_ne _ other, touched.lookHand_eq (by decide)]
        rfl
      · refine .after (answer_touches _ h _) (by decide) (.after (finish_touches_of_unlisted ?_ ?_ ?_) (by decide)
          ((u.updSession_touches area _).mono (by decide)))
        all_goals rw [updSession_ev, quiet]; simp [EvBuf.empty]
end

section
/-! PROOFS. A session is opened and closed (R153 to R155, R162 to R164). -/

namespace Sys2Proof.Machine

/-- R152: what of a run of items is listed, and what is counted in the remainder. -/
theorem State.foldl_listItem (more : List Item) : ∀ x : Session, x.items.length ≤ 64 → x.remainder ≤ 65535 →
    more.foldl State.listItem x = { x with
      items := (x.items ++ more).take 64,
      remainder := min (x.remainder + (x.items.length + more.length - 64)) 65535 } := by
  induction more with
  | nil =>
    intro x listed counted
    simp only [List.foldl_nil, List.append_nil, List.length_nil]
    rw [List.take_of_length_le listed, show min (x.remainder + (x.items.length + 0 - 64)) 65535 = x.remainder by omega]
  | cons i more ih =>
    intro x listed counted
    rw [List.foldl_cons]
    by_cases room : x.items.length < 64
    · have here : State.listItem x i = { x with items := x.items ++ [i] } := if_pos room
      rw [here, ih { x with items := x.items ++ [i] } (by simp; omega) counted]
      simp only [List.append_assoc, List.singleton_append, List.length_append, List.length_cons, List.length_nil]
      rw [show x.items.length + (0 + 1) + more.length = x.items.length + (more.length + 1) by omega]
    · have here : State.listItem x i = { x with remainder := min (x.remainder + 1) 65535 } := if_neg room
      rw [here, ih { x with remainder := min (x.remainder + 1) 65535 } listed (Nat.min_le_right _ _)]
      have full : x.items.length = 64 := by omega
      simp only [List.length_cons]
      rw [List.take_append_of_le_length (by omega), List.take_append_of_le_length (by omega)]
      congr 1
      omega

namespace State

variable (s : State)

/-! ### Opening -/

theorem newSession_eq (a op st inOp inSt : Nat) : s.newSession a op st inOp inSt =
    { outOp := op, outStation := st, inOp := inOp, inStation := inSt, openedUnit := s.now, openedMill := s.time.mill,
      lapse := some (s.secondsAhead (s.areaRec a).handover), items := (s.snapshot a).take 64,
      remainder := min ((s.snapshot a).length - 64) 65535 } := by
  rw [newSession, foldl_listItem _ _ (Nat.zero_le _) (Nat.zero_le _)]
  simp

/-- R154: an item is listed neither reviewed nor resolved. -/
theorem snapshot_unmarked (a : Nat) : ∀ i ∈ s.snapshot a, i.reviewed = false ∧ i.resolved = false := by
  intro i hi
  simp only [snapshot, List.mem_append, List.mem_map] at hi
  rcases hi with ((((⟨q, -, rfl⟩ | ⟨p, -, rfl⟩) | ⟨p, -, rfl⟩) | ⟨q, -, rfl⟩) | ⟨q, -, rfl⟩) | summary
  all_goals try exact ⟨rfl, rfl⟩
  split at summary
  · exact absurd summary (by simp)
  · rw [List.mem_singleton.mp summary]
    exact ⟨rfl, rfl⟩

/-- R153's checks of an OFFER that is accepted. -/
theorem takeOffer_of_fits {st area badge op inOp inSt : Nat} (low : 1 ≤ area) (high : area ≤ 12) (badge_ : 1 ≤ badge)
    (badge' : badge ≤ 65535) (logged : s.logonAt st = some op) (owner : s.ownerOf area = some (op, st))
    (idle : s.hand.look area = none) (names : s.incoming? st area badge = some (inOp, inSt)) :
    s.takeOffer st area badge 0 =
      (s.openSession area op st inOp inSt, ans .done (s.newSession area op st inOp inSt).items.length) := by
  have formed : handoverFault? area 0 = none := handoverFault?_eq_none.mpr ⟨⟨low, high⟩, rfl⟩
  simp only [takeOffer, formed, logged, idle, names]
  rw [if_neg (by omega), if_neg (by simp [owner])]

end State

theorem Touches.incoming?_eq {l : List Part} {s t : State} (h : Touches l s t) (hr : .roster ∉ l) (hs : .stations ∉ l)
    (hl : .logon ∉ l) (st area badge : Nat) : t.incoming? st area badge = s.incoming? st area badge := by
  have roster : t.tables.roster = s.tables.roster := h .roster hr
  unfold State.incoming?
  simp only [roster, h.stationOf_eq hl, h.permits_eq hs]

namespace State

variable (s : State)

/-! ### Closing -/

theorem mem_said_sayClosed (r : CloseReason) {os : List Out} {o : Out} (ho : o ∈ os) : o ∈ (s.sayClosed r os).said := by
  unfold sayClosed
  split
  all_goals first | exact (s.said_say os).mpr (.inr ho) | exact (s.said_sayAfter os).mpr (.inr ho)

theorem sayClosed_touched (r : CloseReason) (os : List Out) : (s.sayClosed r os).ev.touched = s.ev.touched := by
  unfold sayClosed
  split <;> rfl

theorem leaveRoute_touched (st n : Nat) : (s.leaveRoute st n).ev.touched = s.ev.touched := (s.silence_ev st n).1

theorem leaveClosed_touched (a st : Nat) (r : CloseReason) : (s.leaveClosed a st r).ev.touched = s.ev.touched := by
  have walk (ns : List Nat) : ∀ u : State, (ns.foldl (fun s n =>
      (s.leaveRoute st n).updAnnRec n (fun r => { r with route := r.route.del st })) u).ev.touched = u.ev.touched := by
    induction ns with
    | nil => exact fun _ => rfl
    | cons n ns ih => exact fun u => (ih _).trans (u.leaveRoute_touched st n)
  unfold leaveClosed
  split
  · rfl
  · rfl
  · exact walk _ s

theorem closeSession_of_open {a : Nat} {x : Session} (open_ : s.session? a = some x) (r : CloseReason) : s.closeSession a r =
    ((s.idleHandover a).leaveClosed a x.inStation r).sayClosed r (s.toBoth x.outStation x.inStation (.handoverClosed a r)) := by
  simp only [closeSession, open_]

theorem closeSession_touched (a : Nat) (r : CloseReason) : (s.closeSession a r).ev.touched = s.ev.touched := by
  cases open_ : s.session? a with
  | none => simp only [closeSession, open_]
  | some x =>
    rw [s.closeSession_of_open open_, sayClosed_touched, leaveClosed_touched]
    rfl

/-- R163: both stations of a session that closes are told. -/
theorem closeSession_told {a : Nat} {x : Session} (open_ : s.session? a = some x) (r : CloseReason) {st : Nat}
    (party : st = x.outStation ∨ st = x.inStation) (present : s.link st ≠ .absent) :
    s.outTo st (.notice (.handoverClosed a r)) ∈ (s.closeSession a r).said := by
  rw [s.closeSession_of_open open_]
  refine mem_said_sayClosed _ r ?_
  rcases party with rfl | rfl
  · exact s.mem_toBoth_left present _ _
  · exact s.mem_toBoth_right present _ _

theorem closed_mem_sent_finish {st a : Nat} {r : CloseReason} (h : s.outTo st (.notice (.handoverClosed a r)) ∈ s.said) :
    s.outTo st (.notice (.handoverClosed a r)) ∈ s.finish.sent :=
  mem_sent_finish s h (s.withLoad_notice st nofun)

/-- R162's checks of a RECALL that is accepted. -/
theorem takeRecall_of_fits {st area : Nat} {x : Session} (low : 1 ≤ area) (high : area ≤ 12)
    (logged : s.logonAt st = some x.outOp) (station : x.outStation = st) (offered : s.hand.look area = some (.offered x)) :
    s.takeRecall st area 0 = (s.closeSession area .recalled, ans .done) := by
  have formed : handoverFault? area 0 = none := handoverFault?_eq_none.mpr ⟨⟨low, high⟩, rfl⟩
  simp only [takeRecall, formed, logged, offered]
  rw [if_neg (by simp [station])]

end State

end Sys2Proof.Machine

open Sys2Proof.Machine State in
/-- Settles O48: a RECALL and the lapse deadline close the session in the same way. -/
theorem offerIsRecalledOrLapses : Obligations.OfferIsRecalledOrLapses := by
  unfold Obligations.OfferIsRecalledOrLapses
  intro s area x offered
  have closed (u : State) (r : CloseReason) (look : u.hand.look area = s.hand.look area) (quiet : u.ev = EvBuf.empty) :
      (u.closeSession area r).finish.hand.look area = none ∧
      (∀ st, st = x.outStation ∨ st = x.inStation → u.link st ≠ .absent →
        u.outTo st (.notice (.handoverClosed area r)) ∈ (u.closeSession area r).finish.sent) ∧
      Touches [.handover, .recs, .attnStacks, .shown, .unitAlarm, .said .attention, .said .notice] u
        (u.closeSession area r).finish := by
    have open_ : u.session? area = some x := by rw [session?, look, offered]
    refine ⟨?_, fun st party present => ?_, .after (finish_touches_of_untouched ?_) (by decide)
      ((u.closeSession_touches area r).mono (by decide))⟩
    · rw [(finish_touches _).lookHand_eq (by decide), lookHand_closeSession, if_pos ⟨rfl, by simp [open_]⟩]
    · have told := u.closeSession_told open_ r party present
      rw [← (u.closeSession_touches area r).outTo_eq (by decide)] at told ⊢
      exact closed_mem_sent_finish _ told
    · rw [closeSession_touched, quiet]
      rfl
  refine ⟨fun h taken low high logged station => ?_, fun w running lapse late => ?_⟩
  · have touched := arrived_touches s h
    have quiet := arrived_ev s h
    generalize arriving : arrived s h = u at touched quiet ⊢
    have look (a : Nat) : u.hand.look a = s.hand.look a := touched.lookHand_eq (by decide) a
    have done : u.takeRecall h.station area 0 = (u.closeSession area .recalled, ans .done) :=
      u.takeRecall_of_fits low high ((touched.logonAt_eq (by decide) _).trans logged) station ((look area).trans offered)
    obtain ⟨stepped, answered, -⟩ := requestEvent_carriedOut (i := .recallOffer h area 0)
      (f := fun s => s.takeRecall h.station area 0) taken rfl arriving done rfl (u.closeSession_touches area .recalled)
      (List.subset_append_left _ (.said .answer :: endParts)) (List.subset_append_right _ _)
    obtain ⟨gone, told, within⟩ := closed u .recalled (look area) quiet
    have answer := (u.closeSession area .recalled).finish.answer_touches h (ans .done)
    refine ⟨_, stepped, (answer.lookHand_eq (by decide) _).trans gone, fun a other => ?_, fun st party present => ?_, answered,
      .after answer (by decide) (within.mono (by decide))⟩
    · rw [answer.lookHand_eq (by decide), (finish_touches _).lookHand_eq (by decide), lookHand_closeSession,
        if_neg (fun h => other h.1), look]
    · have notice := told st party present
      rw [touched.outTo_eq (by decide)] at notice
      exact mem_sent_answer _ notice
  · have due : s.fresh.lapseDue area = true := by
      have look : s.fresh.hand.look area = some (.offered x) := offered
      have now : w ≤ s.fresh.now := late
      rw [lapseDue, look]
      simp [lapse, now]
    obtain ⟨gone, told, within⟩ := closed s.fresh .lapsed rfl rfl
    refine ⟨_, timerEvent_of_due (due := fun s => s.lapseDue area) running due (fun s => s.closeSession area .lapsed), gone,
      fun a other => ?_, told, within⟩
    rw [(finish_touches _).lookHand_eq (by decide), lookHand_closeSession, if_neg (fun h => other h.1)]
    rfl

open Sys2Proof.Machine State in
/-- Settles O45: what the fold of R154's snapshot lists is its first 64 items. -/
theorem offerOpensSession : Obligations.OfferOpensSession := by
  unfold Obligations.OfferOpensSession
  intro s h area badge op inOp inSt taken low high badge_ badge' logged owner idle names
  have touched := arrived_touches s h
  have quiet := arrived_ev s h
  generalize arriving : arrived s h = u at touched quiet ⊢
  have areaRec : u.areaRec area = s.areaRec area := touched.areaRec_eq (by decide) area
  have done := u.takeOffer_of_fits low high badge_ badge' ((touched.logonAt_eq (by decide) _).trans logged)
    ((touched.ownerOf_eq (by decide) _).trans owner) ((touched.lookHand_eq (by decide) _).trans idle)
    ((touched.incoming?_eq (by decide) (by decide) (by decide) _ _ _).trans names)
  have opening : Touches [.handover, .said .notice] u (u.openSession area op h.station inOp inSt) :=
    .after (sayAfter_notices _ _ kind_heardBy_notice) (by decide) ((u.setHand_touches _).mono (by decide))
  obtain ⟨stepped, answered, -⟩ := requestEvent_carriedOut (i := .offer h area badge 0)
    (f := fun s => s.takeOffer h.station area badge 0) taken rfl arriving done rfl opening
    (List.subset_append_left _ (.said .answer :: endParts)) (List.subset_append_right _ _)
  have ended := finish_answer_eq (u.openSession area op h.station inOp inSt) h
    (ans .done (u.newSession area op h.station inOp inSt).items.length)
  have now : u.now = s.now := touched.now_eq (by decide)
  have mill : u.time.mill = s.time.mill := touched.mill_eq (by decide)
  have ahead : u.secondsAhead (u.areaRec area).handover = s.secondsAhead (s.areaRec area).handover := by
    rw [areaRec]
    exact touched.secondsAhead_eq (by decide) _
  have look (a : Nat) : (u.openSession area op h.station inOp inSt).hand.look a =
      if a = area then some (.offered (u.newSession area op h.station inOp inSt)) else u.hand.look a := Sys2Proof.Tbl.look_put _ _ _ _
  refine ⟨_, u.newSession area op h.station inOp inSt, stepped, ?_, ?_⟩
  · rw [ended.lookHand_eq (by decide), look, if_pos rfl]
  · rw [newSession_eq] at answered ended ⊢
    refine ⟨rfl, rfl, rfl, rfl, now, mill, congrArg some ahead, rfl, rfl,
      fun i hi => u.snapshot_unmarked area i (List.mem_of_mem_take hi), fun a other => ?_, fun present => ?_, answered, ?_⟩
    · rw [ended.lookHand_eq (by decide), look, if_neg other, touched.lookHand_eq (by decide)]
      rfl
    · have told : u.outTo inSt (.notice (.handoverOffer area (u.badgeOf op) h.station
          (u.newSession area op h.station inOp inSt).items.length (u.newSession area op h.station inOp inSt).remainder
          (u.areaRec area).handover)) ∈ (u.openSession area op h.station inOp inSt).said :=
        (said_sayAfter _ _).mpr (.inr (u.mem_heardBy present _))
      rw [touched.badgeOf_eq (by decide), areaRec, newSession_eq, touched.outTo_eq (by decide)] at told
      exact mem_sent_answer _ (mem_sent_finish _ told rfl)
    · exact .after (answer_touches _ h _) (by decide)
        (.after (finish_touches_of_untouched (show u.ev.touched = [] by rw [quiet]; rfl)) (by decide) (opening.mono (by decide)))
end

section
/-! PROOFS. Plant frames that match nothing, repeat or jump the sequence, or are discarded (R45, R129, R176). -/

namespace Sys2Proof.Machine

namespace State

/-! ### Late replies -/

/-- R129: a REPLY of any outcome that matches no entry is late. -/
theorem takeReply_of_unmatched {s : State} {k tag : Nat} (unmatched : s.replyEntry? k tag = none) (outcome arg : Nat) :
    s.takeReply k tag outcome arg = s.lateReply := by
  unfold takeReply
  split
  · simp only [finalReply, unmatched]
  · simp only [finalReply, unmatched]
  · simp only [busyReply, unmatched]
  · simp only [extendReply, unmatched]
  · simp only [extendReply, unmatched]

theorem replyEntry?_eq_none {s : State} {k tag : Nat}
    (h : ∀ x, s.gate.transit.look k = some x → x.tag ≠ tag ∨ x.state = .awaiting) : s.replyEntry? k tag = none := by
  cases found : s.gate.transit.look k with
  | none => simp only [replyEntry?, found]
  | some x =>
    have off : ¬ (x.tag = tag ∧ x.state ≠ .awaiting) := fun ⟨same, waits⟩ => (h x found).elim (· same) waits
    simp only [replyEntry?, found, off, if_false]

end State

open State

theorem exec_reply_of_unmatched {s : State} (on : s.running = true) {k tag : Nat}
    (unmatched : ∀ x, s.gate.transit.look k = some x → x.tag ≠ tag ∨ x.state = .awaiting) {i : Instr}
    (reply : i = .replyDone k tag ∨ (∃ c, i = .replyRefused k tag c) ∨ i = .replyBusy k tag ∨
      (∃ n, 1 ≤ n ∧ n ≤ 3 ∧ i = .replyExtend k tag n) ∨ i = .replyHoldOn k tag) :
    exec i s = .next s.fresh.serveLink.lateReply.finish := by
  have look : s.fresh.serveLink.gate.transit = s.gate.transit := serveLink_touches _ .transit (by decide)
  have none_ : s.fresh.serveLink.replyEntry? k tag = none :=
    replyEntry?_eq_none (fun x found => unmatched x (by rw [← look]; exact found))
  have late {outcome arg : Nat} (sound : replyFaulty outcome 0 arg = false) :
      plantEvent (fun s => s.replyFrame k tag outcome 0 arg) s = .next s.fresh.serveLink.lateReply.finish := by
    rw [plantEvent_of_running on, replyFrame_of_sound _ sound, takeReply_of_unmatched none_]
  rcases reply with rfl | ⟨c, rfl⟩ | rfl | ⟨n, low, high, rfl⟩ | rfl
  · exact late (by decide)
  · exact late (by simp [replyFaulty])
  · exact late (by decide)
  · refine late ?_
    simp only [replyFaulty, decide_eq_false_iff_not]
    omega
  · exact late (by decide)

namespace State

/-! ### Sequences -/

/-- R45, R170: the content of a notice counts no gap. -/
theorem gaps_takeContent (s : State) (tag cond transition flag rsv : Nat) (time : MillTime) :
    (s.takeContent tag cond transition flag rsv time).plant.counters.gaps = s.plant.counters.gaps := by
  have kept {l : List Part} {t : State} (h : Touches l s t) (hl : .countersB ∉ l) :
      t.plant.counters.gaps = s.plant.counters.gaps := congrArg CountersB.gaps (h .countersB hl)
  unfold takeContent takeNotice
  split
  · rfl
  · split
    · rfl
    · split
      · rfl
      · split
        · rfl
        · split
          · exact kept (applyRaise_touches _ _ _ _ _ _ _) (by decide)
          · split
            · rfl
            · exact kept (applyReturn_touches _ _ _ _) (by decide)

/-- R176: what a gap leaves of the Plant Port. -/
theorem gap_effect {u : State} {seq : Nat} (standing : u.plant.link = .up ∨ u.plant.link = .resync)
    (h : seqFinding u.serveLink.plant.expected seq = .gap) (tag cond transition flag rsv : Nat) (time : MillTime) :
    let t := (u.noticeFrame seq tag cond transition flag rsv time).finish
    t.plant.link = .resync ∧ t.plant.expected = none ∧ t.plant.counters.gaps = bump u.plant.counters.gaps ∧
      t.plant.resync = (u.plant.resync + 1) % 65536 ∧ t.plant.timer = some (u.now + 3000) ∧
      .plant (.resyncRequest 0 t.plant.resync) ∈ t.sent := by
  have heard : Touches [.plantHeard, .plantMark, .plantExpected] u (u.serveLink.noteSeq seq) :=
    .after (noteSeq_touches _ seq) (by decide) ((serveLink_touches_of_standing standing).mono (by decide))
  have content := (u.serveLink.noteSeq seq).takeContent_touches tag cond transition flag rsv time
  have gaps := (u.serveLink.noteSeq seq).gaps_takeContent tag cond transition flag rsv time
  have heardGaps : (u.serveLink.noteSeq seq).plant.counters.gaps = u.plant.counters.gaps :=
    congrArg CountersB.gaps (heard .countersB (by decide))
  dsimp only
  rw [noticeFrame, takeSequenced_of_gap _ h, finish_plant, enterResync_plant]
  generalize (u.serveLink.noteSeq seq).takeContent tag cond transition flag rsv time = v at content gaps ⊢
  have resync : v.plant.resync = u.plant.resync :=
    (content .plantResync (by decide) : _ = _).trans (heard .plantResync (by decide))
  have now : v.now = u.now := (content.now_eq (by decide)).trans (heard.now_eq (by decide))
  refine ⟨rfl, rfl, congrArg bump (gaps.trans heardGaps), ?_, ?_, mem_sent_finish _ (resyncRequest_said _) rfl⟩
  · exact congrArg (fun n => (n + 1) % 65536) resync
  · exact congrArg (fun n => some (n + 3000)) now

theorem countDiscarded_effect (s : State) (a : Nat) : (s.countDiscarded a).alarm.discarded.getD a 0 =
      min (s.alarm.discarded.getD a 0 + 1) 65535 ∧
    ∀ b, b ≠ a → (s.countDiscarded a).alarm.discarded.getD b 0 = s.alarm.discarded.getD b 0 :=
  ⟨(Tbl.getD_setD_self _ _ _ _).trans rfl, fun _ other => Tbl.getD_setD_ne _ _ _ other⟩

/-! ### Discarded notices -/

theorem takeNotice_of_unknown {s : State} {tag : Nat} (absent : s.tagRec? tag = none) (cond : Nat) (raised resync : Bool)
    (time : MillTime) : s.takeNotice tag cond raised resync time =
      s.countB (fun c => { c with unknownTag := bump c.unknownTag }) := by
  simp only [takeNotice, absent]
  rfl

theorem takeNotice_of_closed {s : State} {tag cond : Nat} {r : TagRec} (record : s.tagRec? tag = some r)
    (closed : r.prio cond = none ∨ s.inService r.area = false) (raised resync : Bool) (time : MillTime) :
    s.takeNotice tag cond raised resync time = s.countDiscarded r.area := by
  cases prio : r.prio cond with
  | none => simp only [takeNotice, record, prio]
  | some p =>
    have out := closed.resolve_left (by simp [prio])
    simp only [takeNotice, record, prio, out, Bool.not_false, if_true]

theorem takeNotice_of_unraised {s : State} {tag cond : Nat} {r : TagRec} (record : s.tagRec? tag = some r)
    (free : s.entryOf? tag cond = none) (resync : Bool) (time : MillTime) :
    s.takeNotice tag cond false resync time = s.countDiscarded r.area := by
  cases prio : r.prio cond with
  | none => simp only [takeNotice, record, prio]
  | some p => simp only [takeNotice, record, prio, free, Bool.false_eq_true, if_false, ite_self]

end State

/-- R45: what a discard leaves. -/
theorem discarded_effect {s : State} (standing : s.plant.link = .up ∨ s.plant.link = .resync) (seq a : Nat) :
    let t := ((s.hearingNotice seq).countDiscarded a).finish
    t.plant.expected = some seq ∧ t.alarm.discarded.getD a 0 = min (s.alarm.discarded.getD a 0 + 1) 65535 ∧
      (∀ b, b ≠ a → t.alarm.discarded.getD b 0 = s.alarm.discarded.getD b 0) ∧
      Touches (([.plantHeard, .plantMark, .plantExpected, .discarded] : List Part) ++ endParts) s.fresh t := by
  have heard := hearingNotice_touches standing seq
  have counted := (s.hearingNotice seq).countDiscarded_touches a
  have ended := finish_touches ((s.hearingNotice seq).countDiscarded a)
  have tally : (s.hearingNotice seq).alarm.discarded = s.alarm.discarded := heard .discarded (by decide)
  have after : ((s.hearingNotice seq).countDiscarded a).finish.alarm.discarded =
      ((s.hearingNotice seq).countDiscarded a).alarm.discarded := ended .discarded (by decide)
  obtain ⟨mine, others⟩ := (s.hearingNotice seq).countDiscarded_effect a
  rw [tally] at mine
  refine ⟨?_, by rw [after, mine], fun b other => by rw [after, others b other, tally], ?_⟩
  · rw [finish_plant, (counted.plant_eq (by decide) : _ = _)]
    exact s.hearingNotice_expected seq
  · exact .after ended (by decide) (.after counted (by decide) (heard.mono (by decide)))

/-- What an ALARM NOTICE of either transition is taken as. -/
theorem exec_notice {s : State} (on : s.running = true) {m : NoticeFields} {i : Instr}
    (notice : i = .alarmNoticeRaise m ∨ i = .alarmNoticeReturn m) :
    ∃ transition flag, exec i s = .next (s.fresh.noticeFrame m.seq m.tag m.cond transition flag 0 m.time).finish := by
  rcases notice with rfl | rfl
  · exact ⟨1, if m.resync then 1 else 0,
      plantEvent_of_running on (fun s => s.noticeFrame m.seq m.tag m.cond 1 (if m.resync then 1 else 0) 0 m.time)⟩
  · exact ⟨2, if m.resync then 1 else 0,
      plantEvent_of_running on (fun s => s.noticeFrame m.seq m.tag m.cond 2 (if m.resync then 1 else 0) 0 m.time)⟩

theorem exec_notice_of_next {s : State} (on : s.running = true) (standing : s.plant.link = .up ∨ s.plant.link = .resync)
    {m : NoticeFields} {x : Nat} (expected : s.plant.expected = some x) (seq : m.seq = (x + 1) % 65536)
    (range : m.tag ≤ 4095) (range' : m.cond ≤ 7) {i : Instr} (notice : i = .alarmNoticeRaise m ∨ i = .alarmNoticeReturn m) :
    ∃ raised, exec i s = .next ((s.hearingNotice m.seq).takeNotice m.tag m.cond raised m.resync m.time).finish := by
  rcases notice with rfl | rfl
  · exact ⟨true, exec_raise_of_next on standing expected seq range range'⟩
  · exact ⟨false, exec_return_of_next on standing expected seq range range'⟩

end Sys2Proof.Machine

open Sys2Proof.Machine State in
/-- Settles O44: a late reply, a repeat, a gap and the discards of R45, each as it is counted. -/
theorem unmatchedPlantFramesAreCounted : Obligations.UnmatchedPlantFramesAreCounted := by
  unfold Obligations.UnmatchedPlantFramesAreCounted
  refine ⟨fun s k tag on unmatched i reply => ?_, fun s m x on standing expected => ⟨fun same _ i notice => ?_,
    fun other jumped i notice => ?_, fun seq range range' => ⟨fun i notice => ⟨fun absent => ?_, fun r record closed => ?_⟩,
      fun r record free => ?_⟩⟩⟩
  · have served := s.fresh.serveLink_touches
    have late : Touches [.countersG] s.fresh.serveLink s.fresh.serveLink.lateReply := countGate_touches _ _
    refine ⟨_, exec_reply_of_unmatched on unmatched reply, ?_, ?_⟩
    · rw [(finish_touches _ .countersG (by decide) : _ = _)]
      have before : s.fresh.serveLink.gate.counters = s.gate.counters := served .countersG (by decide)
      rw [← before]
      rfl
    · exact .after (finish_touches _) (by decide) (.after late (by decide) (served.mono (by decide)))
  · obtain ⟨transition, flag, stepped⟩ := exec_notice on notice
    have heard : Touches [.plantHeard, .plantMark] s.fresh s.fresh.serveLink := serveLink_touches_of_standing standing
    have again : seqFinding s.fresh.serveLink.plant.expected m.seq = .duplicate := by
      rw [(heard .plantExpected (by decide) : _ = _), show s.fresh.plant.expected = some x from expected, same]
      exact seqFinding_duplicate x
    rw [noticeFrame, takeSequenced_of_duplicate _ again] at stepped
    have counted := s.fresh.serveLink.countB_touches (fun c => { c with duplicateSeq := bump c.duplicateSeq })
    refine ⟨_, stepped, ?_, .after (finish_touches _) (by decide) (.after counted (by decide) (heard.mono (by decide)))⟩
    have before : s.fresh.serveLink.plant.counters = s.plant.counters := heard .countersB (by decide)
    rw [finish_plant, ← before]
    rfl
  · obtain ⟨transition, flag, stepped⟩ := exec_notice on notice
    have heard : Touches [.plantHeard, .plantMark] s.fresh s.fresh.serveLink := serveLink_touches_of_standing standing
    have gap : seqFinding s.fresh.serveLink.plant.expected m.seq = .gap := by
      rw [(heard .plantExpected (by decide) : _ = _), show s.fresh.plant.expected = some x from expected]
      exact seqFinding_gap other jumped
    obtain ⟨link, awaits, gaps, resync, timer, asked⟩ :=
      gap_effect (u := s.fresh) standing gap m.tag m.cond transition flag 0 m.time
    exact ⟨_, stepped, link, awaits, gaps, resync, timer, asked⟩
  · obtain ⟨raised, stepped⟩ := exec_notice_of_next on standing expected seq range range' notice
    have heard := hearingNotice_touches standing m.seq
    rw [takeNotice_of_unknown ((heard.tagRec?_eq (by decide) _).trans absent)] at stepped
    have counted := (s.hearingNotice m.seq).countB_touches (fun c => { c with unknownTag := bump c.unknownTag })
    refine ⟨_, stepped, by rw [finish_plant]; rfl, ?_,
      .after (finish_touches _) (by decide) (.after counted (by decide) (heard.mono (by decide)))⟩
    have before : (s.hearingNotice m.seq).plant.counters = s.plant.counters := heard .countersB (by decide)
    rw [finish_plant, ← before]
    rfl
  · obtain ⟨raised, stepped⟩ := exec_notice_of_next on standing expected seq range range' notice
    have heard := hearingNotice_touches standing m.seq
    rw [takeNotice_of_closed ((heard.tagRec?_eq (by decide) _).trans record)
      (closed.imp_right (fun out => (heard.inService_eq (by decide) _).trans out))] at stepped
    exact ⟨_, stepped, discarded_effect standing m.seq r.area⟩
  · have stepped := exec_return_of_next on standing expected seq range range'
    have heard := hearingNotice_touches standing m.seq
    rw [takeNotice_of_unraised ((heard.tagRec?_eq (by decide) _).trans record)
      ((heard.entryOf?_eq (by decide) _ _).trans free)] at stepped
    exact ⟨_, stepped, discarded_effect standing m.seq r.area⟩
end

section
/-! PROOFS. Commands end: each ending frees its entry and tells its stations, and no later ending takes that back (R134,
R136, R148). -/

namespace Sys2Proof.Machine

namespace State

/-! ### The entries of a condition -/

theorem mem_transitWhere {s : State} (listed : Tbl.wf s.gate.transit) {p : Transit → Bool} {k : Nat} :
    k ∈ s.transitWhere p ↔ ∃ x, s.gate.transit.look k = some x ∧ p x = true := by
  simp only [transitWhere, List.mem_map, List.mem_filter]
  constructor
  · rintro ⟨⟨j, x⟩, ⟨mem, fits⟩, rfl⟩
    exact ⟨x, Tbl.look_of_mem listed mem, fits⟩
  · rintro ⟨x, look, fits⟩
    exact ⟨(k, x), ⟨Tbl.mem_of_look look, fits⟩, rfl⟩

/-- The RESULT of an ending. -/
def resultOf (s : State) (k : Nat) (x : Transit) (o : ResultOutcome) (d : Nat) : ConsoleMsg :=
  .result k x.tag x.action o d s.time.mill

theorem Touches.resultOf_eq {l : List Part} {s t : State} (h : Touches l s t) (hl : .millTime ∉ l) (k : Nat) (x : Transit)
    (o : ResultOutcome) (d : Nat) : t.resultOf k x o d = s.resultOf k x o d := by
  rw [resultOf, resultOf, h.mill_eq hl]

/-- R137: RESULT goes to the originating station, the countersigner's and any further one. -/
theorem mem_resultMsgs (s : State) {k : Nat} {x : Transit} (o : ResultOutcome) (d : Nat) {also : Option Nat} {st : Nat}
    (party : st = x.origStation ∨ x.signer.map Prod.snd = some st ∨ also = some st) (present : s.link st ≠ .absent) :
    s.outTo st (s.resultOf k x o d) ∈ s.resultMsgs k x o d also := by
  refine List.mem_flatMap.mpr ⟨st, List.mem_dedup.mpr ?_, s.mem_heardBy present _⟩
  rcases party with rfl | signed | named
  · exact List.mem_cons_self
  · refine List.mem_cons_of_mem _ (List.mem_append_left _ ?_)
    simpa using signed
  · refine List.mem_cons_of_mem _ (List.mem_append_right _ ?_)
    simp [named]

/-! ### An ending -/

/-- What every way in which entries end leaves, one entry at a time. -/
structure EndsOne (o : ResultOutcome) (d : Transit → Nat) (f : State → Nat → State) : Prop where
  touches : ∀ s k, Touches (.countersG :: endingParts) s (f s k)
  look : ∀ s k j, (f s k).gate.transit.look j = if j = k then none else s.gate.transit.look j
  results : ∀ s k, ∀ m ∈ s.said, m.kind = .result → m ∈ (f s k).said
  told : ∀ s k x, s.gate.transit.look k = some x → ∀ st, st = x.origStation ∨ x.signer.map Prod.snd = some st →
    s.link st ≠ .absent → s.outTo st (s.resultOf k x o (d x)) ∈ (f s k).said

section
variable {o : ResultOutcome} {d : Transit → Nat} {f : State → Nat → State} (ends : EndsOne o d f)
include ends

theorem foldl_ends_touches (ks : List Nat) (s : State) : Touches (.countersG :: endingParts) s (ks.foldl f s) :=
  Touches.foldl ends.touches ks s

theorem look_foldl_ends (ks : List Nat) (s : State) (j : Nat) :
    (ks.foldl f s).gate.transit.look j = if j ∈ ks then none else s.gate.transit.look j := by
  induction ks generalizing s with
  | nil => simp
  | cons k ks ih =>
    rw [List.foldl_cons, ih, ends.look]
    by_cases later : j ∈ ks
    · simp [later]
    · by_cases here : j = k
      · simp [here]
      · simp [later, here]

theorem results_foldl_ends (ks : List Nat) (s : State) : ∀ m ∈ s.said, m.kind = .result → m ∈ (ks.foldl f s).said := by
  induction ks generalizing s with
  | nil => exact fun m hm _ => hm
  | cons k ks ih => exact fun m hm kind => ih _ m (ends.results s k m hm kind) kind

theorem told_foldl_ends (ks : List Nat) (s : State) {k : Nat} {x : Transit} (listed : k ∈ ks)
    (look : s.gate.transit.look k = some x) {st : Nat} (party : st = x.origStation ∨ x.signer.map Prod.snd = some st)
    (present : s.link st ≠ .absent) : s.outTo st (s.resultOf k x o (d x)) ∈ (ks.foldl f s).said := by
  induction ks generalizing s with
  | nil => exact absurd listed (by simp)
  | cons k' ks ih =>
    rw [List.foldl_cons]
    by_cases here : k = k'
    · subst here
      exact results_foldl_ends ends ks _ _ (ends.told s k x look st party present) rfl
    · have touched := ends.touches s k'
      have later := ih (f s k') ((List.mem_cons.mp listed).resolve_left here)
        (by rw [ends.look, if_neg here]; exact look) (by rw [touched.link_eq (by decide)]; exact present)
      rwa [touched.outTo_eq (by decide), Touches.resultOf_eq touched (by decide)] at later

end

/-! ### Entries that wait for a countersignature -/

theorem endAwaiting_of_look {s : State} {k : Nat} {x : Transit} (look : s.gate.transit.look k = some x) (o : ResultOutcome)
    (d : Nat) (c : ClosedOutcome) (cause also : Option Nat) : s.endAwaiting k o d c cause also =
      (((s.freeTransit k).say (s.resultMsgs k x o d also)).say (s.closedMsgs k x c cause)).resolveItems
        x.area (namesCommand k x.tag) := by
  simp only [endAwaiting, look]

theorem endAwaiting_says (s : State) (k : Nat) (o : ResultOutcome) (d : Nat) (c : ClosedOutcome) (cause also : Option Nat) :
    Says s (s.endAwaiting k o d c cause also) := by
  cases look : s.gate.transit.look k with
  | none => simp only [endAwaiting, look]; exact .refl s
  | some x =>
    rw [endAwaiting_of_look look]
    exact (((s.freeTransit_touches k).says (by simp)).trans ((say_says _ _).trans (say_says _ _))).trans
      ((resolveItems_touches _ _ _).says (by simp))

theorem endAwaiting_told {s : State} {k : Nat} {x : Transit} (look : s.gate.transit.look k = some x) (o : ResultOutcome)
    (d : Nat) (c : ClosedOutcome) (cause : Option Nat) {also : Option Nat} {st : Nat}
    (party : st = x.origStation ∨ x.signer.map Prod.snd = some st ∨ also = some st) (present : s.link st ≠ .absent) :
    s.outTo st (s.resultOf k x o d) ∈ (s.endAwaiting k o d c cause also).said := by
  rw [endAwaiting_of_look look]
  exact (resolveItems_touches _ _ _).says (by simp) _
    (say_says _ _ _ ((said_say _ _).mpr (.inr (s.mem_resultMsgs o d party present))))

theorem withdrawal_endsOne (r : WithdrawReason) : EndsOne .withdrawn (fun _ => r.number)
    (fun s k => s.endAwaiting k .withdrawn r.number .withdrawn none none) where
  touches s k := (s.endAwaiting_touches k _ _ _ _ _).mono (by decide)
  look s k j := s.lookTransit_endAwaiting k _ _ _ _ _ j
  results s k m hm _ := s.endAwaiting_says k _ _ _ _ _ m hm
  told s k x look st party present := endAwaiting_told look _ _ _ _ (party.imp_right .inl) present

/-- R148: what is withdrawn is gone, and nothing else is. -/
theorem lookTransit_withdrawWaiting {s : State} (listed : Tbl.wf s.gate.transit) (p : Transit → Bool) (r : WithdrawReason)
    {k : Nat} {x : Transit} (look : s.gate.transit.look k = some x) : (s.withdrawWaiting p r).gate.transit.look k =
      if x.state = .awaiting ∧ p x = true then none else some x := by
  rw [withdrawWaiting, look_foldl_ends (withdrawal_endsOne r), look]
  have mem : k ∈ s.transitWhere (fun t => decide (t.state = .awaiting) && p t) ↔ x.state = .awaiting ∧ p x = true := by
    rw [mem_transitWhere listed]
    constructor
    · rintro ⟨y, found, fits⟩
      cases look.symm.trans found
      simpa using fits
    · exact fun fits => ⟨x, look, by simpa using fits⟩
  simp only [mem]

theorem withdrawWaiting_told {s : State} (listed : Tbl.wf s.gate.transit) {p : Transit → Bool} (r : WithdrawReason) {k : Nat}
    {x : Transit} (look : s.gate.transit.look k = some x) (waits : x.state = .awaiting) (fits : p x = true)
    (present : s.link x.origStation ≠ .absent) :
    s.outTo x.origStation (s.resultOf k x .withdrawn r.number) ∈ (s.withdrawWaiting p r).said :=
  told_foldl_ends (withdrawal_endsOne r) _ s ((mem_transitWhere listed).mpr ⟨x, look, by simp [waits, fits]⟩) look
    (.inl rfl) present

theorem withdrawWaiting_says (s : State) (p : Transit → Bool) (r : WithdrawReason) : Says s (s.withdrawWaiting p r) :=
  Says.foldl (fun s k => s.endAwaiting_says k _ _ _ _ _) _

/-! ### Entries in flight -/

theorem endFlight_of_look {s : State} {k : Nat} {x : Transit} (look : s.gate.transit.look k = some x) (o : ResultOutcome)
    (d : Nat) : s.endFlight k o d = (((s.freeTransit k).say (s.resultMsgs k x o d none)).resolveItems x.area
      (namesCommand k x.tag)).quiesced x.area := by
  simp only [endFlight, look]

theorem entry?_quiesced_ne (s : State) (a : Nat) {m : Nat} (h : m ≠ 516) : (s.quiesced a).entry? m = s.entry? m := by
  have passed (t : State) (op : Nat) (kind : TransferKind) (old : Option (Nat × Nat)) (st : Nat) :
      ((t.giveOwner a op st).coverScan.concludeTransfer a op kind old).entry? m = t.entry? m := by
    rw [(concludeTransfer_touches _ _ _ _ _).entry?_eq (by decide), entry?_coverScan_ne _ h,
      (giveOwner_touches _ _ _ _).entry?_eq (by decide)]
  unfold quiesced
  split
  · rfl
  · split
    · unfold completeHandover
      split
      · rfl
      · split
        · exact (s.closeSession_touches a _).entry?_eq (by decide) m
        case h_2 given =>
          obtain ⟨st, -, rfl⟩ := transferOwner_eq_some.mp given
          exact passed _ _ _ _ _
    · unfold completeTakeover
      split
      · exact (s.cancelTakeover_touches a _).entry?_eq (by decide) m
      case h_2 given =>
        obtain ⟨st, -, rfl⟩ := transferOwner_eq_some.mp given
        exact passed _ _ _ _ _
    · rfl

theorem entry?_endFlight_ne (s : State) (k : Nat) (o : ResultOutcome) (d : Nat) {m : Nat} (h : m ≠ 516) :
    (s.endFlight k o d).entry? m = s.entry? m := by
  cases look : s.gate.transit.look k with
  | none => simp only [endFlight, look]
  | some x =>
    rw [endFlight_of_look look, entry?_quiesced_ne _ _ h, (resolveItems_touches _ _ _).entry?_eq (by decide)]
    exact (s.freeTransit_touches k).entry?_eq (by decide) m

theorem lookTransit_endFlight (s : State) (k : Nat) (o : ResultOutcome) (d j : Nat) :
    (s.endFlight k o d).gate.transit.look j = if j = k then none else s.gate.transit.look j := by
  cases look : s.gate.transit.look k with
  | none =>
    simp only [endFlight, look]
    split
    case isTrue same => rw [same, look]
    · rfl
  | some x =>
    rw [endFlight_of_look look, (quiesced_touches _ _).lookTransit_eq (by decide), (resolveItems_touches _ _ _).lookTransit_eq (by decide)]
    exact s.transit_freeTransit k j

theorem endFlight_results (s : State) (k : Nat) (o : ResultOutcome) (d : Nat) :
    ∀ m ∈ s.said, m.kind = .result → m ∈ (s.endFlight k o d).said := by
  intro m hm kind
  cases look : s.gate.transit.look k with
  | none => simpa only [endFlight, look] using hm
  | some x =>
    rw [endFlight_of_look look]
    refine (quiesced_touches _ _).said_of (by rw [kind]; decide) ((resolveItems_touches _ _ _).says (by simp) _ ?_)
    exact say_says _ _ _ ((s.freeTransit_touches k).says (by simp) _ hm)

theorem endFlight_told {s : State} {k : Nat} {x : Transit} (look : s.gate.transit.look k = some x) (o : ResultOutcome)
    (d : Nat) {st : Nat} (party : st = x.origStation ∨ x.signer.map Prod.snd = some st) (present : s.link st ≠ .absent) :
    s.outTo st (s.resultOf k x o d) ∈ (s.endFlight k o d).said := by
  rw [endFlight_of_look look]
  refine (quiesced_touches _ _).said_of (show Part.said .result ∉ transferParts by decide) ((resolveItems_touches _ _ _).says (by simp) _ ?_)
  exact (said_say _ _).mpr (.inr (s.mem_resultMsgs o d (party.imp_right .inl) present))

/-! ### The loss of the plant link -/

theorem failOne_endsOne : EndsOne .failedPlantLost (fun _ => 0) failOne where
  touches s k := s.failOne_touches k
  look _ k j := (lookTransit_endFlight _ k _ _ j).trans rfl
  results _ k m hm kind := endFlight_results _ k _ _ m hm kind
  told s _ _ look _ party present :=
    endFlight_told (s := s.countGate (fun c => { c with loss := bump c.loss })) look .failedPlantLost 0 party present

/-- What an event has said before one of several endings, and what it says after them. -/
theorem said_failInTurn {s : State} {k : Nat} {m : Out} (kind : m.kind = .result)
    (h : m ∈ ({ s with ev := { s.ev with post := [] } } : State).said ∨ m ∈ s.ev.post ∨
      m ∈ (failOne { s with ev := { s.ev with post := [] } } k).said) : m ∈ (s.failInTurn k).said := by
  have failed : m ∈ (failOne { s with ev := { s.ev with post := [] } } k).said → m ∈ (s.failInTurn k).said := by
    intro hm
    unfold failInTurn
    simp only [said, List.mem_append, List.mem_filter] at hm ⊢
    rcases hm with (sent | pre) | post
    · exact .inl (.inl sent)
    · exact .inl (.inr (.inl pre))
    · by_cases held : heldBack (failOne { s with ev := { s.ev with post := [] } } k).ev.post m = true
      · exact .inr (.inr ⟨post, held⟩)
      · exact .inl (.inr (.inr ⟨post, by simpa using held⟩))
  rcases h with before | post | after
  · exact failed (failOne_endsOne.results _ k m before kind)
  · unfold failInTurn
    simp only [said, List.mem_append]
    exact .inr (.inl post)
  · exact failed after

theorem failInTurn_endsOne : EndsOne .failedPlantLost (fun _ => 0) failInTurn where
  touches s k := s.failInTurn_touches k
  look s k j := (failOne_endsOne.look { s with ev := { s.ev with post := [] } } k j).trans rfl
  results s k m hm kind := by
    refine said_failInTurn kind ?_
    simp only [said, List.mem_append] at hm ⊢
    tauto
  told s k x look st party present :=
    said_failInTurn rfl (.inr (.inr (failOne_endsOne.told { s with ev := { s.ev with post := [] } } k x look st party present)))

theorem entry?_failOne_ne (s : State) (k : Nat) {m : Nat} (h : m ≠ 516) : (s.failOne k).entry? m = s.entry? m :=
  (entry?_endFlight_ne _ k _ _ h).trans rfl

theorem entry?_failInTurn_ne (s : State) (k : Nat) {m : Nat} (h : m ≠ 516) : (s.failInTurn k).entry? m = s.entry? m :=
  entry?_failOne_ne { s with ev := { s.ev with post := [] } } k h

/-- The entries that the loss of the link fails. -/
def failing (s : State) : List Nat := s.transitWhere (fun t => decide (t.state ≠ .awaiting))

theorem failInFlight_of_none {s : State} (none_ : s.failing = []) : s.failInFlight = s := by
  unfold failInFlight
  dsimp only
  rw [← failing, none_]
  rfl

theorem failInFlight_of_last {s : State} {ks : List Nat} {last : Nat} (listed : s.failing = ks ++ [last]) :
    s.failInFlight = (ks.foldl failInTurn s).failOne last := by
  unfold failInFlight
  dsimp only
  rw [← failing, listed, List.getLast?_concat, List.dropLast_concat]

/-- R136: the loss of the link ends every command in flight, and no other. -/
theorem failInFlight_effect {s : State} (listed : Tbl.wf s.gate.transit) :
    (∀ k x, s.gate.transit.look k = some x → s.failInFlight.gate.transit.look k = if x.state = .awaiting then some x else none) ∧
    (∀ k x, s.gate.transit.look k = some x → x.state ≠ .awaiting → s.link x.origStation ≠ .absent →
      s.outTo x.origStation (s.resultOf k x .failedPlantLost 0) ∈ s.failInFlight.said) ∧
    ∀ m, m ≠ 516 → s.failInFlight.entry? m = s.entry? m := by
  have mem (k : Nat) (x : Transit) (look : s.gate.transit.look k = some x) : k ∈ s.failing ↔ x.state ≠ .awaiting := by
    rw [failing, mem_transitWhere listed]
    constructor
    · rintro ⟨y, found, flying⟩
      cases look.symm.trans found
      exact of_decide_eq_true flying
    · exact fun flying => ⟨x, look, decide_eq_true flying⟩
  rcases List.eq_nil_or_concat s.failing with none_ | ⟨ks, last, split_⟩
  · rw [failInFlight_of_none none_]
    rw [none_] at mem
    refine ⟨fun k x look => ?_, fun k x look flying => absurd ((mem k x look).mpr flying) (by simp), fun _ _ => rfl⟩
    rw [look, if_pos (by_contra fun flying => absurd ((mem k x look).mpr flying) (by simp))]
  · rw [List.concat_eq_append] at split_
    rw [failInFlight_of_last split_]
    rw [split_] at mem
    have turns := foldl_ends_touches failInTurn_endsOne ks s
    refine ⟨fun k x look => ?_, fun k x look flying present => ?_, fun m other => ?_⟩
    · rw [failOne_endsOne.look, look_foldl_ends failInTurn_endsOne, look]
      by_cases flying : x.state = .awaiting
      · have off : k ∉ ks ++ [last] := fun h => (mem k x look).mp h flying
        rw [if_pos flying, if_neg (fun h => off (by simp [h])), if_neg (fun h => off (by simp [h]))]
      · have on : k ∈ ks ++ [last] := (mem k x look).mpr flying
        rw [if_neg flying]
        rcases List.mem_append.mp on with earlier | final
        · rw [if_pos earlier, ite_self]
        · rw [if_pos (List.mem_singleton.mp final)]
    · by_cases earlier : k ∈ ks
      · exact failOne_endsOne.results _ last _ (told_foldl_ends failInTurn_endsOne ks s earlier look (.inl rfl) present) rfl
      · have final : k = last := List.mem_singleton.mp ((List.mem_append.mp ((mem k x look).mpr flying)).resolve_left earlier)
        have told := failOne_endsOne.told (ks.foldl failInTurn s) k x
          (by rw [look_foldl_ends failInTurn_endsOne, if_neg earlier, look]) x.origStation (.inl rfl)
          (by rw [turns.link_eq (by decide)]; exact present)
        rw [turns.outTo_eq (by decide), Touches.resultOf_eq turns (by decide), final] at told
        rwa [final]
    · rw [entry?_failOne_ne _ _ other]
      exact entry?_foldl_of_not_mem ks (fun u k _ => entry?_failInTurn_ne u k other) s

/-- R63: the UNIT ALARM output follows the entries. -/
theorem finish_unitAlarm (s : State) : s.finish.alarm.unitAlarm = s.urgentActive := rfl

/-! ### Stale entries -/

/-- R46 *mark stale*. -/
theorem entry?_markStale (s : State) (n : Nat) : s.markStale.entry? n =
    if n < 512 then (s.entry? n).map (fun e => { e with stale := true }) else s.entry? n := by
  have walk (ns : List Nat) : ∀ u : State, (ns.foldl (fun s n => s.updEntry n (fun e => { e with stale := true })) u).entry? n =
      if n ∈ ns then (u.entry? n).map (fun e => { e with stale := true }) else u.entry? n := by
    induction ns with
    | nil => simp
    | cons m ns ih =>
      intro u
      rw [List.foldl_cons, ih, entry?_updEntry]
      by_cases here : n = m
      · subst here
        rw [if_pos rfl, if_pos List.mem_cons_self, Option.map_map]
        split <;> rfl
      · simp only [here, if_false, List.mem_cons, false_or]
  rw [markStale, walk]
  by_cases low : n < 512
  · rw [if_pos low]
    cases found : s.entry? n with
    | none => simp
    | some e => rw [if_pos (mem_ordinary _ low found)]
  · rw [if_neg low, if_neg (fun listed => low (lt_of_mem_ordinary _ listed))]

/-- What the unit holds as the commands in flight fail (R173). -/
def losing (s : State) : State :=
  (((if s.plant.link = .degraded then s.sysReturn 512 else s).sysRaise 513 .none).markStale).setPlant
    (fun p => { p with timer := none, expected := none })

theorem enterLost_eq (s : State) : s.enterLost =
    (s.losing.failInFlight.countB (fun c => { c with losses := bump c.losses })).moveLink .lost := rfl

theorem losing_touches (s : State) : Touches ([.plantTimer, .plantExpected] ++ sysParts) s s.losing := by
  have first : Touches sysParts s (if s.plant.link = .degraded then s.sysReturn 512 else s) :=
    .ite (sysReturn_touches s 512) (.mono (.refl _ s) (List.nil_subset _))
  exact .after (setTimer_touches _ none none) (by decide) (.after (markStale_touches _) (by decide) (.after (sysRaise_touches _ _ _) (by decide)
    (first.mono (by decide))))

theorem losing_plant (s : State) : s.losing.plant = { s.plant with timer := none, expected := none } := by
  have before : (((if s.plant.link = .degraded then s.sysReturn 512 else s).sysRaise 513 .none).markStale).plant = s.plant := by
    have first : Touches sysParts s (if s.plant.link = .degraded then s.sysReturn 512 else s) :=
      .ite (sysReturn_touches s 512) (.mono (.refl _ s) (List.nil_subset _))
    exact ((markStale_touches _).plant_eq (by decide)).trans (((sysRaise_touches _ _ _).plant_eq (by decide)).trans (first.plant_eq (by decide)))
  rw [losing, setPlant, before]

theorem entry?_losing (s : State) (n : Nat) : s.losing.entry? n =
    (((if s.plant.link = .degraded then s.sysReturn 512 else s).sysRaise 513 .none).markStale).entry? n := rfl

end State

end Sys2Proof.Machine

open Sys2Proof.Machine State in
/-- Settles O58: both timeouts enter LOST in the same way. -/
theorem plantLossFailsCommands : Obligations.PlantLossFailsCommands := by
  unfold Obligations.PlantLossFailsCommands
  intro s i on room timeout
  have stepped : exec i s = .next s.fresh.enterLost.finish := by
    rcases timeout with ⟨rfl, due⟩ | ⟨rfl, due⟩
    · exact timerEvent_of_due on due enterLost
    · exact timerEvent_of_due on due enterLost
  have changed : s.fresh.plant.link ≠ .lost := by
    rcases timeout with ⟨-, due⟩ | ⟨-, due⟩
    · intro lost
      have lost : s.plant.link = .lost := lost
      simp [plantDegradedDue, lost] at due
    · intro lost
      have lost : s.plant.link = .lost := lost
      simp [plantStartDue, lost] at due
  have losing := s.fresh.losing_touches
  obtain ⟨freed, told, entries⟩ := failInFlight_effect (s := s.fresh.losing)
    (by rw [(losing .transit (by decide) : _ = _)]; exact room.transitRoom.1)
  have failing := s.fresh.losing.failInFlight_touches
  have entry (m : Nat) (other : m ≠ 516) : s.fresh.enterLost.finish.entry? m = s.fresh.losing.entry? m := by
    rw [entry?_finish, enterLost_eq, (moveLink_touches _ _).entry?_eq (by decide), (countB_touches _ _).entry?_eq (by decide),
      entries m other]
  have plant : s.fresh.enterLost.finish.plant = { s.plant with
      link := .lost, timer := none, expected := none,
      counters := { s.plant.counters with losses := bump s.plant.counters.losses } } := by
    rw [finish_plant, enterLost_eq, moveLink_plant]
    have lost : s.fresh.losing.failInFlight.plant = s.fresh.losing.plant := failing.plant_eq (by decide)
    rw [countB, setPlant, lost, losing_plant]
    rfl
  have raised : s.fresh.losing.entry? 513 =
      some ((if s.fresh.plant.link = .degraded then s.fresh.sysReturn 512 else s.fresh).raisedAlarm 513 .none) := by
    rw [entry?_losing, entry?_markStale, if_neg (by decide), entry?_sysRaise_self]
  refine ⟨_, _, stepped, by rw [plant], by rw [plant], by rw [plant], by rw [plant], (entry 513 (by decide)).trans raised,
    raisedAlarm_active _ _ _, ?_, fun x degraded alarm => ?_, fun n x low found => ?_, fun k x look => ?_,
    fun k x look flying present => ?_, .after (finish_touches _) (by decide) (s.fresh.enterLost_touches.mono (by decide))⟩
  · have alarm := (entry 513 (by decide)).trans raised
    rw [entry?_finish] at alarm
    rw [finish_unitAlarm, urgentActive, alarm, Option.map_some, raisedAlarm_active]
    rfl
  · have degraded : s.fresh.plant.link = .degraded := degraded
    rw [entry 512 (by decide), entry?_losing, entry?_markStale, if_neg (by decide), entry?_sysRaise_ne _ (by decide),
      if_pos degraded] at alarm
    exact s.fresh.inactive_sysReturn alarm
  · have kept : (if s.fresh.plant.link = .degraded then s.fresh.sysReturn 512 else s.fresh).entry? n = s.entry? n := by
      split
      · exact entry?_sysReturn_ne _ (by omega)
      · rfl
    rw [entry n (by omega), entry?_losing, entry?_markStale, if_pos low, entry?_sysRaise_ne _ (by omega), kept, found]
    rfl
  · have look' : s.fresh.losing.gate.transit.look k = some x := by rw [losing.lookTransit_eq (by decide)]; exact look
    rw [(finish_touches _).lookTransit_eq (by decide), enterLost_eq, (moveLink_touches _ _).lookTransit_eq (by decide),
      (countB_touches _ _).lookTransit_eq (by decide), freed k x look']
  · have look' : s.fresh.losing.gate.transit.look k = some x := by rw [losing.lookTransit_eq (by decide)]; exact look
    have said := told k x look' flying (by rw [losing.link_eq (by decide)]; exact present)
    rw [losing.outTo_eq (by decide), Touches.resultOf_eq losing (by decide)] at said
    refine mem_sent_finish _ ?_ rfl
    rw [enterLost_eq]
    exact moveLink_says _ _ _ ((countB_touches _ _).says (by simp) _ said)
end

section
/-! PROOFS. A COMMAND is forwarded at once, or asks for a countersignature (R122, R127, R128, R141). -/

namespace Sys2Proof.Machine

namespace State

variable (s : State)

/-- R126: an arrival clears no blocker and sets none. -/
theorem blocker?_arrived (h : Hdr) (r : TagRec) : (arrived s h).blocker? r = s.blocker? r := by
  unfold blocker?
  split
  · rfl
  · simp only [(arrived_touches s h).override?_eq (by decide), ordinaryWhere_arrived]
    rfl

/-- R121, R127: the entry stands in the table under its ticket, and the counter moves on. -/
def ticketed (k : Nat) (x : Transit) : State :=
  { s with gate := { s.gate with
    transit := s.gate.transit.put k x
    ticket := unusedTicket (s.gate.transit.put k x) (Config.transitEntries + 1) (nextTicket k) } }

theorem ticketed_touches (k : Nat) (x : Transit) : Touches [.transit, .ticket] s (s.ticketed k x) := by
  intro p hp
  cases p <;> first | rfl | exact ⟨rfl, rfl⟩ | exact absurd (by decide) hp

theorem lookTransit_ticketed (k : Nat) (x : Transit) : (s.ticketed k x).gate.transit.look k = some x :=
  Tbl.look_put_self _ _ _

section
variable {s}
variable {op st tag : Nat} {r : TagRec} {act : Action} {v : BitVec 32}

theorem createTransit_of_asking (asks : r.cls = 4 ∧ s.keySupervisor op st = false) : s.createTransit op st tag r act v =
    ((s.ticketed s.ticketNow (s.newTransit op st tag r act v)).say
      (s.countersignRequests s.ticketNow (s.newTransit op st tag r act v))).appendItem r.area (.command s.ticketNow tag) none := by
  unfold createTransit
  dsimp only
  rw [if_pos (show r.cls = 4 ∧ (s.newTransit op st tag r act v).key = false from asks)]
  rfl

theorem createTransit_of_free (free : ¬ (r.cls = 4 ∧ s.keySupervisor op st = false)) : s.createTransit op st tag r act v =
    ((s.ticketed s.ticketNow (s.newTransit op st tag r act v)).forwardEntry s.ticketNow).appendItem
      r.area (.command s.ticketNow tag) none := by
  unfold createTransit
  dsimp only
  rw [if_neg (show ¬ (r.cls = 4 ∧ (s.newTransit op st tag r act v).key = false) from free)]
  rfl

theorem createTransit_touches_of_free (free : ¬ (r.cls = 4 ∧ s.keySupervisor op st = false)) :
    Touches [.transit, .ticket, .handover, .said .forward] s (s.createTransit op st tag r act v) := by
  rw [createTransit_of_free free]
  exact .after (appendItem_touches _ _ _ _) (by decide) (.after (forwardEntry_touches _ _) (by decide)
    ((s.ticketed_touches _ _).mono (by decide)))

theorem createTransit_touches_of_asking (asks : r.cls = 4 ∧ s.keySupervisor op st = false) :
    Touches [.transit, .ticket, .handover, .said .countersign] s (s.createTransit op st tag r act v) := by
  rw [createTransit_of_asking asks]
  exact .after (appendItem_touches _ _ _ _) (by decide) (.after (l' := [.said .countersign])
    (say_touches _ _ (fun o ho => by simp [kind_countersignRequests _ o ho])) (by decide)
    ((s.ticketed_touches _ _).mono (by decide)))

theorem appendItem_says (a : Nat) (ref : ItemRef) (p : Option Priority) : Says s (s.appendItem a ref p) :=
  (s.appendItem_touches a ref p).says (by simp)

/-- R128: FORWARD of an entry that is forwarded. -/
theorem forwardEntry_said {k : Nat} {x : Transit} (look : s.gate.transit.look k = some x) :
    s.forwardMsg k (s.forwardedNow x) false ∈ (s.forwardEntry k).said := by
  rw [forwardEntry_of_look look]
  exact (said_say _ _).mpr (.inr (List.mem_singleton.mpr rfl))

theorem createTransit_said_of_free (free : ¬ (r.cls = 4 ∧ s.keySupervisor op st = false)) :
    .plant (.forward s.ticketNow tag act v (s.badgeOf op) 0 (s.keySupervisor op st) false) ∈
      (s.createTransit op st tag r act v).said := by
  rw [createTransit_of_free free]
  exact appendItem_says _ _ _ _ (forwardEntry_said (lookTransit_ticketed _ _ _))

/-- R141: an eligible station is asked. -/
theorem createTransit_said_of_asking (asks : r.cls = 4 ∧ s.keySupervisor op st = false) {st' o : Nat} (low : 1 ≤ st')
    (high : st' ≤ 16) (up : s.isUp st' = true) (logged : s.logonAt st' = some o) (other : o ≠ op)
    (level : 3 ≤ s.levelOf o r.area) :
    s.outTo st' (.countersignRequest s.ticketNow tag r.area act v (s.badgeOf op) st (1000 * (s.areaRec r.area).window)) ∈
      (s.createTransit op st tag r act v).said := by
  rw [createTransit_of_asking asks]
  refine appendItem_says _ _ _ _ ((said_say _ _).mpr (.inr ?_))
  have eligible : st' ∈ s.upStations.filter (fun st => match s.logonAt st with
      | none => false
      | some o => decide (o ≠ (s.newTransit op st tag r act v).origOp ∧
          3 ≤ s.levelOf o (s.newTransit op st tag r act v).area)) := by
    refine List.mem_filter.mpr ⟨List.mem_filter.mpr ⟨mem_stationNumbers.mpr ⟨low, high⟩, up⟩, ?_⟩
    rw [logged]
    exact decide_eq_true ⟨other, level⟩
  refine List.mem_map.mpr ⟨st', eligible, ?_⟩
  have left : 10 * ((s.newTransit op st tag r act v).deadline - s.now) = 1000 * (s.areaRec r.area).window := by
    simp only [newTransit, Config.ticksPerSecond, Nat.add_sub_cancel_left]
    omega
  rw [left]
  rfl

end

end State

open State

/-- The checks of COMMAND that read what an arrival leaves alone. -/
theorem commandFits_arrived {s : State} {h : Hdr} {tag code op : Nat} {act : Action} {r : TagRec} (known : tag ≤ 4095)
    (record : s.tagRec? tag = some r) (action : Action.ofCode code = some act) (logged : s.logonAt h.station = some op)
    (writable : r.cls ≠ 0) (level : classLevel r.cls ≤ s.levelOf op r.area)
    (owner : s.isOwnerStation h.station r.area = true ∨ s.keySupervisor op h.station = true)
    (notLost : s.plant.link ≠ .lost) (notStart : s.plant.link ≠ .start) (still : s.isQuiescing r.area = false)
    (single : ∀ p ∈ s.gate.transit, p.2.tag ≠ tag) (open_ : s.blocker? r = none) (room : s.gate.transit.length < 32) :
    (arrived s h).CommandFits h.station tag code op act r := by
  have touched := arrived_touches s h
  have table : (arrived s h).gate.transit = s.gate.transit := touched .transit (by decide)
  have link : (arrived s h).plant.link = s.plant.link := touched .plantLink (by decide)
  have quiescing : (arrived s h).isQuiescing r.area = s.isQuiescing r.area := by
    rw [isQuiescing, touched.lookHand_eq (by decide)]
    rfl
  refine ⟨known, (touched.tagRec?_eq (by decide) _).trans record, action, (touched.logonAt_eq (by decide) _).trans logged,
    writable, ?_, ?_, ⟨by rwa [link], by rwa [link]⟩, quiescing.trans still, ?_, (s.blocker?_arrived h r).trans open_,
    by rw [table]; exact room⟩
  · rw [touched.levelOf_eq (by decide)]
    exact level
  · rw [touched.isOwnerStation_eq (by decide), touched.keySupervisor_eq (by decide) (by decide) (by decide) (by decide)]
    exact owner
  · refine transitWhere_eq_nil _ (fun q listed => decide_eq_false (single q ?_))
    rw [← table]
    exact listed

end Sys2Proof.Machine

open Sys2Proof.Machine State in
/-- Settles O37: the created entry is forwarded, or its countersignature is asked for. -/
theorem commandIsForwardedOrWaits : Obligations.CommandIsForwardedOrWaits := by
  unfold Obligations.CommandIsForwardedOrWaits
  refine ⟨fun s h tag code op act value r taken known record action logged writable level owner notLost notStart still single
      open_ room unused free => ?_,
    fun s h tag code op act value r taken known record action logged four level owner key notLost notStart still single open_
      room unused => ?_⟩
  · have fits := commandFits_arrived (h := h) known record action logged writable level owner notLost notStart still single open_ room
    have touched := arrived_touches s h
    generalize arriving : arrived s h = u at fits touched ⊢
    have keys : u.keySupervisor op h.station = s.keySupervisor op h.station :=
      touched.keySupervisor_eq (by decide) (by decide) (by decide) (by decide) op h.station
    have free : ¬ (r.cls = 4 ∧ u.keySupervisor op h.station = false) := by
      rw [keys]
      rintro ⟨four, key⟩
      exact free.elim (· four) (fun on => by simp [key] at on)
    have counter : u.gate.ticket = s.gate.ticket := touched .ticket (by decide)
    have ticket : u.ticketNow = s.gate.ticket := by
      rw [← counter]
      exact ticketNow_of_free (by rw [counter, touched.lookTransit_eq (by decide)]; exact unused)
    have done := takeCommand_of_fits fits value
    rw [ticket] at done
    obtain ⟨stepped, answered, within⟩ := requestEvent_carriedOut (i := .command h tag code value 0)
      (f := fun s => s.takeCommand h.station tag code value 0)
      (l' := ([.transit, .ticket, .handover, .said .forward, .said .answer] : List Part) ++ endParts) taken rfl arriving done rfl
      (createTransit_touches_of_free free) (by decide) (by decide)
    have look := (u.createTransit_gate op h.station tag r act value).2
    rw [ticket] at look
    have ended := finish_answer_eq (u.createTransit op h.station tag r act value) h (ans .pending s.gate.ticket)
    refine ⟨_, stepped, ?_, fun k other => ?_, ?_, answered, within⟩
    · have base : u.baseTime tag = 10 * r.base := by rw [baseTime, fits.record]; rfl
      rw [ended.lookTransit_eq (by decide), look, if_pos rfl, createdTransit, if_neg free, forwardedNow, newTransit]
      simp only [keys, base, touched.now_eq (by decide), touched.mill_eq (by decide)]
      rfl
    · rw [ended.lookTransit_eq (by decide), look, if_neg other, touched.lookTransit_eq (by decide)]
      rfl
    · have said := createTransit_said_of_free (tag := tag) (act := act) (v := value) free
      rw [ticket, keys, touched.badgeOf_eq (by decide)] at said
      exact mem_sent_answer _ (mem_sent_finish _ said rfl)
  · have fits := commandFits_arrived (h := h) known record action logged (by omega)
      (show classLevel r.cls ≤ _ by rw [four]; exact level) (.inl owner) notLost notStart still single open_ room
    have touched := arrived_touches s h
    generalize arriving : arrived s h = u at fits touched ⊢
    have keys : u.keySupervisor op h.station = s.keySupervisor op h.station :=
      touched.keySupervisor_eq (by decide) (by decide) (by decide) (by decide) op h.station
    have asks : r.cls = 4 ∧ u.keySupervisor op h.station = false := ⟨four, keys.trans key⟩
    have counter : u.gate.ticket = s.gate.ticket := touched .ticket (by decide)
    have ticket : u.ticketNow = s.gate.ticket := by
      rw [← counter]
      exact ticketNow_of_free (by rw [counter, touched.lookTransit_eq (by decide)]; exact unused)
    have done := takeCommand_of_fits fits value
    rw [ticket] at done
    obtain ⟨stepped, answered, within⟩ := requestEvent_carriedOut (i := .command h tag code value 0)
      (f := fun s => s.takeCommand h.station tag code value 0)
      (l' := ([.transit, .ticket, .handover, .said .countersign, .said .answer] : List Part) ++ endParts) taken rfl arriving done
      rfl (createTransit_touches_of_asking asks) (by decide) (by decide)
    have look := (u.createTransit_gate op h.station tag r act value).2
    rw [ticket] at look
    have ended := finish_answer_eq (u.createTransit op h.station tag r act value) h (ans .pending s.gate.ticket)
    have areaRec : u.areaRec r.area = s.areaRec r.area := touched.areaRec_eq (by decide) _
    refine ⟨_, stepped, ?_, fun k other => ?_, fun st o low high up on other level => ?_, answered, within⟩
    · have window : u.now + (u.areaRec r.area).window * Sys2Proof.Config.ticksPerSecond = s.now + 100 * (s.areaRec r.area).window := by
        rw [areaRec, touched.now_eq (by decide), Nat.mul_comm]
        rfl
      rw [ended.lookTransit_eq (by decide), look, if_pos rfl, createdTransit, if_pos asks, newTransit]
      rw [keys, key, window, touched.now_eq (by decide), touched.mill_eq (by decide)]
      rfl
    · rw [ended.lookTransit_eq (by decide), look, if_neg other, touched.lookTransit_eq (by decide)]
      rfl
    · have said := createTransit_said_of_asking (tag := tag) (act := act) (v := value) asks low high up
        ((touched.logonAt_eq (by decide) _).trans on) other (by rw [touched.levelOf_eq (by decide)]; exact level)
      rw [ticket, touched.badgeOf_eq (by decide), areaRec, touched.outTo_eq (by decide)] at said
      exact mem_sent_answer _ (mem_sent_finish _ said rfl)
end

section
/-! PROOFS. Who is told that a countersignature is closed (R149): only the ending of an entry says NOTICE COUNTERSIGN CLOSED. -/

namespace Sys2Proof.Machine

/-- A NOTICE COUNTERSIGN CLOSED. -/
def Out.isClosed : Out → Bool
  | .console _ _ (.notice (.countersignClosed _ _ _)) => true
  | _ => false

theorem kind_of_isClosed {o : Out} (closed : o.isClosed = true) : o.kind = .notice := by
  unfold Out.isClosed at closed
  split at closed
  · rfl
  · simp at closed

namespace State

/-- From `s` to `t` no NOTICE COUNTERSIGN CLOSED has been said. -/
def ClosesNone (s t : State) : Prop := ∀ o ∈ t.said, o.isClosed = true → o ∈ s.said

theorem ClosesNone.refl (s : State) : ClosesNone s s := fun _ ho _ => ho

theorem ClosesNone.trans {s t u : State} (h : ClosesNone s t) (k : ClosesNone t u) : ClosesNone s u :=
  fun o ho closed => h o (k o ho closed) closed

theorem ClosesNone.of_touches {l : List Part} {s t : State} (touched : Touches l s t) (hl : .said .notice ∉ l) :
    ClosesNone s t := fun o ho closed => by
  have same : t.saidOf .notice = s.saidOf .notice := touched _ hl
  have listed : o ∈ t.saidOf .notice := t.mem_saidOf.mpr ⟨ho, kind_of_isClosed closed⟩
  rw [same] at listed
  exact (s.mem_saidOf.mp listed).1

theorem say_closesNone (s : State) {os : List Out} (other : ∀ o ∈ os, o.isClosed = false) : ClosesNone s (s.say os) :=
  fun o ho closed => ((s.said_say os).mp ho).resolve_right (fun h => by simp [other o h] at closed)

theorem areaNotices_open (s : State) : ∀ o ∈ s.areaNotices, o.isClosed = false := by
  intro o ho
  obtain ⟨p, -, told⟩ := List.mem_flatMap.mp ho
  obtain ⟨st, -, rfl⟩ := List.mem_map.mp told
  rfl

theorem coverScan_closesNone (s : State) : ClosesNone s s.coverScan := by
  have before : ClosesNone s ((areaNumbers.foldl setCover s).setOrphans) :=
    (ClosesNone.of_touches (foldl_setCover_touches _ s) (by decide)).trans (.of_touches (setOrphans_touches _) (by decide))
  have told (u : State) : ClosesNone u u.sayAreas := u.say_closesNone u.areaNotices_open
  have after (u : State) (x y : NSet) (z : Subject) : ClosesNone u (u.reroute.sysFollow 516 x y z) :=
    (ClosesNone.of_touches (reroute_touches u) (by decide)).trans (.of_touches (sysFollow_touches _ _ _ _ _) (by decide))
  exact (before.trans (told _)).trans (after _ _ _ _)

theorem updateNotices_open (s : State) : ∀ o ∈ s.updateNotices, o.isClosed = false := by
  intro o ho
  obtain ⟨a, -, told⟩ := List.mem_flatMap.mp ho
  split at told
  · exact absurd told (by simp)
  · rw [kind_heardBy told]
    rfl

/-- R67: only a NOTICE FLOOD is rewritten as it leaves. -/
theorem eq_of_withLoad_closed {s : State} {o : Out} (closed : (s.withLoad o).isClosed = true) : s.withLoad o = o := by
  unfold withLoad at closed ⊢
  split
  · simp [Out.isClosed] at closed
  · rfl

theorem withLoad_of_closed {s : State} {o : Out} (closed : o.isClosed = true) : s.withLoad o = o := by
  unfold withLoad
  split
  · simp [Out.isClosed] at closed
  · rfl

theorem finish_closesNone (s : State) : ClosesNone s s.finish := by
  intro o ho closed
  have sent : o ∈ s.finish.sent := by
    rwa [said_of_quiet (show s.finish.ev = EvBuf.empty from rfl)] at ho
  have notice := kind_of_isClosed closed
  have rewritten {os : List Out} (h : o ∈ os.map s.withLoad) : o ∈ os := by
    obtain ⟨o', ho', rfl⟩ := List.mem_map.mp h
    rwa [eq_of_withLoad_closed closed]
  simp only [finish, List.mem_append] at sent
  simp only [said, List.mem_append]
  rcases sent with ((((before | pre) | announced) | attended) | updated) | post
  · exact .inl (.inl before)
  · exact .inl (.inr (rewritten pre))
  · exact absurd (kind_announces s o announced) (by simp [notice])
  · exact absurd (kind_attentions _ o attended) (by simp [notice])
  · exact absurd (updateNotices_open s o updated) (by simp [closed])
  · exact .inr (rewritten post)

theorem serveWatch_closesNone (s : State) (st : Nat) : ClosesNone s (s.serveWatch st) := by
  have heard : ClosesNone s (s.hearing st) := .of_touches (s.hearing_touches st) (by decide)
  cases link : s.link st with
  | up => rw [serveWatch_of_up s link]; exact heard
  | absent =>
    rw [serveWatch_of_absent s link]
    exact ((heard.trans (.of_touches (setLink_touches _ st .up) (by decide))).trans (coverScan_closesNone _)).trans
      (finish_closesNone _)
  | lost =>
    rw [serveWatch_of_lost s link]
    refine (heard.trans ?_).trans (finish_closesNone _)
    unfold stationReturns
    dsimp only
    have up := ClosesNone.of_touches (setLink_touches (s.hearing st) st .up) (by decide)
    have stopped := ClosesNone.of_touches (stopGrace_touches ((s.hearing st).setLink st .up) st) (by decide)
    have followed := ClosesNone.of_touches (followLost_touches (((s.hearing st).setLink st .up).stopGrace st) (s.hearing st).lostSet)
      (by decide)
    exact ((((up.trans stopped).trans followed).trans (coverScan_closesNone _)).trans
      (say_closesNone _ (fun o ho => by
        rw [List.mem_singleton.mp ho]
        unfold outTo resumeNotice
        split <;> rfl))).trans (.of_touches (forceAttention_touches _ st) (by decide))

theorem serveRestarted_closesNone (s : State) (st : Nat) : ClosesNone s (s.serveRestarted st) := by
  unfold serveRestarted
  split
  · intro o ho closed
    simp only [said, List.mem_append, List.mem_singleton] at ho ⊢
    rcases ho with ((sent | rfl) | pre) | post
    · exact .inl (.inl sent)
    · simp [outTo, Out.isClosed] at closed
    · exact .inl (.inr pre)
    · exact .inr post
  · exact .refl s

/-- An arrival says no NOTICE COUNTERSIGN CLOSED. -/
theorem said_arrived_open (s : State) (h : Hdr) : ∀ o ∈ (arrived s h).said, o.isClosed = false := by
  have arrival : ClosesNone s.fresh (arrived s h) :=
    ((ClosesNone.of_touches (countA_touches s.fresh _) (by decide)).trans (serveWatch_closesNone _ h.station)).trans
      (serveRestarted_closesNone _ h.station)
  intro o ho
  by_contra closed
  have none_ := arrival o ho (by simpa using closed)
  simp [said, EvBuf.empty] at none_

/-! ### Who is told -/

theorem mem_closedMsgs (s : State) {k : Nat} {x : Transit} {c : ClosedOutcome} {cause : Option Nat} {st : Nat} (low : 1 ≤ st)
    (high : st ≤ 16) : s.outTo st (.notice (.countersignClosed k x.tag c)) ∈ s.closedMsgs k x c cause ↔
      st ≠ x.origStation ∧ cause ≠ some st ∧ s.link st ≠ .absent ∧ ∃ o, s.logonAt st = some o ∧ 3 ≤ s.levelOf o x.area := by
  simp only [closedMsgs, List.mem_flatMap, List.mem_filter, Bool.and_eq_true, decide_eq_true_eq]
  constructor
  · rintro ⟨st', ⟨-, ⟨⟨away, uncaused⟩, able⟩⟩, told⟩
    have same := kind_heardBy told
    have same : st = st' := congrArg (fun o => match o with | .console st _ _ => st | .plant _ => 0) same
    subst same
    refine ⟨away, fun h => uncaused h.symm, fun absent => ?_, ?_⟩
    · simp [heardBy, absent] at told
    · cases logged : s.logonAt st with
      | none => simp [logged] at able
      | some o => exact ⟨o, rfl, by simpa [logged] using able⟩
  · rintro ⟨away, uncaused, present, o, logged, level⟩
    refine ⟨st, ⟨mem_stationNumbers.mpr ⟨low, high⟩, ⟨away, fun h => uncaused h.symm⟩, ?_⟩, s.mem_heardBy present _⟩
    simpa [logged] using level

theorem resultMsgs_open (s : State) {k : Nat} {x : Transit} {o : ResultOutcome} {d : Nat} {also : Option Nat} :
    ∀ m ∈ s.resultMsgs k x o d also, m.isClosed = false := by
  intro m hm
  by_contra closed
  exact absurd (kind_of_isClosed (by simpa using closed)) (by simp [kind_resultMsgs s m hm])

/-- R149: the closing notices of an ending are those of the entry. -/
theorem closed_endAwaiting {s : State} {k : Nat} {x : Transit} (look : s.gate.transit.look k = some x) (o : ResultOutcome)
    (d : Nat) (c : ClosedOutcome) (cause also : Option Nat) {m : Out} (closed : m.isClosed = true) :
    m ∈ (s.endAwaiting k o d c cause also).said ↔ m ∈ s.said ∨ m ∈ s.closedMsgs k x c cause := by
  rw [endAwaiting_of_look look]
  have listed := resolveItems_touches (((s.freeTransit k).say (s.resultMsgs k x o d also)).say (s.closedMsgs k x c cause))
    x.area (namesCommand k x.tag)
  have freed : (s.freeTransit k).said = s.said := rfl
  constructor
  · intro hm
    rcases (said_say _ _).mp (ClosesNone.of_touches listed (by decide) m hm closed) with before | told
    · rcases (said_say _ _).mp before with before | result
      · exact .inl (freed ▸ before)
      · exact absurd (s.resultMsgs_open m result) (by simp [closed])
    · exact .inr told
  · intro hm
    refine listed.says (by simp) _ ?_
    rcases hm with before | told
    · exact say_says _ _ _ (say_says _ _ _ (freed ▸ before))
    · exact (said_say _ _).mpr (.inr told)

theorem closed_mem_sent_finish_iff (s : State) {m : Out} (closed : m.isClosed = true) : m ∈ s.finish.sent ↔ m ∈ s.said := by
  constructor
  · intro sent
    refine finish_closesNone s m ?_ closed
    rwa [said_of_quiet (show s.finish.ev = EvBuf.empty from rfl)]
  · exact fun said => mem_sent_finish s said (withLoad_of_closed closed)

theorem closed_mem_sent_answer_iff (s : State) (h : Hdr) (a : Ans) {m : Out} (closed : m.isClosed = true) :
    m ∈ (s.answer h a).sent ↔ m ∈ s.sent := by
  rw [answer_sent, List.mem_append, List.mem_singleton]
  exact ⟨fun h => h.resolve_right (fun same => by simp [same, Out.isClosed] at closed), .inl⟩

end State

end Sys2Proof.Machine
end

section
/-! PROOFS. A countersignature is given, declined, withdrawn or lapses (R142 to R149). -/

namespace Sys2Proof.Machine

namespace State

/-- R21: an accepted frame makes its station UP. -/
theorem link_arrived (s : State) (h : Hdr) : (arrived s h).link h.station = .up := by
  show (((s.fresh.countA (fun c => { c with accepted := bump c.accepted })).serveWatch h.station).serveRestarted h.station).link
    h.station = .up
  rw [(serveRestarted_touches _ _).link_eq (by decide), link_serveWatch, if_pos rfl]

/-- R144: an arrival changes no originator condition. -/
theorem recheck_arrived (s : State) (h : Hdr) (x : Transit) : (arrived s h).recheck x = s.recheck x := by
  have touched := arrived_touches s h
  have link : (arrived s h).plant.link = s.plant.link := touched .plantLink (by decide)
  have quiescing : (arrived s h).isQuiescing x.area = s.isQuiescing x.area := by
    rw [isQuiescing, touched.lookHand_eq (by decide)]
    rfl
  unfold recheck
  rw [touched.logonAt_eq (by decide), touched.levelOf_eq (by decide), touched.ownerOf_eq (by decide), link, quiescing,
    touched.tagRec?_eq (by decide), funext (s.blocker?_arrived h)]
  rfl

theorem recheck_eq_none {s : State} {x : Transit} (logged : s.logonAt x.origStation = some x.origOp)
    (level : 3 ≤ s.levelOf x.origOp x.area) (owner : s.ownerOf x.area = some (x.origOp, x.origStation))
    (notLost : s.plant.link ≠ .lost) (notStart : s.plant.link ≠ .start) (still : s.isQuiescing x.area = false)
    (open_ : ∀ r, s.tagRec? x.tag = some r → s.blocker? r = none) : s.recheck x = none := by
  have clear : ((s.tagRec? x.tag).bind s.blocker?).isSome = false := by
    cases record : s.tagRec? x.tag with
    | none => rfl
    | some r => rw [Option.bind_some, open_ r record]; rfl
  have able : ¬ s.levelOf x.origOp x.area < 3 := by omega
  simp [recheck, logged, able, owner, notLost, notStart, still, clear]

theorem signerFits_arrived {s : State} {h : Hdr} {k tag op : Nat} {x : Transit} (low : 1 ≤ k) (high : k ≤ 65535)
    (known : tag ≤ 4095) (logged : s.logonAt h.station = some op) (look : s.gate.transit.look k = some x) (named : x.tag = tag)
    (waits : x.state = .awaiting) (other : op ≠ x.origOp) (away : h.station ≠ x.origStation) (level : 3 ≤ s.levelOf op x.area) :
    (arrived s h).SignerFits h.station k tag op x := by
  have touched := arrived_touches s h
  exact ⟨⟨low, high⟩, known, (touched.logonAt_eq (by decide) _).trans logged, (touched.lookTransit_eq (by decide) _).trans look,
    named, waits, ⟨other, away⟩, by rw [touched.levelOf_eq (by decide)]; exact level⟩

/-! ### The agreement -/

/-- R144: the entry as its countersigner leaves it, forwarded. -/
def agreed (s : State) (k : Nat) (x : Transit) (op st : Nat) : State :=
  ((s.updTransit k (fun t => { t with signer := some (op, st) })).forwardEntry k).say (s.closedMsgs k x .forwarded (some st))

theorem takeAgree_of_agreed {s : State} {st k tag op : Nat} {x : Transit} (fits : s.SignerFits st k tag op x)
    (clear : s.recheck x = none) : s.takeAgree st k tag 0 = (s.agreed k x op st, ans .done k) := by
  have ok := s.countersignChecks_ok.mpr ⟨rfl, fits⟩
  simp only [takeAgree, ok, clear, agreed]

theorem takeAgree_of_failed {s : State} {st k tag op : Nat} {x : Transit} {c : Code} (fits : s.SignerFits st k tag op x)
    (fails : s.recheck x = some c) :
    s.takeAgree st k tag 0 = (s.endAwaiting k .refused c.number .refused (some st) (some st), ans .done k) := by
  have ok := s.countersignChecks_ok.mpr ⟨rfl, fits⟩
  simp only [takeAgree, ok, fails]

theorem takeDecline_of_fits {s : State} {st k tag op : Nat} {x : Transit} (fits : s.SignerFits st k tag op x) :
    s.takeDecline st k tag 0 = (s.endAwaiting k .declined op .declined (some st) none, ans .done k) := by
  have ok := s.countersignChecks_ok.mpr ⟨rfl, fits⟩
  simp only [takeDecline, ok]

theorem takeWithdraw_of_fits {s : State} {st k : Nat} {x : Transit} (low : 1 ≤ k) (high : k ≤ 65535)
    (logged : s.logonAt st = some x.origOp) (station : st = x.origStation) (look : s.gate.transit.look k = some x)
    (waits : x.state = .awaiting) :
    s.takeWithdraw st k 0 = (s.endAwaiting k .withdrawn WithdrawReason.withdraw.number .withdrawn none none, ans .done k) := by
  simp only [takeWithdraw, logged, look]
  rw [if_neg (by simp), if_neg (by omega), if_neg (by simp [waits]), if_neg (by simp [station])]

theorem agreed_touches (s : State) (k : Nat) (x : Transit) (op st : Nat) :
    Touches [.transit, .said .forward, .said .notice] s (s.agreed k x op st) := by
  rw [agreed]
  exact .after (say_notices _ _ (kind_closedMsgs s)) (by decide) (.after (forwardEntry_touches _ k) (by decide)
    ((s.updTransit_touches k _).mono (by decide)))

section
variable {s : State} {k op st : Nat} {x : Transit} (look : s.gate.transit.look k = some x)
include look

theorem lookTransit_signed : (s.updTransit k (fun t => { t with signer := some (op, st) })).gate.transit.look k =
    some { x with signer := some (op, st) } := by
  rw [updTransit_transit, Tbl.look_upd, if_pos rfl, look]
  rfl

theorem agreed_eq : s.agreed k x op st = (({ s with gate := { s.gate with
      transit := (s.gate.transit.upd k (fun t => { t with signer := some (op, st) })).put k
        (s.forwardedNow { x with signer := some (op, st) }) } } : State).say
      [s.forwardMsg k (s.forwardedNow { x with signer := some (op, st) }) false]).say (s.closedMsgs k x .forwarded (some st)) := by
  rw [agreed, forwardEntry_of_look (lookTransit_signed look)]
  rfl

theorem lookTransit_agreed (j : Nat) : (s.agreed k x op st).gate.transit.look j =
    if j = k then some (s.forwardedNow { x with signer := some (op, st) }) else s.gate.transit.look j := by
  rw [agreed_eq look]
  refine (Tbl.look_put _ _ _ _).trans ?_
  split
  · rfl
  case isFalse other => rw [Tbl.look_upd, if_neg other]

theorem agreed_said_forward :
    s.forwardMsg k (s.forwardedNow { x with signer := some (op, st) }) false ∈ (s.agreed k x op st).said := by
  rw [agreed_eq look]
  exact say_says _ _ _ ((said_say _ _).mpr (.inr (List.mem_singleton.mpr rfl)))

theorem agreed_touched : (s.agreed k x op st).ev.touched = s.ev.touched := by
  rw [agreed_eq look]
  rfl

theorem closed_agreed {m : Out} (closed : m.isClosed = true) :
    m ∈ (s.agreed k x op st).said ↔ m ∈ s.said ∨ m ∈ s.closedMsgs k x .forwarded (some st) := by
  rw [agreed_eq look]
  constructor
  · intro hm
    rcases (said_say _ _).mp hm with before | told
    · rcases (said_say _ _).mp before with before | forward
      · exact .inl before
      · rw [List.mem_singleton.mp forward] at closed
        exact absurd closed (by simp [forwardMsg, Out.isClosed])
    · exact .inr told
  · rintro (before | told)
    · exact say_says _ _ _ (say_says _ _ _ before)
    · exact (said_say _ _).mpr (.inr told)

/-! ### The end of a waiting entry -/

/-- What the end of a waiting entry leaves at the end of its event. -/
theorem endAwaiting_effect (unsaid : ∀ m ∈ s.said, m.isClosed = false) (o : ResultOutcome) (d : Nat) (c : ClosedOutcome)
    (cause also : Option Nat) :
    (∀ j, (s.endAwaiting k o d c cause also).finish.gate.transit.look j = if j = k then none else s.gate.transit.look j) ∧
    (∀ st, st = x.origStation ∨ also = some st → s.link st ≠ .absent →
      s.outTo st (s.resultOf k x o d) ∈ (s.endAwaiting k o d c cause also).finish.sent) ∧
    ∀ st, 1 ≤ st → st ≤ 16 →
      (s.outTo st (.notice (.countersignClosed k x.tag c)) ∈ (s.endAwaiting k o d c cause also).finish.sent ↔
        st ≠ x.origStation ∧ cause ≠ some st ∧ s.link st ≠ .absent ∧ ∃ o, s.logonAt st = some o ∧ 3 ≤ s.levelOf o x.area) := by
  refine ⟨fun j => ?_, fun st party present => ?_, fun st low high => ?_⟩
  · rw [(finish_touches _).lookTransit_eq (by decide), lookTransit_endAwaiting]
  · exact mem_sent_finish _ (endAwaiting_told look o d c cause (party.imp_right .inr) present) rfl
  · rw [closed_mem_sent_finish_iff _ rfl, closed_endAwaiting look o d c cause also rfl, ← s.mem_closedMsgs low high (k := k)]
    exact ⟨fun h => h.resolve_left (fun said => absurd (unsaid _ said) (by simp [outTo, Out.isClosed])), .inr⟩

end

end State

end Sys2Proof.Machine

open Sys2Proof.Machine State in
/-- Settles O39: the agreement forwards the entry and closes the request at the other stations. -/
theorem agreementForwards : Obligations.AgreementForwards := by
  unfold Obligations.AgreementForwards
  intro s h k tag op x taken low high known logged look named waits other away level originator able owner notLost notStart still open_
  have fits := signerFits_arrived (h := h) low high known logged look named waits other away level
  have clear : (arrived s h).recheck x = none :=
    (s.recheck_arrived h x).trans (recheck_eq_none originator able owner notLost notStart still (by rw [named]; exact open_))
  have touched := arrived_touches s h
  have quiet := arrived_ev s h
  have unsaid := s.said_arrived_open h
  generalize arriving : arrived s h = u at fits clear touched quiet unsaid ⊢
  have done := takeAgree_of_agreed fits clear
  have agreeing := u.agreed_touches k x op h.station
  obtain ⟨stepped, answered, -⟩ := requestEvent_carriedOut (i := .countersignAgree h k tag 0)
    (f := fun s => s.takeAgree h.station k tag 0) taken rfl arriving done rfl agreeing
    (List.subset_append_left _ (.said .answer :: endParts)) (List.subset_append_right _ _)
  have ended := finish_answer_eq (u.agreed k x op h.station) h (ans .done k)
  have station (st : Nat) (m : ConsoleMsg) : u.outTo st m = s.outTo st m := touched.outTo_eq (by decide) st m
  refine ⟨_, stepped, ?_, fun j elsewhere => ?_, ?_, fun st low' high' => ?_, answered,
    .after (answer_touches _ h _) (by decide) (.after (finish_touches_of_untouched ?_) (by decide) (agreeing.mono (by decide)))⟩
  · rw [ended.lookTransit_eq (by decide), lookTransit_agreed fits.look, if_pos rfl, forwardedNow]
    have base : u.baseTime x.tag = s.baseTime tag := by
      rw [named, baseTime, baseTime, touched.tagRec?_eq (by decide)]
      rfl
    rw [base, touched.now_eq (by decide)]
    rfl
  · rw [ended.lookTransit_eq (by decide), lookTransit_agreed fits.look, if_neg elsewhere, touched.lookTransit_eq (by decide)]
    rfl
  · have said := agreed_said_forward (op := op) (st := h.station) fits.look
    simp only [forwardMsg, forwardedNow, Option.map_some, Option.getD_some, touched.badgeOf_eq (by decide), named] at said
    exact mem_sent_answer _ (mem_sent_finish _ said rfl)
  · rw [closed_mem_sent_answer_iff _ _ _ rfl, closed_mem_sent_finish_iff _ rfl, closed_agreed fits.look rfl, ← station]
    have asked := u.mem_closedMsgs (k := k) (x := x) (c := .forwarded) (cause := some h.station) low' high'
    rw [named] at asked
    rw [asked, touched.logonAt_eq (by decide)]
    simp only [touched.levelOf_eq (by decide)]
    constructor
    · rintro (said | ⟨a, b, c, d⟩)
      · exact absurd (unsaid _ said) (by simp [outTo, Out.isClosed])
      · exact ⟨a, fun same => b (congrArg some same.symm), c, d⟩
    · rintro ⟨a, b, c, d⟩
      exact .inr ⟨a, fun same => b (Option.some.inj same).symm, c, d⟩
  · rw [agreed_touched fits.look, quiet]
    rfl

open Sys2Proof.Machine State in
/-- Settles O40: the four endings differ in their outcome, their cause and whether the signer is told. -/
theorem waitingCommandEnds : Obligations.WaitingCommandEnds := by
  unfold Obligations.WaitingCommandEnds
  intro s k x look waits _
  have request {i : Sys2Proof.Instr} {h : Sys2Proof.Hdr} {f : State → State × Sys2Proof.Machine.Ans} {o : ResultOutcome} {d : Nat}
      {c : ClosedOutcome} {cause also : Option Nat} (taken : Taken s h) (asks : exec i s = requestEvent h f s)
      (done : f (arrived s h) = ((arrived s h).endAwaiting k o d c cause also, ans .done k)) :
      ∃ t, exec i s = .next t ∧ (t.gate.transit.look k = none ∧ (∀ j, j ≠ k → t.gate.transit.look j = s.gate.transit.look j) ∧
          ((arrived s h).link x.origStation ≠ .absent →
            s.outTo x.origStation (.result k x.tag x.action o d s.time.mill) ∈ t.sent)) ∧
        (∀ st, 1 ≤ st → st ≤ 16 → (s.outTo st (.notice (.countersignClosed k x.tag c)) ∈ t.sent ↔
          st ≠ x.origStation ∧ cause ≠ some st ∧ (arrived s h).link st ≠ .absent ∧
            ∃ o, s.logonAt st = some o ∧ 3 ≤ s.levelOf o x.area)) ∧
        (∀ st, also = some st → (arrived s h).link st ≠ .absent →
          s.outTo st (.result k x.tag x.action o d s.time.mill) ∈ t.sent) ∧
        Answered t h (ans .done k) ∧
        Touches (([.transit, .handover, .said .result, .said .answer] : List Part) ++ endParts) (arrived s h) t := by
    have touched := arrived_touches s h
    have unsaid := s.said_arrived_open h
    generalize arriving : arrived s h = u at done touched unsaid ⊢
    obtain ⟨stepped, answered, within⟩ := requestEvent_carriedOut
      (l' := ([.transit, .handover, .said .result, .said .answer] : List Part) ++ endParts) taken asks arriving done rfl
      (u.endAwaiting_touches k o d c cause also) (by decide) (by decide)
    obtain ⟨freed, results, closed⟩ := endAwaiting_effect ((touched.lookTransit_eq (by decide) k).trans look) unsaid o d c cause also
    have answer := (u.endAwaiting k o d c cause also).finish.answer_touches h (ans .done k)
    have result (st : Nat) (party : st = x.origStation ∨ also = some st) (present : u.link st ≠ .absent) :
        s.outTo st (.result k x.tag x.action o d s.time.mill) ∈
          ((u.endAwaiting k o d c cause also).finish.answer h (ans .done k)).sent := by
      have told := results st party present
      rw [touched.outTo_eq (by decide), Touches.resultOf_eq touched (by decide)] at told
      exact mem_sent_answer _ told
    refine ⟨_, stepped, ⟨?_, fun j other => ?_, result _ (.inl rfl)⟩, fun st low high => ?_, fun st named => result st (.inr named),
      answered, within⟩
    · rw [answer.lookTransit_eq (by decide), freed, if_pos rfl]
    · rw [answer.lookTransit_eq (by decide), freed, if_neg other, touched.lookTransit_eq (by decide)]
      rfl
    · have iff_ := closed st low high
      rw [touched.outTo_eq (by decide), touched.logonAt_eq (by decide)] at iff_
      simp only [touched.levelOf_eq (by decide)] at iff_
      rw [closed_mem_sent_answer_iff _ _ _ rfl]
      exact iff_
  refine ⟨fun h op taken low high known logged other away level => ?_,
    fun h op c taken low high known logged other away level fails => ?_, fun h taken low high station logged => ?_,
    fun on late => ?_⟩
  · have fits := signerFits_arrived (h := h) low high known logged look rfl waits other away level
    obtain ⟨t, stepped, ended, told, -, answered, within⟩ := request (i := .countersignDecline h k x.tag 0) taken rfl
      (takeDecline_of_fits fits)
    exact ⟨t, stepped, ended, told, answered, within⟩
  · have fits := signerFits_arrived (h := h) low high known logged look rfl waits other away level
    obtain ⟨t, stepped, ended, told, signer, answered, within⟩ := request (i := .countersignAgree h k x.tag 0) taken rfl
      (takeAgree_of_failed fits ((s.recheck_arrived h x).trans fails))
    exact ⟨t, stepped, ended, told, signer h.station rfl (by rw [link_arrived]; simp), answered, within⟩
  · have touched := arrived_touches s h
    have done := takeWithdraw_of_fits low high ((touched.logonAt_eq (by decide) _).trans logged) station
      ((touched.lookTransit_eq (by decide) k).trans look) waits
    obtain ⟨t, stepped, ended, told, -, answered, within⟩ := request (i := .withdraw h k 0) taken rfl done
    exact ⟨t, stepped, ended, told, answered, within⟩
  · have due : s.fresh.windowDue k = true := by
      have here : s.fresh.gate.transit.look k = some x := look
      rw [windowDue, ticketWhere, here]
      exact decide_eq_true ⟨waits, late⟩
    have look' : s.fresh.gate.transit.look k = some x := look
    obtain ⟨freed, results, closed⟩ := endAwaiting_effect (s := s.fresh) look' (fun m hm => by simp [said, EvBuf.empty] at hm)
      .lapsed 0 .lapsed none none
    refine ⟨_, timerEvent_of_due (due := fun s => s.windowDue k) on due (fun s => s.windowEnds k), ⟨?_, fun j other => ?_,
      results _ (.inl rfl)⟩, closed, .after (finish_touches _) (by decide) ((endAwaiting_touches _ _ _ _ _ _ _).mono (by decide))⟩
    · exact (freed k).trans (if_pos rfl)
    · exact (freed j).trans (if_neg other)
end

section
/-! PROOFS. An operator logs off or is logged off by the grace timer (R29, R34). -/

namespace Sys2Proof.Machine

/-- R151: where an area waits for nothing, no step that only closes brings it to wait. -/
theorem Hands.idle {s t : State} (h : Hands s t) {a : Nat} (idle : s.hand.look a = none) : t.hand.look a = none := by
  have lessens := h a
  rw [idle] at lessens
  cases after : t.hand.look a with
  | none => rfl
  | some x =>
    rw [after] at lessens
    cases x <;> exact lessens.elim

/-- The address that a taken request came from is that of its station's record. -/
theorem outTo_of_taken {s : State} {h : Hdr} (taken : Taken s h) (m : ConsoleMsg) :
    s.outTo h.station m = .console h.station h.src m := by
  obtain ⟨r, record, addr⟩ := Option.map_eq_some_iff.mp taken.1.2.2.2
  simp [State.outTo, record, addr]

namespace State

variable (s : State)

/-! ### Sessions close and takeovers are cancelled -/

theorem lookHand_foldl_closeSession (r : CloseReason) (as : List Nat) (b : Nat) :
    (as.foldl (fun s a => s.closeSession a r) s).hand.look b =
      if b ∈ as ∧ (s.session? b).isSome = true then none else s.hand.look b := by
  induction as generalizing s with
  | nil => simp
  | cons a as ih =>
    have session : (s.closeSession a r).session? b = if b = a ∧ (s.session? a).isSome = true then none else s.session? b := by
      have look := s.lookHand_closeSession a r b
      split at look
      case isTrue closed => rw [if_pos closed, session?, look]
      case isFalse open_ => rw [if_neg open_, session?_of_lookHand look]
    rw [List.foldl_cons, ih, session, lookHand_closeSession]
    by_cases here : b = a
    · subst here
      cases s.session? b <;> simp
    · simp [here]

theorem lookHand_foldl_cancelTakeover (r : CloseReason) (as : List Nat) (b : Nat) :
    (as.foldl (fun s a => s.cancelTakeover a r) s).hand.look b =
      if b ∈ as ∧ (s.takingOver? b).isSome = true then none else s.hand.look b := by
  induction as generalizing s with
  | nil => simp
  | cons a as ih =>
    have taking : (s.cancelTakeover a r).takingOver? b = if b = a ∧ (s.takingOver? a).isSome = true then none else s.takingOver? b := by
      have look := s.lookHand_cancelTakeover a r b
      split at look
      case isTrue closed => rw [if_pos closed, takingOver?, look]
      case isFalse open_ => rw [if_neg open_, takingOver?, takingOver?, look]
    rw [List.foldl_cons, ih, taking, lookHand_cancelTakeover]
    by_cases here : b = a
    · subst here
      cases s.takingOver? b <;> simp
    · simp [here]

theorem mem_sessionsWhere {p : Session → Bool} {a : Nat} :
    a ∈ s.sessionsWhere p ↔ (1 ≤ a ∧ a ≤ 12) ∧ ∃ x, s.session? a = some x ∧ p x = true := by
  rw [sessionsWhere, List.mem_filter, mem_areaNumbers]
  cases s.session? a <;> simp

theorem mem_takeoversBy {op a : Nat} :
    a ∈ s.takeoversBy op ↔ (1 ≤ a ∧ a ≤ 12) ∧ ∃ x, s.hand.look a = some (.takingOver x) ∧ x.op = op := by
  rw [takeoversBy, List.mem_filter, mem_areaNumbers]
  refine and_congr_right fun _ => ?_
  split
  case h_1 x look => simp [look]
  case h_2 other =>
    simp only [Bool.false_eq_true, false_iff]
    rintro ⟨x, look, -⟩
    exact other x look

/-- R10 step 3, R29 step 1, R34 step 3: a session in which the operator is incoming, and a takeover that the operator leads,
end. -/
theorem lookHand_endIncoming_of_session {a op : Nat} {x : Session} (range : 1 ≤ a ∧ a ≤ 12) (open_ : s.session? a = some x)
    (incoming : x.inOp = op) : (s.endIncoming op).hand.look a = none := by
  have closed : ((s.sessionsWhere (fun x => decide (x.inOp = op))).foldl (fun s a => s.closeSession a .incomingGone) s).hand.look a =
      none := by
    rw [lookHand_foldl_closeSession, if_pos ⟨s.mem_sessionsWhere.mpr ⟨range, x, open_, by simp [incoming]⟩, by simp [open_]⟩]
  unfold endIncoming
  dsimp only
  rw [lookHand_foldl_cancelTakeover, closed, ite_self]

theorem lookHand_endIncoming_of_takeover {a op : Nat} {x : Takeover} (range : 1 ≤ a ∧ a ≤ 12)
    (taking : s.hand.look a = some (.takingOver x)) (leads : x.op = op) : (s.endIncoming op).hand.look a = none := by
  have stays : ((s.sessionsWhere (fun x => decide (x.inOp = op))).foldl (fun s a => s.closeSession a .incomingGone) s).hand.look a =
      some (.takingOver x) := by
    rw [lookHand_foldl_closeSession, if_neg (by simp [session?, taking]), taking]
  unfold endIncoming
  dsimp only
  rw [lookHand_foldl_cancelTakeover, if_pos]
  exact ⟨(mem_takeoversBy _).mpr ⟨range, x, stays, leads⟩, by rw [takingOver?_eq_some.mpr stays]; rfl⟩

/-! ### LOGOFF -/

theorem tone?_answer (h : Hdr) (a : Ans) (st : Nat) : (s.answer h a).tone? st = s.tone? st := rfl


/-- R29: what LOGOFF leaves before its cover scan. -/
def loggedOff (op st : Nat) : State :=
  ((s.endIncoming op).withdrawWaiting (fun t => decide (t.origOp = op)) .logoff).endLogon st

theorem takeLogoff_of_idle {st op : Nat} (logged : s.logonAt st = some op) (idle : s.heldArea? op = none) :
    s.takeLogoff st = ((s.loggedOff op st).coverScan.forceAttention st, ans .done) := by
  simp only [takeLogoff, logged, idle, loggedOff]

theorem loggedOff_touches (op st : Nat) :
    Touches ([.logon, .grace, .recs, .attnStacks] ++ waitingParts) s (s.loggedOff op st) :=
  .after (endLogon_touches _ st) (by decide) (.after (withdrawWaiting_touches _ _ _) (by decide)
    ((s.endIncoming_touches op).mono (by decide)))

theorem graceLook_endLogon (st : Nat) : (s.endLogon st).auth.grace.look st = none := (Tbl.look_del _ _ _).trans (if_pos rfl)

end State

end Sys2Proof.Machine

open Sys2Proof.Machine State in
/-- Settles O18: what waits for the operator ends first, then the logon. -/
theorem logoffEndsLogon : Obligations.LogoffEndsLogon := by
  unfold Obligations.LogoffEndsLogon
  intro s h op taken logged holds listed
  have touched := arrived_touches s h
  have up := s.link_arrived h
  have quiet := arrived_ev s h
  generalize arriving : arrived s h = u at touched up quiet ⊢
  have idle : u.heldArea? op = none := by
    refine List.find?_eq_none.mpr (fun a listed => ?_)
    obtain ⟨low, high⟩ := mem_areaNumbers.mp listed
    rw [Bool.or_eq_true, decide_eq_true_eq, decide_eq_true_eq, not_or, touched.ownerOf_eq (by decide), touched.session?_eq (by decide)]
    exact holds a low high
  have done : u.takeLogoff h.station = ((u.loggedOff op h.station).coverScan.forceAttention h.station, ans .done) :=
    u.takeLogoff_of_idle ((touched.logonAt_eq (by decide) _).trans logged) idle
  have off := u.loggedOff_touches op h.station
  have scanned := (u.loggedOff op h.station).coverScan_touches
  have after : Touches coverParts (u.loggedOff op h.station) ((u.loggedOff op h.station).coverScan.forceAttention h.station) :=
    .after (forceAttention_touches _ _) (by decide) scanned
  obtain ⟨stepped, answered, within⟩ := requestEvent_carriedOut (i := .logoff h) (f := fun s => s.takeLogoff h.station)
    (l' := ([.logon, .grace, .transit, .handover, .said .result, .said .answer] : List Part) ++ coverParts ++ endParts) taken rfl
    arriving done rfl (.after after (by decide) (off.mono (l' := [.logon, .grace] ++ waitingParts ++ coverParts) (by decide)))
    (by decide) (by decide)
  have ended := finish_answer_eq ((u.loggedOff op h.station).coverScan.forceAttention h.station) h (ans .done)
  have total : Touches (.said .answer :: (coverParts ++ endParts)) (u.loggedOff op h.station)
      (((u.loggedOff op h.station).coverScan.forceAttention h.station).finish.answer h (ans .done)) :=
    .after ended (by decide) (after.mono (by decide))
  have withdrawn := ((u.endIncoming op).withdrawWaiting_keeps (fun t => decide (t.origOp = op)) .logoff).hands
  have logoff : Touches [.logon, .grace] ((u.endIncoming op).withdrawWaiting (fun t => decide (t.origOp = op)) .logoff)
      (u.loggedOff op h.station) := endLogon_touches _ _
  have closed (a : Nat) (gone : (u.endIncoming op).hand.look a = none) :
      (((u.loggedOff op h.station).coverScan.forceAttention h.station).finish.answer h (ans .done)).hand.look a = none := by
    rw [total.lookHand_eq (by decide), logoff.lookHand_eq (by decide)]
    exact withdrawn.idle gone
  refine ⟨_, stepped, ?_, fun st other => ?_, ?_, fun a low high incoming => closed a ?_, fun a x low high taking leads => closed a ?_,
    fun k x look => ?_, ?_, answered, within⟩
  · rw [total.logonAt_eq (by decide), loggedOff, logonAt_endLogon, if_pos rfl]
  · have kept : Touches ([.recs, .attnStacks] ++ waitingParts) u
        ((u.endIncoming op).withdrawWaiting (fun t => decide (t.origOp = op)) .logoff) :=
      .after (withdrawWaiting_touches _ _ _) (by decide) ((u.endIncoming_touches op).mono (by decide))
    rw [total.logonAt_eq (by decide), loggedOff, logonAt_endLogon, if_neg other, kept.logonAt_eq (by decide),
      touched.logonAt_eq (by decide)]
    rfl
  · rw [(total .grace (by decide) : _ = _)]
    exact graceLook_endLogon _ _
  · obtain ⟨x, open_, incoming⟩ := Option.map_eq_some_iff.mp incoming
    exact u.lookHand_endIncoming_of_session ⟨low, high⟩ ((touched.session?_eq (by decide) a).trans open_) incoming
  · exact u.lookHand_endIncoming_of_takeover ⟨low, high⟩ ((touched.lookHand_eq (by decide) a).trans taking) leads
  · have before : Touches [.handover, .recs, .attnStacks, .said .notice] u (u.endIncoming op) := u.endIncoming_touches op
    have table : (u.endIncoming op).gate.transit = s.gate.transit :=
      (before .transit (by decide) : _ = _).trans (touched .transit (by decide))
    rw [total.lookTransit_eq (by decide), logoff.lookTransit_eq (by decide),
      lookTransit_withdrawWaiting (by rw [table]; exact listed) _ _ (by rw [table]; exact look)]
    simp only [decide_eq_true_eq]
  · have present : ((u.loggedOff op h.station).coverScan.forceAttention h.station).isUp h.station = true := by
      rw [after.isUp_eq (by decide), off.isUp_eq (by decide), isUp, up]
      rfl
    have told := attention_finish _ taken.1.2.1 taken.1.2.2.1 present (forceAttention_force _ _)
    rw [after.outTo_eq (by decide), off.outTo_eq (by decide), touched.outTo_eq (by decide)] at told
    rw [← outTo_of_taken taken, tone?_answer]
    exact mem_sent_answer _ told
end

section
/-! PROOFS. An operator is forced off (R10, R34): the areas are lost first, then what waits for the operator ends, and the logon
goes last. -/

namespace Sys2Proof.Machine

namespace State

variable (s : State)

/-! ### What a lost area waits for -/

theorem lookHand_takeArea (a op b : Nat) (taking : (s.takingOver? a).isSome = true) :
    (s.takeArea a op).hand.look b = if b = a then none else s.hand.look b := by
  unfold takeArea
  split
  · rw [lookHand_cancelTakeover]
    simp [taking]
  case h_2 given =>
    obtain ⟨st, -, rfl⟩ := transferOwner_eq_some.mp given
    rw [lookHand_concludeTransfer, (giveOwner_touches _ _ _ _).lookHand_eq (by decide)]

/-- R167: a takeover that is pending on the area ends with its loss; nothing else that an area waits for changes. -/
theorem lookHand_loseArea (a b : Nat) :
    (s.loseArea a).hand.look b = if b = a ∧ (s.takingOver? a).isSome = true then none else s.hand.look b := by
  have lost := s.disown_touches a
  have hand := lost.lookHand_eq (by decide)
  have taking : (s.disown a).takingOver? a = s.takingOver? a := by rw [takingOver?, takingOver?, hand]
  unfold loseArea
  dsimp only
  split
  case h_1 x look =>
    have pending : ((s.disown a).takingOver? a).isSome = true := by rw [takingOver?_eq_some.mpr look]; rfl
    rw [lookHand_takeArea _ _ _ _ pending, hand, ← taking]
    simp only [pending, and_true]
  case h_2 other =>
    have none_ : s.takingOver? a = none := by
      rw [← taking]
      exact Option.eq_none_iff_forall_ne_some.mpr fun x h => other x (takingOver?_eq_some.mp h)
    rw [hand, none_]
    simp

theorem foldl_loseArea_session (as : List Nat) {a : Nat} {x : Session} (open_ : s.session? a = some x) :
    (as.foldl loseArea s).session? a = some x := by
  induction as generalizing s with
  | nil => exact open_
  | cons b as ih =>
    refine ih _ ?_
    rw [session?_of_lookHand, open_]
    rw [lookHand_loseArea, if_neg]
    rintro ⟨rfl, taking⟩
    unfold session? at open_
    unfold takingOver? at taking
    split at taking
    case h_1 look => rw [look] at open_; simp at open_
    case h_2 => simp at taking

theorem foldl_loseArea_takeover (as : List Nat) {a : Nat} {x : Takeover} (taking : s.hand.look a = some (.takingOver x)) :
    (as.foldl loseArea s).hand.look a = some (.takingOver x) ∨ (as.foldl loseArea s).hand.look a = none := by
  induction as generalizing s with
  | nil => exact .inl taking
  | cons b as ih =>
    rw [List.foldl_cons]
    by_cases here : a = b ∧ (s.takingOver? b).isSome = true
    · have gone : (s.loseArea b).hand.look a = none := by rw [lookHand_loseArea, if_pos here]
      exact .inr (Hands.idle (Keeps.foldl as (fun s a _ => s.loseArea_keeps a) _).hands gone)
    · exact ih _ (by rw [lookHand_loseArea, if_neg here, taking])

theorem foldl_loseArea_owner (as : List Nat) {a : Nat} (kept : a ∉ as) : (as.foldl loseArea s).ownerOf a = s.ownerOf a := by
  induction as generalizing s with
  | nil => rfl
  | cons b as ih =>
    rw [List.mem_cons, not_or] at kept
    exact (ih _ kept.2).trans (s.ownerOf_loseArea_ne kept.1)

/-! ### What is said stays said -/

theorem coverScan_says : Says s s.coverScan := by
  have before : Says s (areaNumbers.foldl setCover s).setOrphans :=
    ((foldl_setCover_touches _ s).says (by simp)).trans ((setOrphans_touches _).says (by simp))
  have told (u : State) : Says u u.sayAreas := fun o ho => u.say_says _ o ho
  exact (before.trans (told _)).trans (sayAreas_says_coverScan s)

theorem lookHand_endOutgoing (op a : Nat) : (s.endOutgoing op).hand.look a =
    if a ∈ s.sessionsWhere (fun x => decide (x.outOp = op)) ∧ (s.session? a).isSome = true then none else s.hand.look a :=
  s.lookHand_foldl_closeSession _ _ a

/-! ### The operator is forced off -/

/-- What stands before the logon ends. -/
def shedding (op : Nat) (w : WithdrawReason) : State :=
  (((((s.areasOf op).foldl loseArea s).endOutgoing op).endIncoming op).withdrawWaiting (fun t => decide (t.origOp = op)) w)

theorem forceOff_eq (op st : Nat) (r : LogoffReason) (w : WithdrawReason) : s.forceOff op st r w =
    (((s.shedding op w).endLogon st).say (((s.shedding op w).endLogon st).heardBy st (.notice (.loggedOff r)))).coverScan := rfl

theorem shedding_touches (op : Nat) (w : WithdrawReason) :
    Touches ([.recs, .attnStacks] ++ waitingParts ++ takingParts) s (s.shedding op w) :=
  .after (withdrawWaiting_touches _ _ _) (by decide) (.after (endIncoming_touches _ op) (by decide)
    (.after (endOutgoing_touches _ op) (by decide) ((Touches.foldl (fun s a => s.loseArea_touches a) _ s).mono (by decide))))

/-- The scan and the notice that follow the end of the logon. -/
theorem forceOff_touches_endLogon (op st : Nat) (r : LogoffReason) (w : WithdrawReason) :
    Touches coverParts ((s.shedding op w).endLogon st) (s.forceOff op st r w) := by
  rw [forceOff_eq]
  exact .after (coverScan_touches _) (by decide) ((say_notices _ _ kind_heardBy_notice).mono (by decide))

theorem hand_of_session {s : State} {a : Nat} {x : Session} (open_ : s.session? a = some x) : (s.hand.look a).isSome = true := by
  cases look : s.hand.look a with
  | none => simp [session?, look] at open_
  | some y => rfl

theorem shedding_idle {op a : Nat} (w : WithdrawReason)
    (gone : ((((s.areasOf op).foldl loseArea s).endOutgoing op).endIncoming op).hand.look a = none) :
    (s.shedding op w).hand.look a = none :=
  (withdrawWaiting_keeps _ _ w).hands.idle gone

/-- R10, R34: every session that the operator is a party to closes. -/
theorem shedding_session {op a : Nat} {x : Session} (range : 1 ≤ a ∧ a ≤ 12) (open_ : s.session? a = some x)
    (party : x.outOp = op ∨ x.inOp = op) (w : WithdrawReason) : (s.shedding op w).hand.look a = none := by
  refine s.shedding_idle w ?_
  have lost := s.foldl_loseArea_session (s.areasOf op) open_
  generalize (s.areasOf op).foldl loseArea s = s1 at lost
  by_cases outgoing : x.outOp = op
  · refine (endIncoming_keeps _ op).hands.idle ?_
    rw [lookHand_endOutgoing, if_pos]
    exact ⟨(mem_sessionsWhere _).mpr ⟨range, x, lost, by simp [outgoing]⟩, by rw [lost]; rfl⟩
  · have stays : (s1.endOutgoing op).session? a = some x := by
      rw [session?_of_lookHand, lost]
      rw [lookHand_endOutgoing, if_neg]
      rintro ⟨listed, -⟩
      obtain ⟨-, y, open', out⟩ := (mem_sessionsWhere _).mp listed
      cases lost.symm.trans open'
      exact outgoing (of_decide_eq_true out)
    exact lookHand_endIncoming_of_session _ range stays (party.resolve_left outgoing)

/-- R10, R34, R167: every takeover that the operator leads ends. -/
theorem shedding_takeover {op a : Nat} {x : Takeover} (range : 1 ≤ a ∧ a ≤ 12) (taking : s.hand.look a = some (.takingOver x))
    (leads : x.op = op) (w : WithdrawReason) : (s.shedding op w).hand.look a = none := by
  refine s.shedding_idle w ?_
  rcases s.foldl_loseArea_takeover (s.areasOf op) taking with stays | gone
  · refine lookHand_endIncoming_of_takeover _ range ?_ leads
    rw [lookHand_endOutgoing, if_neg (by simp [session?, stays]), stays]
  · exact (endIncoming_keeps _ op).hands.idle ((endOutgoing_keeps _ op).hands.idle gone)

theorem shedding_transit {op : Nat} (w : WithdrawReason) (listed : Tbl.wf s.gate.transit) {k : Nat} {x : Transit}
    (look : s.gate.transit.look k = some x) : (s.shedding op w).gate.transit.look k =
      if x.state = .awaiting ∧ x.origOp = op then none else some x := by
  have before : Touches ([.recs, .attnStacks] ++ takingParts) s ((((s.areasOf op).foldl loseArea s).endOutgoing op).endIncoming op) :=
    .after (endIncoming_touches _ op) (by decide) (.after (endOutgoing_touches _ op) (by decide)
      ((Touches.foldl (fun s a => s.loseArea_touches a) _ s).mono (by decide)))
  have table := before .transit (by decide)
  have table : ((((s.areasOf op).foldl loseArea s).endOutgoing op).endIncoming op).gate.transit = s.gate.transit := table
  rw [shedding, lookTransit_withdrawWaiting (by rw [table]; exact listed) _ _ (by rw [table]; exact look)]
  simp only [decide_eq_true_eq]

/-- R10, R34: the operator owns nothing any more. -/
theorem shedding_owner {s : State} {Y : Nat → Nat → Prop} (e : s.EntitledBut none Y) (op : Nat) (w : WithdrawReason) :
    (∀ a b, (s.shedding op w).ownerOf a ≠ some (op, b)) ∧
      ∀ a, (s.ownerOf a).map Prod.fst ≠ some op → (s.shedding op w).ownerOf a = s.ownerOf a := by
  have owned (a : Nat) : a ∈ s.areasOf op ↔ (∃ st, s.ownerOf a = some (op, st)) ∧ True := by
    rw [mem_areasOf (fun a h => e.areas a (.inl h)), and_true]
  obtain ⟨-, idle, -⟩ := foldl_loses loseArea_loses (s.areasOf op) s (nodup_areaNumbers.filter _) owned e
  have rest : Touches ([.recs, .attnStacks] ++ waitingParts) ((s.areasOf op).foldl loseArea s) (s.shedding op w) :=
    .after (withdrawWaiting_touches _ _ _) (by decide) (.after (endIncoming_touches _ op) (by decide)
      ((endOutgoing_touches _ op).mono (by decide)))
  refine ⟨fun a b => ?_, fun a other => ?_⟩
  · rw [rest.ownerOf_eq (by decide)]
    exact idle a b trivial
  · rw [rest.ownerOf_eq (by decide)]
    refine s.foldl_loseArea_owner _ (fun listed => ?_)
    obtain ⟨⟨st, mine⟩, -⟩ := (owned a).mp listed
    exact other (by rw [mine]; rfl)

/-- R10, R34: the station is told. -/
theorem forceOff_told {st : Nat} (present : s.link st ≠ .absent) (op : Nat) (r : LogoffReason) (w : WithdrawReason) :
    s.outTo st (.notice (.loggedOff r)) ∈ (s.forceOff op st r w).said := by
  have kept : Touches ([.logon, .grace, .recs, .attnStacks] ++ waitingParts ++ takingParts) s ((s.shedding op w).endLogon st) :=
    .after (endLogon_touches _ st) (by decide) ((s.shedding_touches op w).mono (by decide))
  rw [forceOff_eq, ← kept.outTo_eq (by decide)]
  exact coverScan_says _ _ ((said_say _ _).mpr (.inr (mem_heardBy _ (by rw [kept.link_eq (by decide)]; exact present) _)))

/-- R10, R34: what a forced end of a logon leaves at the end of its event. -/
theorem forceOff_effect {s t : State} {Y : Nat → Nat → Prop} (e : s.EntitledBut none Y) {op st : Nat} {r : LogoffReason}
    {w : WithdrawReason} (ended : Touches (.said .answer :: endParts) (s.forceOff op st r w) t) :
    t.logonAt st = none ∧ t.auth.grace.look st = none ∧ (∀ st', st' ≠ st → t.logonAt st' = s.logonAt st') ∧
      (∀ a b, t.ownerOf a ≠ some (op, b)) ∧ (∀ a, (s.ownerOf a).map Prod.fst ≠ some op → t.ownerOf a = s.ownerOf a) ∧
      (∀ a x, s.session? a = some x → x.outOp = op ∨ x.inOp = op → t.hand.look a = none) ∧
      (∀ a x, s.hand.look a = some (.takingOver x) → x.op = op → t.hand.look a = none) ∧
      (∀ k x, s.gate.transit.look k = some x →
        t.gate.transit.look k = if x.state = .awaiting ∧ x.origOp = op then none else some x) := by
  have total : Touches (.said .answer :: coverParts ++ endParts) ((s.shedding op w).endLogon st) t :=
    .after ended (by decide) ((s.forceOff_touches_endLogon op st r w).mono (by decide))
  have ending : Touches [.logon, .grace] (s.shedding op w) ((s.shedding op w).endLogon st) := endLogon_touches _ st
  have shed := s.shedding_touches op w
  obtain ⟨idle, others⟩ := shedding_owner e op w
  have hand (a : Nat) (gone : (s.shedding op w).hand.look a = none) : t.hand.look a = none := by
    rw [total.lookHand_eq (by decide), ending.lookHand_eq (by decide), gone]
  refine ⟨?_, ?_, fun st' other => ?_, fun a b => ?_, fun a other => ?_,
    fun a x open_ party => hand a (shedding_session _ (e.areas a (.inr (hand_of_session open_))) open_ party _),
    fun a x taking leads => hand a (shedding_takeover _ (e.areas a (.inr (by rw [taking]; rfl))) taking leads _),
    fun k x look => ?_⟩
  · rw [total.logonAt_eq (by decide), logonAt_endLogon, if_pos rfl]
  · rw [(total .grace (by decide) : _ = _)]
    exact graceLook_endLogon _ _
  · rw [total.logonAt_eq (by decide), logonAt_endLogon, if_neg other, shed.logonAt_eq (by decide)]
  · rw [total.ownerOf_eq (by decide), ending.ownerOf_eq (by decide)]
    exact idle a b
  · rw [total.ownerOf_eq (by decide), ending.ownerOf_eq (by decide)]
    exact others a other
  · rw [total.lookTransit_eq (by decide), ending.lookTransit_eq (by decide)]
    exact shedding_transit _ _ e.transitRoom.1 look

end State

end Sys2Proof.Machine

open Sys2Proof.Machine State in
/-- Settles O22: the grace timer forces the operator off. -/
theorem graceExpiryLogsOff : Obligations.GraceExpiryLogsOff := by
  unfold Obligations.GraceExpiryLogsOff
  intro s st op on entitled due logged
  have e := ownersEntitled_iff.mp entitled
  have e : s.fresh.EntitledBut none (fun _ _ => False) :=
    ⟨e.logonsListed, e.transitRoom, e.onePlace, e.areas, e.owners, e.takeovers⟩
  have stepped : exec (.graceExpiry st) s = .next (s.fresh.forceOff op st .link .link).finish := by
    have logged' : s.fresh.logonAt st = some op := logged
    have forced : s.fresh.graceEnds st = s.fresh.forceOff op st .link .link := by simp only [graceEnds, logged']
    rw [← forced]
    exact timerEvent_of_due (due := fun s => s.graceDue st) on due (fun s => s.graceEnds st)
  have ended := finish_touches (s.fresh.forceOff op st .link .link)
  obtain ⟨gone, ungraced, others, idle, owners, sessions, takeovers, transit⟩ := forceOff_effect e (ended.mono (by decide))
  exact ⟨_, stepped, gone, ungraced, others, idle, owners, fun a x _ _ open_ => sessions a x open_, takeovers, transit,
    fun present => mem_sent_finish _ (s.fresh.forceOff_told present op .link .link) rfl,
    .after ended (by decide) ((forceOff_touches _ _ _ _ _).mono (by decide))⟩
end

section
/-! PROOFS. What the writes of the four tables share, and Station records (R2, R6 to R9). -/

namespace Sys2Proof.Machine

theorem firstFault_single (f : Nat) (c : Code) (bad : Bool) : firstFault [(f, c, bad)] = if bad then some (ans c f) else none := rfl

namespace State

/-! ### The checks that all writes share -/

theorem writeFault?_of_stranger {s : State} {st : Nat} (stranger : s.entitled st = false) (indexOk : Bool) (rsv : Nat) :
    s.writeFault? st indexOk rsv = some (ans .notEngineer) := by simp [writeFault?, stranger]

theorem writeFault?_of_storing {s : State} {st : Nat} (entitled : s.entitled st = true) (storing : s.store.job.isSome = true)
    (indexOk : Bool) (rsv : Nat) : s.writeFault? st indexOk rsv = some (ans .storing) := by
  simp [writeFault?, entitled, storing]

theorem writeFault?_of_reserved {s : State} {st rsv : Nat} (entitled : s.entitled st = true) (free : s.store.job = none)
    (reserved : rsv ≠ 0) (indexOk : Bool) : s.writeFault? st indexOk rsv = some (ans .reserved) := by
  simp [writeFault?, entitled, free, reserved]

theorem writeFault?_of_outside {s : State} {st : Nat} (entitled : s.entitled st = true) (free : s.store.job = none) :
    s.writeFault? st false 0 = some (ans .range) := by simp [writeFault?, entitled, free]

theorem writeFault?_of_fits {s : State} {st : Nat} (entitled : s.entitled st = true) (free : s.store.job = none) :
    s.writeFault? st true 0 = none := by simp [writeFault?, entitled, free]

theorem entitled_arrived (s : State) (h : Hdr) (st : Nat) : (arrived s h).entitled st = s.entitled st :=
  (arrived_touches s h).entitled_eq (by decide) (by decide) (by decide) (by decide) st

theorem job_arrived (s : State) (h : Hdr) : (arrived s h).store.job = s.store.job := arrived_touches s h .storeJob (by decide)

/-! ### Station records -/

section
variable {s : State} {st index rsv : Nat}

theorem takeStationWrite_of_fault {a : Ans} (fault : s.writeFault? st (decide (1 ≤ index ∧ index ≤ 16)) rsv = some a)
    (record : Option RawStation) : s.takeStationWrite st index record rsv = (s, a) := by
  simp only [takeStationWrite, fault]

variable (fits : s.writeFault? st (decide (1 ≤ index ∧ index ≤ 16)) 0 = none)
include fits

theorem takeStationWrite_of_error {raw : RawStation} {a : Ans} (bad : checkStation raw = .error a) :
    s.takeStationWrite st index (some raw) 0 = (s, a) := by
  simp only [takeStationWrite, fits, bad]

theorem takeStationWrite_of_staffed {raw : RawStation} {r : StationRec} {field : Nat} (good : checkStation raw = .ok (r, field))
    (staffed : s.staffed index = true) : s.takeStationWrite st index (some raw) 0 = (s, ans .stationOccupied) := by
  simp only [takeStationWrite, fits, good, staffed, if_true]

theorem takeStationWrite_of_free {raw : RawStation} {r : StationRec} {field : Nat} (good : checkStation raw = .ok (r, field))
    (free : s.staffed index = false) : s.takeStationWrite st index (some raw) 0 = (s.putStation index r, writeAnswer field) := by
  simp only [takeStationWrite, fits, good, free, Bool.false_eq_true, if_false]

theorem clearStation_of_staffed (staffed : s.staffed index = true) :
    s.takeStationWrite st index none 0 = (s, ans .stationOccupied) := by
  simp only [takeStationWrite, fits, staffed, if_true]

theorem clearStation_of_absent (free : s.staffed index = false) (absent : s.stationRec? index = none) :
    s.takeStationWrite st index none 0 = (s, ans .already) := by
  simp only [takeStationWrite, fits, free, absent, Bool.false_eq_true, if_false, if_true]

theorem clearStation_of_present {r : StationRec} (free : s.staffed index = false) (present : s.stationRec? index = some r) :
    s.takeStationWrite st index none 0 = (s.clearStation index, ans .done) := by
  simp only [takeStationWrite, fits, free, present, Bool.false_eq_true, if_false, reduceCtorEq]

end

theorem checkStation_of_unknown {raw : RawStation} (unknown : StationKind.ofCode raw.kind = none) :
    checkStation raw = .error (ans .code 1) := by simp only [checkStation, unknown]

theorem checkStation_of_outside {raw : RawStation} (known : (StationKind.ofCode raw.kind).isSome = true)
    (outside : ∃ a ∈ raw.areas, a < 1 ∨ 12 < a) : checkStation raw = .error (ans .range 3) := by
  obtain ⟨k, kind⟩ := Option.isSome_iff_exists.mp known
  have bad : raw.areas.any (fun a => decide (a < 1 ∨ 12 < a)) = true := by simpa using outside
  simp only [checkStation, kind, firstFault_single, bad, if_true]

/-- R8: the record that is written and its clamped field. -/
theorem checkStation_of_sound {raw : RawStation} {k : StationKind} (kind : StationKind.ofCode raw.kind = some k)
    (inside : ∀ a ∈ raw.areas, 1 ≤ a ∧ a ≤ 12) : checkStation raw =
      .ok (⟨k, raw.addr, NSet.ofList raw.areas, max 30 (min 600 raw.grace)⟩,
        if raw.grace = max 30 (min 600 raw.grace) then 0 else 4) := by
  have good : raw.areas.any (fun a => decide (a < 1 ∨ 12 < a)) = false := by
    simp only [List.any_eq_false, decide_eq_true_eq]
    intro a ha
    have := inside a ha
    omega
  simp only [checkStation, kind, firstFault_single, good, Bool.false_eq_true, if_false, clampedField, clamp,
    List.cons.injEq, and_true]

theorem writeAnswer_grace (n : Nat) : writeAnswer (if n = max 30 (min 600 n) then 0 else 4) =
    if 30 ≤ n ∧ n ≤ 600 then ans .done else ans .clamped 4 := by
  by_cases inside : 30 ≤ n ∧ n ≤ 600
  · rw [if_pos inside, if_pos (by omega)]
    rfl
  · rw [if_neg inside, if_neg (by omega)]
    rfl

/-! ### A station is made afresh -/

/-- R9: the station is ABSENT and its flag is set. -/
def forgotten (s : State) (st : Nat) : State := { s with console := { s.console with
  link := s.console.link.del st, heard := s.console.heard.del st, restartPending := s.console.restartPending.ins st } }

theorem resetStation_eq (s : State) (st : Nat) : s.resetStation st = ((s.forgotten st).followLost s.lostSet).coverScan := rfl

theorem link_forgotten (s : State) (st j : Nat) : (s.forgotten st).link j = if j = st then .absent else s.link j := by
  show (s.console.link.del st).getD j .absent = _
  rw [Tbl.getD, Tbl.look_del]
  split <;> rfl

theorem resetStation_effect (s : State) (st : Nat) : (s.resetStation st).link st = .absent ∧
    st ∈ (s.resetStation st).console.restartPending ∧ ∀ j, j ≠ st → (s.resetStation st).link j = s.link j := by
  have after : Touches coverParts (s.forgotten st) (s.resetStation st) :=
    .after (coverScan_touches _) (by decide) ((followLost_touches _ _).mono (by decide))
  refine ⟨?_, ?_, fun j other => ?_⟩
  · rw [after.link_eq (by decide), link_forgotten, if_pos rfl]
  · rw [(after .restartPending (by decide) : _ = _)]
    exact (NSet.mem_ins _ _ _).mpr (.inl rfl)
  · rw [after.link_eq (by decide), link_forgotten, if_neg other]

theorem stationRec?_clearStation (s : State) (st j : Nat) :
    (s.clearStation st).stationRec? j = if j = st then none else s.stationRec? j := by
  rw [clearStation, (resetStation_touches _ st).stationRec?_eq (by decide)]
  exact Tbl.look_del _ _ _

theorem remade_effect (t : State) (h : Hdr) (a : Ans) (index : Nat) :
    ((t.resetStation index).finish.answer h a).link index = .absent ∧
      index ∈ ((t.resetStation index).finish.answer h a).console.restartPending ∧
      ∀ j, j ≠ index → ((t.resetStation index).finish.answer h a).link j = t.link j := by
  have ended := (t.resetStation index).finish_answer_eq h a
  obtain ⟨absent, pending, others⟩ := t.resetStation_effect index
  refine ⟨(ended.link_eq (by decide) _).trans absent, ?_, fun j other => (ended.link_eq (by decide) _).trans (others j other)⟩
  rw [(ended .restartPending (by decide) : _ = _)]
  exact pending

theorem putStation_of_new {s : State} {st : Nat} (absent : s.stationRec? st = none) (r : StationRec) : s.putStation st r =
    (s.setTables { s.tables with stations := s.tables.stations.put st r }).resetStation st := by
  simp only [putStation, absent, Option.isSome_none, Bool.false_eq_true, if_false]

theorem putStation_of_old {s : State} {st : Nat} {old : StationRec} (present : s.stationRec? st = some old) (r : StationRec) :
    s.putStation st r = s.setTables { s.tables with stations := s.tables.stations.put st r } := by
  simp only [putStation, present, Option.isSome_some, if_true]

end State

open State

theorem stationWrite_done {s : State} {h : Hdr} {index : Nat} {record : Option RawStation} {u : State} {a : Ans} {l : List Part}
    (taken : Taken s h) (done : (arrived s h).takeStationWrite h.station index record 0 = (u, a)) (changes : a.code.changes = true)
    (touched : Touches l (arrived s h) u) :
    exec (.stationWrite h index record 0) s = .next (u.finish.answer h a) ∧ Answered (u.finish.answer h a) h a ∧
      Touches (l ++ .said .answer :: endParts) (arrived s h) (u.finish.answer h a) :=
  requestEvent_carriedOut (i := .stationWrite h index record 0) (f := fun s => s.takeStationWrite h.station index record 0)
    taken rfl rfl done changes touched (List.subset_append_left _ _) (List.subset_append_right _ _)

theorem graceAnswer_changes (n : Nat) : (if 30 ≤ n ∧ n ≤ 600 then ans .done else ans .clamped 4).code.changes = true := by
  split <;> rfl

theorem stationWrite_refused {s : State} {h : Hdr} {index rsv : Nat} {record : Option RawStation} {a : Ans} (taken : Taken s h)
    (refused : (arrived s h).takeStationWrite h.station index record rsv = (arrived s h, a)) (unchanged : a.code.changes = false) :
    ∃ t, exec (.stationWrite h index record rsv) s = .next t ∧ Answered t h a ∧ Touches [.said .answer] (arrived s h) t :=
  justAnswered (i := .stationWrite h index record rsv)
    (requestEvent_of_refused (f := fun s => s.takeStationWrite h.station index record rsv) taken refused unchanged)

end Sys2Proof.Machine

open Sys2Proof.Machine State in
/-- Settles O50: the checks of the record, and a station that is made afresh where its record is new or gone. -/
theorem stationWriteTakesEffect : Obligations.StationWriteTakesEffect := by
  unfold Obligations.StationWriteTakesEffect
  intro s h index taken entitled free
  have entitled' : (arrived s h).entitled h.station = true := (s.entitled_arrived h _).trans entitled
  have free' : (arrived s h).store.job = none := (s.job_arrived h).trans free
  refine ⟨fun outside record => stationWrite_refused taken (takeStationWrite_of_fault ?_ record) rfl, fun low high => ?_⟩
  · rw [decide_eq_false (by omega)]
    exact writeFault?_of_outside entitled' free'
  have fits : (arrived s h).writeFault? h.station (decide (1 ≤ index ∧ index ≤ 16)) 0 = none := by
    rw [decide_eq_true ⟨low, high⟩]
    exact writeFault?_of_fits entitled' free'
  have touched := arrived_touches s h
  have staffed : (arrived s h).staffed index = s.staffed index := touched.staffed_eq (by decide) _
  have record (j : Nat) : (arrived s h).stationRec? j = s.stationRec? j := touched.stationRec?_eq (by decide) j
  refine ⟨fun raw => ⟨fun unknown => ?_, fun known outside => ?_, fun known inside occupied => ?_,
      fun k kind inside empty => ⟨fun absent => ?_, fun old present => ?_⟩⟩,
    fun occupied => ?_, fun empty absent => ?_, fun old empty present => ?_⟩
  · exact stationWrite_refused taken (takeStationWrite_of_error fits (checkStation_of_unknown unknown)) rfl
  · exact stationWrite_refused taken (takeStationWrite_of_error fits (checkStation_of_outside known outside)) rfl
  · obtain ⟨k, kind⟩ := Option.isSome_iff_exists.mp known
    exact stationWrite_refused taken
      (takeStationWrite_of_staffed fits (checkStation_of_sound kind inside) (staffed.trans occupied)) rfl
  · have done := takeStationWrite_of_free fits (checkStation_of_sound kind inside) (staffed.trans empty)
    rw [writeAnswer_grace, putStation_of_new ((record index).trans absent)] at done
    obtain ⟨operation, answered, within⟩ := stationWrite_done taken done (graceAnswer_changes _)
      (.after (resetStation_touches _ index) (List.subset_cons_self Part.stations _) ((State.setStations_touches _ _).mono (by decide)))
    obtain ⟨link, pending, others⟩ := remade_effect _ h _ index
    refine ⟨_, operation, ?_, fun j other => ?_, link, pending, others, answered, within.mono (by decide)⟩
    · rw [(State.finish_answer_eq _ h _).stationRec?_eq (by decide), (State.resetStation_touches _ index).stationRec?_eq (by decide)]
      exact (Sys2Proof.Tbl.look_put _ _ _ _).trans (if_pos rfl)
    · rw [(State.finish_answer_eq _ h _).stationRec?_eq (by decide), (State.resetStation_touches _ index).stationRec?_eq (by decide)]
      exact (Sys2Proof.Tbl.look_put _ _ _ _).trans ((if_neg other).trans (record j))
  · have done := takeStationWrite_of_free fits (checkStation_of_sound kind inside) (staffed.trans empty)
    rw [writeAnswer_grace, putStation_of_old ((record index).trans present)] at done
    obtain ⟨operation, answered, within⟩ := stationWrite_done taken done (graceAnswer_changes _) (State.setStations_touches _ _)
    refine ⟨_, operation, ?_, fun j other => ?_, answered, within⟩
    · rw [(State.finish_answer_eq _ h _).stationRec?_eq (by decide)]
      exact (Sys2Proof.Tbl.look_put _ _ _ _).trans (if_pos rfl)
    · rw [(State.finish_answer_eq _ h _).stationRec?_eq (by decide)]
      exact (Sys2Proof.Tbl.look_put _ _ _ _).trans ((if_neg other).trans (record j))
  · exact stationWrite_refused taken (clearStation_of_staffed fits (staffed.trans occupied)) rfl
  · exact stationWrite_refused taken (clearStation_of_absent fits (staffed.trans empty) ((record index).trans absent)) rfl
  · have done := clearStation_of_present fits (staffed.trans empty) ((record index).trans present)
    obtain ⟨operation, answered, within⟩ := stationWrite_done taken done rfl (State.clearStation_touches _ index)
    obtain ⟨link, pending, others⟩ := remade_effect _ h _ index
    refine ⟨_, operation, ?_, fun j other => ?_, link, pending, others, answered, within.mono (by decide)⟩
    · rw [(State.finish_answer_eq _ h _).stationRec?_eq (by decide), stationRec?_clearStation, if_pos rfl]
    · rw [(State.finish_answer_eq _ h _).stationRec?_eq (by decide), stationRec?_clearStation, if_neg other, record]
end

section
/-! PROOFS. Area and Tag records (R4, R5, R7, R8, R13 to R15): the checks of a record and its effects. -/

namespace Sys2Proof.Machine

/-! ### The lowest field -/

/-- R8: the answer names the first clamped field of the list. -/
theorem writeAnswer_clampedField (l : List (Nat × List Nat × List Nat)) (numbered : ∀ x ∈ l, x.1 ≠ 0) :
    State.writeAnswer (clampedField l) = ((l.map (fun x => (decide (x.2.1 ≠ x.2.2), x.1))).find? Prod.fst).elim (ans .done)
      (fun c => ans .clamped c.2) := by
  induction l with
  | nil => rfl
  | cons x l ih =>
    obtain ⟨f, sent, written⟩ := x
    have named : f ≠ 0 := numbered _ List.mem_cons_self
    by_cases same : sent = written
    · simpa [clampedField, same] using ih (fun y hy => numbered y (List.mem_cons_of_mem _ hy))
    · simp [clampedField, same, State.writeAnswer, named]

/-- R7: the answer of the first fault of the list. -/
theorem firstFault_eq (l : List (Nat × Code × Bool)) :
    firstFault l = ((l.map (fun x => (x.2.2, ans x.2.1 x.1))).find? Prod.fst).map Prod.snd := by
  induction l with
  | nil => rfl
  | cons x l ih =>
    obtain ⟨f, c, bad⟩ := x
    cases bad
    · simpa [firstFault] using ih
    · rfl

/-! ### Area records -/

theorem cutOf_of_priority {code : Nat} {p : Priority} (named : Priority.ofCode code = some p) :
    cutOf code = some (if p = .urgent then .high else p) := by
  cases p <;> simp [cutOf, named]

theorem value_of_ofCode {code : Nat} {p : Priority} (named : Priority.ofCode code = some p) : p.value = code := by
  unfold Priority.ofCode at named
  split at named <;> simp_all [Priority.value] <;> subst named <;> rfl

/-- The fields of an Area record that may be clamped. -/
theorem cut_clamped {code : Nat} {p : Priority} (named : Priority.ofCode code = some p) :
    decide ([code] ≠ [(if p = .urgent then Priority.high else p).value]) = decide (p = .urgent) := by
  rw [← value_of_ofCode named]
  cases p <;> rfl

theorem checkArea_of_cut {raw : RawArea} (unknown : Priority.ofCode raw.cut = none) : checkArea raw = .error (ans .code 7) := by
  have cut : cutOf raw.cut = none := by simp [cutOf, unknown]
  simp only [checkArea, cut]

theorem checkArea_of_fallback {raw : RawArea} (known : (Priority.ofCode raw.cut).isSome = true)
    (outside : ∃ n ∈ raw.fallback, 16 < n) : checkArea raw = .error (ans .range 13) := by
  obtain ⟨p, named⟩ := Option.isSome_iff_exists.mp known
  have bad : raw.fallback.any (fun n => decide (16 < n)) = true := by simpa using outside
  simp only [checkArea, cutOf_of_priority named, firstFault_single, bad, if_true]

theorem checkArea_of_sound {raw : RawArea} {p : Priority} (named : Priority.ofCode raw.cut = some p)
    (inside : ∀ n ∈ raw.fallback, n ≤ 16) : checkArea raw = .ok (areaWritten raw (if p = .urgent then .high else p),
      areaClamped raw (areaWritten raw (if p = .urgent then .high else p))) := by
  have good : raw.fallback.any (fun n => decide (16 < n)) = false := by
    simpa only [List.any_eq_false, decide_eq_true_eq, not_lt] using inside
  simp only [checkArea, cutOf_of_priority named, firstFault_single, good, Bool.false_eq_true, if_false]

/-- Which fields of an Area record differ from what was sent, in field order. -/
def areaClamps (raw : RawArea) (r : AreaRec) (p : Priority) : List (Bool × Nat) :=
  [(decide (r.stage1 ≠ raw.stage1), 2), (decide (r.stage2 ≠ raw.stage2), 3),
    (decide (r.decay ≠ raw.decay), 4), (decide (r.floodOn ≠ raw.floodOn), 5),
    (decide (r.floodOff ≠ raw.floodOff), 6), (decide (p = .urgent), 7), (decide (r.release ≠ raw.release), 8),
    (decide (r.shelveMax ≠ raw.shelveMax), 9), (decide (r.bypassMax ≠ raw.bypassMax), 10),
    (decide (r.window ≠ raw.window), 11), (decide (r.handover ≠ raw.handover), 12)]

theorem writeAnswer_areaClamped {raw : RawArea} {p : Priority} (named : Priority.ofCode raw.cut = some p) {r : AreaRec}
    (cut : r.cut = if p = .urgent then .high else p) : State.writeAnswer (areaClamped raw r) =
      ((areaClamps raw r p).find? Prod.fst).elim (ans .done) (fun c => ans .clamped c.2) := by
  have same (a b : Nat) : decide ([a] ≠ [b]) = decide (b ≠ a) := by simp [ne_comm]
  have staged : decide (raw.stage1.toList ≠ r.stage1.toList) = decide (r.stage1 ≠ raw.stage1) := by
    simp [Vector.toList_inj, ne_comm]
  rw [areaClamped, writeAnswer_clampedField _ (by simp)]
  simp only [List.map_cons, List.map_nil, cut, cut_clamped named, same, staged, areaClamps]

/-! ### Tag records -/

/-- The faults of a Tag record, in field order. -/
def tagRecordFaults (raw : RawTag) (index : Nat) : List (Bool × Ans) :=
  [(decide (raw.area < 1 ∨ 12 < raw.area), ans .range 2),
    (raw.prios.toList.any (fun c => decide (4 < c)), ans .code 3),
    (raw.parent.any (fun p => decide (4095 < p.1)), ans .range 4),
    (raw.parent.any (fun p => decide (p.1 = index)), ans .selfParent 4),
    (raw.blocker.any (fun b => decide (4095 < b.1)), ans .range 5),
    (raw.blocker.any (fun b => decide (b.2 < 1 ∨ 4 < b.2)), ans .code 5)]

theorem ofCode_eq_none {n : Nat} : Priority.ofCode n = none ↔ n < 1 ∨ 4 < n := by
  unfold Priority.ofCode
  split <;> simp_all
  omega

theorem tagFault?_eq (raw : RawTag) (index : Nat) :
    tagFault? raw index = ((tagRecordFaults raw index).find? Prod.fst).map Prod.snd := by
  have any {α : Type} (o : Option α) (f : α → Bool) : (o.map f).getD false = o.any f := by cases o <;> rfl
  simp only [tagFault?, firstFault_eq, List.map_cons, List.map_nil, any, ofCode_eq_none, tagRecordFaults]

theorem checkTag_of_fault {raw : RawTag} {index : Nat} {f : Bool × Ans} (fault : (tagRecordFaults raw index).find? Prod.fst = some f) :
    checkTag raw index = .error f.2 := by
  simp only [checkTag, tagFault?_eq, fault, Option.map_some]

/-- The record a Tag write leaves (R5, R8). -/
def tagWritten (raw : RawTag) : TagRec :=
  { name := raw.name, area := raw.area, prios := raw.prios.map Priority.ofCode, parent := raw.parent,
    blocker := blockerOf raw.blocker, cls := min raw.cls 4, base := clamp 1 255 raw.base, shelvable := raw.shelvable,
    ackRelay := raw.ackRelay }

theorem checkTag_of_sound {raw : RawTag} {index : Nat} (sound : (tagRecordFaults raw index).find? Prod.fst = none) :
    checkTag raw index = .ok (tagWritten raw,
      clampedField [(6, [raw.cls], [min raw.cls 4]), (7, [raw.base], [clamp 1 255 raw.base])]) := by
  simp only [checkTag, tagFault?_eq, sound, Option.map_none, tagWritten]

theorem writeAnswer_tag (raw : RawTag) :
    State.writeAnswer (clampedField [(6, [raw.cls], [min raw.cls 4]), (7, [raw.base], [clamp 1 255 raw.base])]) =
      if 4 < raw.cls then ans .clamped 6 else if raw.base < 1 ∨ 255 < raw.base then ans .clamped 7 else ans .done := by
  have class_ : raw.cls = min raw.cls 4 ↔ ¬ 4 < raw.cls := by omega
  have base : raw.base = clamp 1 255 raw.base ↔ ¬ (raw.base < 1 ∨ 255 < raw.base) := by unfold clamp; omega
  simp only [clampedField, List.cons.injEq, and_true, class_, base]
  split_ifs <;> rfl

namespace State

/-! ### What a write to each table does once the shared checks pass -/

section
variable {s : State} {st index : Nat}

theorem takeRosterWrite_of_fault {rsv : Nat} {a : Ans} (fault : s.writeFault? st (decide (index ≤ 127)) rsv = some a)
    (record : Option RawRoster) : s.takeRosterWrite st index record rsv = (s, a) := by
  simp only [takeRosterWrite, fault]

theorem takeAreaWrite_of_fault {rsv : Nat} {a : Ans} (fault : s.writeFault? st (decide (1 ≤ index ∧ index ≤ 12)) rsv = some a)
    (record : Option RawArea) : s.takeAreaWrite st index record rsv = (s, a) := by
  simp only [takeAreaWrite, fault]

theorem takeTagWrite_of_fault {rsv : Nat} {a : Ans} (fault : s.writeFault? st (decide (index ≤ 4095)) rsv = some a)
    (record : Option RawTag) : s.takeTagWrite st index record rsv = (s, a) := by
  simp only [takeTagWrite, fault]

theorem takeAreaWrite_none (fits : s.writeFault? st (decide (1 ≤ index ∧ index ≤ 12)) 0 = none) :
    s.takeAreaWrite st index none 0 = (s, ans .missingRecord) := by
  simp only [takeAreaWrite, fits]

theorem takeAreaWrite_of_error (fits : s.writeFault? st (decide (1 ≤ index ∧ index ≤ 12)) 0 = none) {raw : RawArea} {a : Ans}
    (bad : checkArea raw = .error a) : s.takeAreaWrite st index (some raw) 0 = (s, a) := by
  simp only [takeAreaWrite, fits, bad]

theorem takeAreaWrite_of_sound (fits : s.writeFault? st (decide (1 ≤ index ∧ index ≤ 12)) 0 = none) {raw : RawArea}
    {r : AreaRec} {field : Nat} (good : checkArea raw = .ok (r, field)) :
    s.takeAreaWrite st index (some raw) 0 = (s.putArea index r, writeAnswer field) := by
  simp only [takeAreaWrite, fits, good]

variable (fits : s.writeFault? st (decide (index ≤ 4095)) 0 = none)
include fits

theorem takeTagWrite_of_error {raw : RawTag} {a : Ans} (bad : checkTag raw index = .error a) :
    s.takeTagWrite st index (some raw) 0 = (s, a) := by
  simp only [takeTagWrite, fits, bad]

theorem takeTagWrite_of_used {raw : RawTag} {r : TagRec} {field : Nat} (good : checkTag raw index = .ok (r, field))
    (used : s.tagInUse index = true) : s.takeTagWrite st index (some raw) 0 = (s, ans .tagInUse index) := by
  simp only [takeTagWrite, fits, good, used, if_true]

theorem takeTagWrite_of_unused {raw : RawTag} {r : TagRec} {field : Nat} (good : checkTag raw index = .ok (r, field))
    (unused : s.tagInUse index = false) : s.takeTagWrite st index (some raw) 0 =
      (s.setTables { s.tables with tags := s.tables.tags.put index r }, writeAnswer field) := by
  simp only [takeTagWrite, fits, good, unused, Bool.false_eq_true, if_false]

theorem clearTag_of_used (used : s.tagInUse index = true) : s.takeTagWrite st index none 0 = (s, ans .tagInUse index) := by
  simp only [takeTagWrite, fits, used, if_true]

theorem clearTag_of_absent (unused : s.tagInUse index = false) (absent : s.tagRec? index = none) :
    s.takeTagWrite st index none 0 = (s, ans .already) := by
  simp only [takeTagWrite, fits, unused, absent, Bool.false_eq_true, if_false, if_true]

theorem clearTag_of_present (unused : s.tagInUse index = false) {old : TagRec} (present : s.tagRec? index = some old) :
    s.takeTagWrite st index none 0 = (s.setTables { s.tables with tags := s.tables.tags.del index }, ans .done) := by
  simp only [takeTagWrite, fits, unused, present, Bool.false_eq_true, if_false, reduceCtorEq]

end

theorem tagInUse_arrived (s : State) (h : Hdr) (tag : Nat) : (arrived s h).tagInUse tag = s.tagInUse tag := by
  have touched := arrived_touches s h
  have listed : (arrived s h).entriesOfTag tag = s.entriesOfTag tag := s.ordinaryWhere_arrived h _
  have overrides : (arrived s h).overrides = s.overrides := touched .overrides (by decide)
  have transit : (arrived s h).gate.transit = s.gate.transit := touched .transit (by decide)
  unfold tagInUse
  rw [listed, overrides, transit]

end State

end Sys2Proof.Machine
end

section
/-! PROOFS. What an Area write does to flood flags, release timers and deadlines (R13, R14), and the writes of Area and Tag
records. -/

namespace Sys2Proof.Machine

/-- No ordinary alarm's deadline moves. -/
def KeepsDeadlines (s t : State) : Prop := ∀ n, n < 512 → (t.annRec n).deadline = (s.annRec n).deadline

namespace KeepsDeadlines

variable {s t u : State}

theorem refl (s : State) : KeepsDeadlines s s := fun _ _ => rfl

theorem trans (h : KeepsDeadlines s t) (k : KeepsDeadlines t u) : KeepsDeadlines s u :=
  fun n low => (k n low).trans (h n low)

theorem of_eases (h : Eases s t) : KeepsDeadlines s t := fun n _ => h.deadline n

theorem of_touches {l : List Part} (h : Touches l s t) (hl : .recs ∉ l) : KeepsDeadlines s t :=
  .of_eases (.of_touches h hl)

end KeepsDeadlines

namespace State

variable (s : State)

theorem sysReturn_keepsDeadlines {m : Nat} (high : 512 ≤ m) : KeepsDeadlines s (s.sysReturn m) := by
  unfold sysReturn
  split
  · exact .refl s
  case h_2 e _ =>
    split
    · exact .refl s
    split
    · intro n low
      rw [sysRemove, (dropEntry_touches _ m).annRec_eq (by decide), annRec_withdrawStacks, if_neg (by omega)]
    · exact .of_touches (s.setEntry_touches m _) (by decide)

theorem sysFollow_keepsDeadlines {m : Nat} (high : 512 ≤ m) (before after : NSet) (x : Subject) :
    KeepsDeadlines s (s.sysFollow m before after x) := by
  unfold sysFollow
  split
  · exact .refl s
  split
  · exact .of_eases (s.sysRaise_eases m x)
  split
  · exact s.sysReturn_keepsDeadlines high
  · unfold sysUpdate
    split
    · exact .refl s
    split
    · exact .of_touches (s.setEntry_touches m _) (by decide)
    · exact .refl s

theorem coverScan_keepsDeadlines : KeepsDeadlines s s.coverScan := by
  have covered : KeepsDeadlines s (areaNumbers.foldl setCover s).setOrphans.sayAreas :=
    ((KeepsDeadlines.of_touches (s.foldl_setCover_touches areaNumbers) (by decide)).trans
      (.of_touches (setOrphans_touches _) (by decide))).trans (.of_touches (sayAreas_touches _) (by decide))
  exact (covered.trans (.of_eases (reroute_eases _))).trans (sysFollow_keepsDeadlines _ (by decide) _ _ _)

theorem finish_keepsDeadlines : KeepsDeadlines s s.finish := .of_eases s.finish_eases

theorem stationReturns_keepsDeadlines (st : Nat) : KeepsDeadlines s (s.stationReturns st) := by
  have up := KeepsDeadlines.of_touches (setLink_touches s st .up) (by decide)
  have stopped := KeepsDeadlines.of_touches (stopGrace_touches (s.setLink st .up) st) (by decide)
  have followed (u : State) : KeepsDeadlines u (u.followLost s.lostSet) := sysFollow_keepsDeadlines _ (by decide) _ _ _
  unfold stationReturns
  dsimp only
  exact ((((up.trans stopped).trans (followed _)).trans (coverScan_keepsDeadlines _)).trans
    (.of_touches (say_notices _ _ (fun o ho => by rw [List.mem_singleton.mp ho]; rfl)) (by decide))).trans
    (.of_touches (forceAttention_touches _ st) (by decide))

theorem serveWatch_keepsDeadlines (st : Nat) : KeepsDeadlines s (s.serveWatch st) := by
  have heard : KeepsDeadlines s (s.hearing st) := .of_touches (s.hearing_touches st) (by decide)
  cases link : s.link st with
  | up => rw [serveWatch_of_up s link]; exact heard
  | absent =>
    rw [serveWatch_of_absent s link]
    exact ((heard.trans (.of_touches (setLink_touches _ st .up) (by decide))).trans (coverScan_keepsDeadlines _)).trans
      (finish_keepsDeadlines _)
  | lost =>
    rw [serveWatch_of_lost s link]
    exact (heard.trans (stationReturns_keepsDeadlines _ st)).trans (finish_keepsDeadlines _)

theorem arrived_keepsDeadlines (h : Hdr) : KeepsDeadlines s (arrived s h) :=
  ((KeepsDeadlines.of_touches (countA_touches s.fresh _) (by decide)).trans (serveWatch_keepsDeadlines _ h.station)).trans
    (.of_touches (serveRestarted_touches _ h.station) (by decide))

/-! ### An Area record is put -/

/-- The Area Table with a record in place. -/
def withArea (a : Nat) (r : AreaRec) : State :=
  s.setTables { s.tables with areas := s.tables.areas.setD a (AreaRec.default a) r }

theorem putArea_eq (a : Nat) (r : AreaRec) : s.putArea a r = (((s.withArea a r).floodEntryTest a).floodExitTest a).coverScan :=
  rfl

theorem areaRec_withArea (a : Nat) (r : AreaRec) (b : Nat) : (s.withArea a r).areaRec b = if b = a then r else s.areaRec b := by
  show (s.tables.areas.setD a (AreaRec.default a) r).getD b (AreaRec.default b) = _
  by_cases same : b = a
  · rw [if_pos same, same, Tbl.getD_setD_self]
  · rw [if_neg same]
    unfold Tbl.setD
    split
    · simp only [Tbl.getD, Tbl.look_del, if_neg same]
      rfl
    · simp only [Tbl.getD, Tbl.look_put, if_neg same]
      rfl

/-- The flood flag of an area against the thresholds of a record. -/
theorem flooded_tested (a b : Nat) (r : AreaRec) (below : r.floodOff < r.floodOn) :
    (((s.withArea a r).floodEntryTest a).floodExitTest a).flooded b = if b = a then
      if s.flooded a then decide (r.floodOff < s.load a) else decide (r.floodOn ≤ s.load a)
    else s.flooded b := by
  have entry := (s.withArea a r).floodEntryTest_touches a
  have record : (s.withArea a r).areaRec a = r := by rw [areaRec_withArea, if_pos rfl]
  have load : (s.withArea a r).load a = s.load a := rfl
  have flag (c : Nat) : (s.withArea a r).flooded c = s.flooded c := rfl
  rw [flooded_floodExitTest, entry.areaRec_eq (by decide), entry.load_eq (by decide), flooded_floodEntryTest,
    flooded_floodEntryTest, record, load, flag, flag, if_pos rfl]
  by_cases same : b = a
  · simp only [same, if_true]
    cases s.flooded a
    · simp only [Bool.false_or, Bool.false_eq_true, if_false]
      by_cases reached : r.floodOn ≤ s.load a
      · simp [reached, show r.floodOff < s.load a by omega]
      · simp [reached]
    · simp
  · simp only [same, if_false]

theorem release_tested (a b : Nat) (r : AreaRec) (below : r.floodOff < r.floodOn) :
    (((s.withArea a r).floodEntryTest a).floodExitTest a).flood.release.look b =
      if b = a then
        if s.flooded a = true ∧ s.load a ≤ r.floodOff ∧ s.deferredOf a ≠ [] then some (s.secondsAhead r.release)
        else if s.flooded a = false ∧ r.floodOn ≤ s.load a then none
        else s.flood.release.look a
      else s.flood.release.look b := by
  have entry := (s.withArea a r).floodEntryTest_touches a
  have record : (s.withArea a r).areaRec a = r := by rw [areaRec_withArea, if_pos rfl]
  have load : (s.withArea a r).load a = s.load a := rfl
  have flag (c : Nat) : (s.withArea a r).flooded c = s.flooded c := rfl
  have listed : (s.withArea a r).deferredOf a = s.deferredOf a := rfl
  have ahead (n : Nat) : (s.withArea a r).secondsAhead n = s.secondsAhead n := rfl
  have timers : (s.withArea a r).flood.release = s.flood.release := rfl
  rw [look_release_floodExitTest, entry.areaRec_eq (by decide), entry.load_eq (by decide), entry.deferredOf_eq (by decide),
    entry.secondsAhead_eq (by decide), look_release_floodEntryTest, flooded_floodEntryTest, record, load, flag, listed, ahead,
    timers, if_pos rfl]
  by_cases same : b = a
  · subst same
    cases s.flooded b
    · by_cases reached : r.floodOn ≤ s.load b
      · simp [reached, show ¬ s.load b ≤ r.floodOff by omega]
      · simp [reached]
    · simp
  · simp only [same, false_and, if_false]

theorem putArea_effect (a : Nat) (r : AreaRec) (below : r.floodOff < r.floodOn) :
    (∀ b, (s.putArea a r).areaRec b = if b = a then r else s.areaRec b) ∧
    (∀ b, (s.putArea a r).flooded b = if b = a then
      if s.flooded a then decide (r.floodOff < s.load a) else decide (r.floodOn ≤ s.load a) else s.flooded b) ∧
    (∀ b, (s.putArea a r).flood.release.look b = if b = a then
        if s.flooded a = true ∧ s.load a ≤ r.floodOff ∧ s.deferredOf a ≠ [] then some (s.secondsAhead r.release)
        else if s.flooded a = false ∧ r.floodOn ≤ s.load a then none
        else s.flood.release.look a
      else s.flood.release.look b) ∧
    KeepsDeadlines s (s.putArea a r) := by
  have scanned := coverScan_touches (((s.withArea a r).floodEntryTest a).floodExitTest a)
  have entry := (s.withArea a r).floodEntryTest_touches a
  have exit := ((s.withArea a r).floodEntryTest a).floodExitTest_touches a
  rw [putArea_eq]
  refine ⟨fun b => ?_, fun b => ?_, fun b => ?_, ?_⟩
  · rw [scanned.areaRec_eq (by decide), exit.areaRec_eq (by decide), entry.areaRec_eq (by decide), areaRec_withArea]
  · rw [scanned.flooded_eq (by decide), flooded_tested s a b r below]
  · rw [(scanned .release (by decide) : _ = _), release_tested s a b r below]
  · exact (((KeepsDeadlines.of_touches (s.setAreas_touches _) (by decide)).trans (.of_touches entry (by decide))).trans
      (.of_touches exit (by decide))).trans (coverScan_keepsDeadlines _)

end State

open State

section
variable {s : State} {h : Hdr} {index rsv : Nat} {a : Ans}

theorem rosterWrite_refused {record : Option RawRoster} (taken : Taken s h)
    (refused : (arrived s h).takeRosterWrite h.station index record rsv = (arrived s h, a)) (unchanged : a.code.changes = false) :
    ∃ t, exec (.rosterWrite h index record rsv) s = .next t ∧ Answered t h a ∧ Touches [.said .answer] (arrived s h) t :=
  justAnswered (i := .rosterWrite h index record rsv)
    (requestEvent_of_refused (f := fun s => s.takeRosterWrite h.station index record rsv) taken refused unchanged)

theorem areaWrite_refused {record : Option RawArea} (taken : Taken s h)
    (refused : (arrived s h).takeAreaWrite h.station index record rsv = (arrived s h, a)) (unchanged : a.code.changes = false) :
    ∃ t, exec (.areaWrite h index record rsv) s = .next t ∧ Answered t h a ∧ Touches [.said .answer] (arrived s h) t :=
  justAnswered (i := .areaWrite h index record rsv)
    (requestEvent_of_refused (f := fun s => s.takeAreaWrite h.station index record rsv) taken refused unchanged)

theorem tagWrite_refused {record : Option RawTag} (taken : Taken s h)
    (refused : (arrived s h).takeTagWrite h.station index record rsv = (arrived s h, a)) (unchanged : a.code.changes = false) :
    ∃ t, exec (.tagWrite h index record rsv) s = .next t ∧ Answered t h a ∧ Touches [.said .answer] (arrived s h) t :=
  justAnswered (i := .tagWrite h index record rsv)
    (requestEvent_of_refused (f := fun s => s.takeTagWrite h.station index record rsv) taken refused unchanged)

/-- R6, R7: what fails a check that all writes share is refused at every table. -/
theorem write_refused (taken : Taken s h) (fault : ∀ indexOk, (arrived s h).writeFault? h.station indexOk rsv = some a)
    (unchanged : a.code.changes = false) {i : Instr} (write : (∃ r, i = .stationWrite h index r rsv) ∨
      (∃ r, i = .rosterWrite h index r rsv) ∨ (∃ r, i = .areaWrite h index r rsv) ∨ (∃ r, i = .tagWrite h index r rsv)) :
    ∃ t, exec i s = .next t ∧ Answered t h a ∧ Touches [.said .answer] (arrived s h) t := by
  rcases write with ⟨r, rfl⟩ | ⟨r, rfl⟩ | ⟨r, rfl⟩ | ⟨r, rfl⟩
  · exact stationWrite_refused taken (takeStationWrite_of_fault (fault _) r) unchanged
  · exact rosterWrite_refused taken (takeRosterWrite_of_fault (fault _) r) unchanged
  · exact areaWrite_refused taken (takeAreaWrite_of_fault (fault _) r) unchanged
  · exact tagWrite_refused taken (takeTagWrite_of_fault (fault _) r) unchanged

end

theorem tagWrite_done {s : State} {h : Hdr} {index : Nat} {record : Option RawTag} {t : Tbl TagRec} {a : Ans} (taken : Taken s h)
    (done : (arrived s h).takeTagWrite h.station index record 0 =
      ((arrived s h).setTables { (arrived s h).tables with tags := t }, a)) (changes : a.code.changes = true) :
    ∃ u, exec (.tagWrite h index record 0) s = .next u ∧ (∀ j, u.tagRec? j = t.look j) ∧ Answered u h a ∧
      Touches ([.tags, .said .answer] ++ endParts) (arrived s h) u := by
  obtain ⟨operation, answered, within⟩ := requestEvent_carriedOut (i := .tagWrite h index record 0)
    (f := fun s => s.takeTagWrite h.station index record 0) (l' := [.tags, .said .answer] ++ endParts) taken rfl rfl done changes
    (State.setTags_touches _ t) (by decide) (by decide)
  exact ⟨_, operation, fun j => (finish_answer_eq _ h a).tagRec?_eq (by decide) j, answered, within⟩

theorem tagRecordFaults_refuse {raw : RawTag} {index : Nat} : ∀ f ∈ tagRecordFaults raw index, f.2.code.changes = false := by
  intro f listed
  simp only [tagRecordFaults, List.mem_cons, List.not_mem_nil, or_false] at listed
  rcases listed with rfl | rfl | rfl | rfl | rfl | rfl <;> rfl

/-- R8: the answer that names the lowest clamped field. -/
theorem answered_first {t : State} {h : Hdr} {l : List (Bool × Nat)}
    (answered : Answered t h ((l.find? Prod.fst).elim (ans .done) (fun c => ans .clamped c.2))) :
    Answered t h (match l.find? Prod.fst with | none => ans .done | some c => ans .clamped c.2) := by
  generalize l.find? Prod.fst = found at answered ⊢
  cases found <;> exact answered

end Sys2Proof.Machine

open Sys2Proof.Machine State in
/-- Settles O52: the checks in their order, the flood tests of an Area write and the Tag Table. -/
theorem areaAndTagWritesTakeEffect : Obligations.AreaAndTagWritesTakeEffect := by
  unfold Obligations.AreaAndTagWritesTakeEffect
  intro s h index taken
  have touched := arrived_touches s h
  have asked : (arrived s h).entitled h.station = s.entitled h.station := s.entitled_arrived h _
  have job : (arrived s h).store.job = s.store.job := s.job_arrived h
  refine ⟨fun i rsv write => ⟨fun stranger => ?_, fun entitled storing => ?_, fun entitled free reserved => ?_⟩,
    fun entitled free => ?_⟩
  · exact write_refused taken (fun ok => writeFault?_of_stranger (asked.trans stranger) ok rsv) rfl write
  · exact write_refused taken (fun ok => writeFault?_of_storing (asked.trans entitled) (job ▸ storing) ok rsv) rfl write
  · exact write_refused taken (fun ok => writeFault?_of_reserved (asked.trans entitled) (job.trans free) reserved ok) rfl write
  have entitled := asked.trans entitled
  have free := job.trans free
  refine ⟨fun outside record => areaWrite_refused taken (takeAreaWrite_of_fault ?_ record) rfl,
    fun outside record => tagWrite_refused taken (takeTagWrite_of_fault ?_ record) rfl, fun low high => ?_, fun known => ?_⟩
  · rw [decide_eq_false (by omega)]
    exact writeFault?_of_outside entitled free
  · rw [decide_eq_false (by omega)]
    exact writeFault?_of_outside entitled free
  · have fits : (arrived s h).writeFault? h.station (decide (1 ≤ index ∧ index ≤ 12)) 0 = none := by
      rw [decide_eq_true ⟨low, high⟩]
      exact writeFault?_of_fits entitled free
    refine ⟨areaWrite_refused taken (takeAreaWrite_none fits) rfl, fun raw => ⟨fun unknown => ?_, fun cut outside => ?_,
      fun p named inside => ?_⟩⟩
    · exact areaWrite_refused taken (takeAreaWrite_of_error fits (checkArea_of_cut unknown)) rfl
    · exact areaWrite_refused taken (takeAreaWrite_of_error fits (checkArea_of_fallback cut outside)) rfl
    have done := takeAreaWrite_of_sound fits (checkArea_of_sound named inside)
    rw [writeAnswer_areaClamped named rfl] at done
    generalize written : areaWritten raw (if p = .urgent then .high else p) = r at done
    have below : r.floodOff < r.floodOn := by
      subst written
      show min raw.floodOff (max 16 (min 65535 raw.floodOn) - 1) < max 16 (min 65535 raw.floodOn)
      omega
    obtain ⟨record, flag, timer, deadlines⟩ := (arrived s h).putArea_effect index r below
    have changes : (((areaClamps raw r p).find? Prod.fst).elim (ans .done) (fun c => ans .clamped c.2)).code.changes = true := by
      cases (areaClamps raw r p).find? Prod.fst <;> rfl
    obtain ⟨operation, answered, within⟩ := requestEvent_carriedOut (i := .areaWrite h index (some raw) 0)
      (f := fun s => s.takeAreaWrite h.station index (some raw) 0)
      (l' := [.areas, .flooded, .release, .said .answer] ++ coverParts ++ endParts) taken rfl rfl done changes
      (putArea_touches _ index r) (by decide) (by decide)
    have ended := finish_answer_eq ((arrived s h).putArea index r) h
      (((areaClamps raw r p).find? Prod.fst).elim (ans .done) (fun c => ans .clamped c.2))
    have areas (b : Nat) : (arrived s h).areaRec b = s.areaRec b := touched.areaRec_eq (by decide) b
    have flags (b : Nat) : (arrived s h).flooded b = s.flooded b := touched.flooded_eq (by decide) b
    have load : (arrived s h).load index = s.load index := touched.load_eq (by decide) index
    have timers : (arrived s h).flood.release = s.flood.release := touched .release (by decide)
    have listed : (arrived s h).deferredOf index = s.deferredOf index := touched.deferredOf_eq (by decide) index
    have ahead (n : Nat) : (arrived s h).secondsAhead n = s.secondsAhead n := touched.secondsAhead_eq (by decide) n
    simp only [areas] at record
    simp only [flags, load] at flag
    simp only [flags, load, timers, listed, ahead] at timer
    subst written
    refine ⟨_, operation, ?_, fun b other => ?_, ?_, fun b other => ?_, ?_, fun b other => ?_, fun n ordinary => ?_, ?_, within⟩
    · rw [ended.areaRec_eq (by decide), record, if_pos rfl]
      rfl
    · rw [ended.areaRec_eq (by decide), record, if_neg other]
    · rw [ended.flooded_eq (by decide), flag, if_pos rfl]
      rfl
    · rw [ended.flooded_eq (by decide), flag, if_neg other]
    · rw [(ended .release (by decide) : _ = _), timer, if_pos rfl]
      rfl
    · rw [(ended .release (by decide) : _ = _), timer, if_neg other]
    · rw [(answer_touches _ h _).annRec_eq (by decide), finish_keepsDeadlines _ n ordinary, deadlines n ordinary,
        arrived_keepsDeadlines s h n ordinary]
    · exact answered_first (l := areaClamps raw (areaWritten raw (if p = .urgent then .high else p)) p) answered
  · have fits : (arrived s h).writeFault? h.station (decide (index ≤ 4095)) 0 = none := by
      rw [decide_eq_true known]
      exact writeFault?_of_fits entitled free
    have used : (arrived s h).tagInUse index = s.tagInUse index := s.tagInUse_arrived h index
    have record (j : Nat) : (arrived s h).tagRec? j = s.tagRec? j := touched.tagRec?_eq (by decide) j
    refine ⟨fun busy => ?_, fun idle absent => ?_, fun old present idle => ?_, fun raw => ⟨fun f fault => ?_,
      fun sound busy => ?_, fun sound idle => ?_⟩⟩
    · exact tagWrite_refused taken (clearTag_of_used fits (used.trans busy)) rfl
    · exact tagWrite_refused taken (clearTag_of_absent fits (used.trans idle) ((record index).trans absent)) rfl
    · obtain ⟨t, operation, after, answered, within⟩ := tagWrite_done taken
        (clearTag_of_present fits (used.trans idle) ((record index).trans present)) rfl
      refine ⟨t, operation, ?_, fun j other => ?_, answered, within⟩
      · rw [after, Sys2Proof.Tbl.look_del, if_pos rfl]
      · rw [after, Sys2Proof.Tbl.look_del, if_neg other]
        exact record j
    · exact tagWrite_refused taken (takeTagWrite_of_error fits (checkTag_of_fault fault))
        (tagRecordFaults_refuse _ (List.mem_of_find?_eq_some fault))
    · exact tagWrite_refused taken (takeTagWrite_of_used fits (checkTag_of_sound sound) (used.trans busy)) rfl
    · have done := takeTagWrite_of_unused fits (checkTag_of_sound sound) (used.trans idle)
      rw [writeAnswer_tag] at done
      obtain ⟨t, operation, after, answered, within⟩ := tagWrite_done taken done (by split_ifs <;> rfl)
      refine ⟨t, operation, ?_, fun j other => ?_, answered, within⟩
      · rw [after, Sys2Proof.Tbl.look_put, if_pos rfl]
        rfl
      · rw [after, Sys2Proof.Tbl.look_put, if_neg other]
        exact record j
end

section
/-! PROOFS. Roster records (R3, R7, R8) and what a level of 0 takes from an operator (R11). -/

namespace Sys2Proof.Machine

/-! ### The checks of a Roster record -/

/-- The faults of a Roster record, in field order. -/
def rosterRecordFaults (raw : RawRoster) (roster : Tbl RosterRec) (index : Nat) : List (Bool × Ans) :=
  [(decide (raw.badge = 0), ans .range 1),
    (roster.any (fun p => decide (p.1 ≠ index ∧ p.2.badge = raw.badge)), ans .duplicateBadge 1),
    (decide (raw.role < 1 ∨ 3 < raw.role), ans .code 3),
    (raw.stations.any (fun n => decide (n < 1 ∨ 16 < n)), ans .range 6)]

theorem rosterRecordFaults_refuse {raw : RawRoster} {roster : Tbl RosterRec} {index : Nat} :
    ∀ f ∈ rosterRecordFaults raw roster index, f.2.code.changes = false := by
  intro f listed
  simp only [rosterRecordFaults, List.mem_cons, List.not_mem_nil, or_false] at listed
  rcases listed with rfl | rfl | rfl | rfl <;> rfl

theorem role_eq_none {n : Nat} : Role.ofCode n = none ↔ n < 1 ∨ 3 < n := by
  unfold Role.ofCode
  split <;> simp_all
  omega

/-- The record a Roster write leaves (R3, R8). -/
def rosterWritten (raw : RawRoster) (role : Role) : RosterRec :=
  ⟨raw.badge, raw.name, role, raw.enabled, raw.levels.map (fun l => min l 3), NSet.ofList raw.stations⟩

/-- R3, R7: the first fault in field order refuses the record. -/
theorem checkRoster_of_fault {raw : RawRoster} {roster : Tbl RosterRec} {index : Nat} {f : Bool × Ans}
    (fault : (rosterRecordFaults raw roster index).find? Prod.fst = some f) : checkRoster raw roster index = .error f.2 := by
  unfold rosterRecordFaults at fault
  unfold checkRoster badgeTaken
  generalize decide (raw.badge = 0) = unset at fault ⊢
  generalize roster.any (fun p => decide (p.1 ≠ index ∧ p.2.badge = raw.badge)) = held at fault ⊢
  generalize raw.stations.any (fun n => decide (n < 1 ∨ 16 < n)) = outside at fault ⊢
  cases unset with
  | true => cases fault; rfl
  | false =>
    cases held with
    | true => cases fault; rfl
    | false =>
      cases named : Role.ofCode raw.role with
      | none =>
        rw [decide_eq_true (role_eq_none.mp named)] at fault
        cases fault
        rfl
      | some role =>
        rw [decide_eq_false (fun bad => by simp [role_eq_none.mpr bad] at named)] at fault
        cases outside with
        | true => cases fault; rfl
        | false => cases fault

theorem checkRoster_of_sound {raw : RawRoster} {roster : Tbl RosterRec} {index : Nat} {role : Role}
    (sound : (rosterRecordFaults raw roster index).find? Prod.fst = none) (named : Role.ofCode raw.role = some role) :
    checkRoster raw roster index = .ok (rosterWritten raw role,
      clampedField [(5, raw.levels.toList, (raw.levels.map (fun l => min l 3)).toList)]) := by
  simp only [rosterRecordFaults, List.find?_eq_none, List.mem_cons, List.not_mem_nil, or_false, forall_eq_or_imp, forall_eq,
    Bool.not_eq_true] at sound
  obtain ⟨badge, free, -, inside⟩ := sound
  simp only [checkRoster, badgeTaken, firstFault, badge, free, named, inside, Bool.false_eq_true, if_false, rosterWritten]

theorem writeAnswer_levels (raw : RawRoster) : State.writeAnswer
    (clampedField [(5, raw.levels.toList, (raw.levels.map (fun l => min l 3)).toList)]) =
      if ∀ l ∈ raw.levels.toList, l ≤ 3 then ans .done else ans .clamped 5 := by
  have same : raw.levels.toList = (raw.levels.map (fun l => min l 3)).toList ↔ ∀ l ∈ raw.levels.toList, l ≤ 3 := by
    rw [Vector.toList_map, eq_comm, ← List.map_id raw.levels.toList, List.map_map, List.map_inj_left, List.map_id]
    exact forall₂_congr (fun l _ => min_eq_left_iff)
  simp only [clampedField, same]
  split_ifs <;> rfl

namespace State

section
variable {s : State} {st index : Nat} (fits : s.writeFault? st (decide (index ≤ 127)) 0 = none)
include fits

theorem takeRosterWrite_of_error {raw : RawRoster} {a : Ans} (bad : checkRoster raw s.tables.roster index = .error a) :
    s.takeRosterWrite st index (some raw) 0 = (s, a) := by
  simp only [takeRosterWrite, fits, bad]

theorem takeRosterWrite_of_sound {raw : RawRoster} {r : RosterRec} {field : Nat}
    (good : checkRoster raw s.tables.roster index = .ok (r, field)) : s.takeRosterWrite st index (some raw) 0 =
      ((s.setTables { s.tables with roster := s.tables.roster.put index r }).rosterEffects index, writeAnswer field) := by
  simp only [takeRosterWrite, fits, good]

theorem clearRoster_of_absent (absent : s.rosterRec? index = none) : s.takeRosterWrite st index none 0 = (s, ans .already) := by
  simp only [takeRosterWrite, fits, absent, if_true]

theorem clearRoster_of_present {old : RosterRec} (present : s.rosterRec? index = some old) :
    s.takeRosterWrite st index none 0 =
      ((s.setTables { s.tables with roster := s.tables.roster.del index }).rosterEffects index, ans .done) := by
  simp only [takeRosterWrite, fits, present, reduceCtorEq, if_false]

end

/-! ### What a level of 0 ends -/

/-- R11, first case: what the operator offers, and what is taken over, ends with the loss of the area. -/
def LostWith (op : Nat) (s : State) (a : Nat) : Prop :=
  (s.session? a).map (·.outOp) = some op ∨ (s.takingOver? a).isSome = true

/-- R11, second and third case: the operator is to get the area. -/
def WaitedFor (op : Nat) (s : State) (a : Nat) : Prop :=
  (s.session? a).map (·.inOp) = some op ∨ (s.takingOver? a).map (·.op) = some op

variable (s : State)

theorem takingOver?_of_lookHand {s t : State} {a : Nat} (h : t.hand.look a = s.hand.look a) : t.takingOver? a = s.takingOver? a := by
  rw [takingOver?, takingOver?, h]

theorem lostWith_of_lookHand {s t : State} {op a : Nat} (h : t.hand.look a = s.hand.look a) :
    LostWith op t a ↔ LostWith op s a := by
  rw [LostWith, LostWith, session?_of_lookHand h, takingOver?_of_lookHand h]

theorem waitedFor_of_lookHand {s t : State} {op a : Nat} (h : t.hand.look a = s.hand.look a) :
    WaitedFor op t a ↔ WaitedFor op s a := by
  rw [WaitedFor, WaitedFor, session?_of_lookHand h, takingOver?_of_lookHand h]

theorem loseAtZero_touches_loss (op a : Nat) : Touches ([.recs, .attnStacks] ++ takingParts) s (loseAtZero op s a) :=
  .ite (.after (closeSession_touches _ a _) (by decide) ((s.loseArea_touches a).mono (by decide)))
    ((s.loseArea_touches a).mono (by decide))

theorem lookHand_loseAtZero_ne {op a b : Nat} (h : b ≠ a) : (loseAtZero op s a).hand.look b = s.hand.look b := by
  have lost : (s.loseArea a).hand.look b = s.hand.look b := by rw [lookHand_loseArea, if_neg (fun x => h x.1)]
  unfold loseAtZero
  dsimp only
  split
  · rw [lookHand_closeSession, if_neg (fun x => h x.1), lost]
  · exact lost

theorem lookHand_loseAtZero_self {op a : Nat} (h : LostWith op s a) : (loseAtZero op s a).hand.look a = none := by
  have lost := s.lookHand_loseArea a a
  unfold loseAtZero
  dsimp only
  split
  case isTrue mine =>
    obtain ⟨x, open_, -⟩ := Option.map_eq_some_iff.mp mine
    rw [lookHand_closeSession, if_pos ⟨rfl, by rw [open_]; rfl⟩]
  case isFalse other =>
    by_cases taken : (s.takingOver? a).isSome = true
    · rw [lost, if_pos ⟨rfl, taken⟩]
    · rw [if_neg (fun x => taken x.2)] at lost
      exact absurd (session?_of_lookHand lost ▸ h.resolve_right taken) other

theorem leaveAtZero_touches_wait (op a : Nat) :
    Touches [.handover, .recs, .attnStacks, .said .notice] s (leaveAtZero op s a) := by
  have closed : Touches [.handover, .recs, .attnStacks, .said .notice] s
      (if (s.session? a).map (·.inOp) = some op then s.closeSession a .incomingGone else s) :=
    .ite (closeSession_touches _ a _) (.refl _ _)
  unfold leaveAtZero
  dsimp only
  split
  · exact .ite (.after (cancelTakeover_touches _ a _) (by decide) closed) closed
  · exact closed

theorem lookHand_leaveAtZero_ne {op a b : Nat} (h : b ≠ a) : (leaveAtZero op s a).hand.look b = s.hand.look b := by
  have closed : (if (s.session? a).map (·.inOp) = some op then s.closeSession a .incomingGone else s).hand.look b =
      s.hand.look b := by
    split
    · rw [lookHand_closeSession, if_neg (fun x => h x.1)]
    · rfl
  unfold leaveAtZero
  dsimp only
  split
  · split
    · rw [lookHand_cancelTakeover, if_neg (fun x => h x.1), closed]
    · exact closed
  · exact closed

theorem lookHand_leaveAtZero_self {op a : Nat} (h : WaitedFor op s a) : (leaveAtZero op s a).hand.look a = none := by
  unfold leaveAtZero
  dsimp only
  by_cases incoming : (s.session? a).map (·.inOp) = some op
  · have gone : (s.closeSession a .incomingGone).hand.look a = none := by
      have open_ : (s.session? a).isSome = true := by
        obtain ⟨x, open_, -⟩ := Option.map_eq_some_iff.mp incoming
        rw [open_]
        rfl
      rw [lookHand_closeSession, if_pos ⟨rfl, open_⟩]
    simp only [incoming, if_true, gone]
  · obtain ⟨x, taking, leads⟩ := Option.map_eq_some_iff.mp (h.resolve_left incoming)
    simp only [incoming, if_false, takingOver?_eq_some.mp taking, leads, if_true]
    rw [lookHand_cancelTakeover, if_pos ⟨rfl, by rw [taking]; rfl⟩]

theorem lookHand_foldl_loseAtZero {op a : Nat} (as : List Nat) (kept : a ∉ as) :
    (as.foldl (loseAtZero op) s).hand.look a = s.hand.look a := by
  induction as generalizing s with
  | nil => rfl
  | cons b as ih =>
    rw [List.mem_cons, not_or] at kept
    exact (ih _ kept.2).trans (s.lookHand_loseAtZero_ne kept.1)

theorem lookHand_foldl_leaveAtZero {op a : Nat} (as : List Nat) (kept : a ∉ as) :
    (as.foldl (leaveAtZero op) s).hand.look a = s.hand.look a := by
  induction as generalizing s with
  | nil => rfl
  | cons b as ih =>
    rw [List.mem_cons, not_or] at kept
    exact (ih _ kept.2).trans (s.lookHand_leaveAtZero_ne kept.1)

theorem idle_foldl_loseAtZero {op a : Nat} (as : List Nat) (listed : a ∈ as) (lost : LostWith op s a) :
    (as.foldl (loseAtZero op) s).hand.look a = none := by
  induction as generalizing s with
  | nil => simp at listed
  | cons b as ih =>
    rw [List.foldl_cons]
    by_cases here : a = b
    · subst here
      exact (Governs.foldl (loseAtZero_loses op).governs as _).hands.idle (s.lookHand_loseAtZero_self lost)
    · exact ih _ ((List.mem_cons.mp listed).resolve_left here)
        ((lostWith_of_lookHand (s.lookHand_loseAtZero_ne here)).mpr lost)

theorem idle_foldl_leaveAtZero {op a : Nat} (as : List Nat) (listed : a ∈ as) (awaited : WaitedFor op s a) :
    (as.foldl (leaveAtZero op) s).hand.look a = none := by
  induction as generalizing s with
  | nil => simp at listed
  | cons b as ih =>
    rw [List.foldl_cons]
    by_cases here : a = b
    · subst here
      exact (Governs.foldl (fun s a => s.leaveAtZero_governs op a) as _).hands.idle (s.lookHand_leaveAtZero_self awaited)
    · exact ih _ ((List.mem_cons.mp listed).resolve_left here)
        ((waitedFor_of_lookHand (s.lookHand_leaveAtZero_ne here)).mpr awaited)

/-- What only ends or lists again leaves what waits for the operator, or ends it. -/
theorem Hands.waitedFor {s t : State} (h : Hands s t) {op a : Nat} (awaited : WaitedFor op s a) :
    t.hand.look a = none ∨ WaitedFor op t a := by
  have lessens := h a
  unfold WaitedFor session? takingOver? at awaited ⊢
  cases after : t.hand.look a with
  | none => exact .inl rfl
  | some y =>
    refine .inr ?_
    rw [after] at lessens
    cases before : s.hand.look a with
    | none => rw [before] at lessens; cases y <;> exact lessens.elim
    | some x =>
      rw [before] at lessens awaited
      cases x <;> cases y <;> first
        | exact (show False from lessens).elim
        | (simp only [Handover.Lessens, Session.Relisted] at lessens
           rw [lessens]
           exact awaited)

/-! ### Waiting commands of other areas -/

theorem lookHand_endAwaiting_ne {a k : Nat} (away : ∀ x, s.gate.transit.look k = some x → x.area ≠ a) (o : ResultOutcome)
    (d : Nat) (c : ClosedOutcome) (cause also : Option Nat) : (s.endAwaiting k o d c cause also).hand.look a = s.hand.look a := by
  cases look : s.gate.transit.look k with
  | none => simp only [endAwaiting, look]
  | some x =>
    have freed : ((((s.freeTransit k).say (s.resultMsgs k x o d also)).say (s.closedMsgs k x c cause))).hand.look a =
        s.hand.look a := rfl
    rw [endAwaiting_of_look look]
    unfold resolveItems
    split
    · exact freed
    · split
      · rw [(noteItems_touches _ _).lookHand_eq (by decide), lookHand_updSession_ne _ (away x look).symm, freed]
      · exact freed

theorem lookHand_withdrawWaiting_ne {a : Nat} (listed : Tbl.wf s.gate.transit) {p : Transit → Bool}
    (away : ∀ x, p x = true → x.area ≠ a) (r : WithdrawReason) : (s.withdrawWaiting p r).hand.look a = s.hand.look a := by
  have walk (ks : List Nat) : ∀ u : State, (∀ k ∈ ks, ∀ x, u.gate.transit.look k = some x → x.area ≠ a) →
      (ks.foldl (fun s k => s.endAwaiting k .withdrawn r.number .withdrawn none none) u).hand.look a = u.hand.look a := by
    induction ks with
    | nil => exact fun _ _ => rfl
    | cons k ks ih =>
      intro u elsewhere
      refine (ih _ (fun j hj x look => ?_)).trans (u.lookHand_endAwaiting_ne (elsewhere k List.mem_cons_self) _ _ _ _ _)
      rw [lookTransit_endAwaiting] at look
      split at look
      · simp at look
      · exact elsewhere j (List.mem_cons_of_mem _ hj) x look
  refine walk _ s (fun k hk x look => ?_)
  obtain ⟨y, found, fits⟩ := (mem_transitWhere listed).mp hk
  cases look.symm.trans found
  exact away x (Bool.and_eq_true_iff.mp fits).2

/-! ### An operator at level 0 -/

/-- The areas in which the operator's level is 0. -/
def zeroAreas (op : Nat) : List Nat := areaNumbers.filter (fun a => decide (s.levelOf op a = 0))

/-- Those of them that the operator owns. -/
def zeroOwned (op : Nat) : List Nat := (s.zeroAreas op).filter (fun a => decide ((s.ownerOf a).map Prod.fst = some op))

/-- Before the operator is no longer waited for (R11, R148). -/
def relieved (op : Nat) : State := ((s.zeroOwned op).foldl (loseAtZero op) s).withdrawWaiting
  (fun x => decide (x.area ∈ s.zeroOwned op ∧ x.origOp = op)) .originatorGone

theorem releaseAtZero_eq (op : Nat) : s.releaseAtZero op = (s.zeroAreas op).foldl (leaveAtZero op) (s.relieved op) := rfl

theorem mem_zeroAreas {op a : Nat} : a ∈ s.zeroAreas op ↔ (1 ≤ a ∧ a ≤ 12) ∧ s.levelOf op a = 0 := by
  simp only [zeroAreas, List.mem_filter, mem_areaNumbers, decide_eq_true_eq]

theorem mem_zeroOwned {op a : Nat} : a ∈ s.zeroOwned op ↔ a ∈ s.zeroAreas op ∧ (s.ownerOf a).map Prod.fst = some op := by
  simp only [zeroOwned, List.mem_filter, decide_eq_true_eq]

theorem foldl_loseAtZero_touches (op : Nat) (as : List Nat) :
    Touches ([.recs, .attnStacks] ++ takingParts) s (as.foldl (loseAtZero op) s) :=
  Touches.foldl (fun s a => s.loseAtZero_touches_loss op a) _ s

theorem releaseAtZero_touches_relieved (op : Nat) :
    Touches [.handover, .recs, .attnStacks, .said .notice] (s.relieved op) (s.releaseAtZero op) :=
  Touches.foldl (fun s a => s.leaveAtZero_touches_wait op a) _ _

theorem transitListed_lost (listed : Tbl.wf s.gate.transit) (op : Nat) (as : List Nat) :
    Tbl.wf (as.foldl (loseAtZero op) s).gate.transit := by
  have same : (as.foldl (loseAtZero op) s).gate.transit = s.gate.transit := s.foldl_loseAtZero_touches op as .transit (by decide)
  rwa [same]

/-- R11: areas at level 1 or higher are not touched. -/
theorem releaseAtZero_kept (listed : Tbl.wf s.gate.transit) {op a : Nat} (level : s.levelOf op a ≠ 0) :
    (s.releaseAtZero op).ownerOf a = s.ownerOf a ∧ (s.releaseAtZero op).hand.look a = s.hand.look a := by
  have above : a ∉ s.zeroAreas op := fun h => level ((mem_zeroAreas s).mp h).2
  have notOwned : a ∉ s.zeroOwned op := fun h => above ((mem_zeroOwned s).mp h).1
  constructor
  · rw [(s.releaseAtZero_touches_relieved op).ownerOf_eq (by decide), relieved,
      (withdrawWaiting_touches _ _ _).ownerOf_eq (by decide)]
    have walk (as : List Nat) (kept : a ∉ as) : ∀ u : State, (as.foldl (loseAtZero op) u).ownerOf a = u.ownerOf a := by
      induction as with
      | nil => exact fun _ => rfl
      | cons b as ih =>
        rw [List.mem_cons, not_or] at kept
        exact fun u => (ih kept.2 _).trans ((loseAtZero_loses op).other u b a kept.1)
    exact walk _ notOwned s
  · rw [releaseAtZero_eq, lookHand_foldl_leaveAtZero _ _ above, relieved,
      lookHand_withdrawWaiting_ne _ (s.transitListed_lost listed op _) (fun x fits same => ?_), lookHand_foldl_loseAtZero _ _ notOwned]
    exact notOwned (same ▸ (of_decide_eq_true fits).1)

/-- R11: what waits for the operator at level 0 ends, and what the operator hands over or loses there. -/
theorem releaseAtZero_idle {op a : Nat} (zero : a ∈ s.zeroAreas op)
    (party : ((s.ownerOf a).map Prod.fst = some op ∧ LostWith op s a) ∨ WaitedFor op s a) :
    (s.releaseAtZero op).hand.look a = none := by
  rw [releaseAtZero_eq]
  have left (gone : (s.relieved op).hand.look a = none) :
      ((s.zeroAreas op).foldl (leaveAtZero op) (s.relieved op)).hand.look a = none :=
    (Governs.foldl (fun s a => s.leaveAtZero_governs op a) _ _).hands.idle gone
  rcases party with ⟨mine, lost⟩ | awaited
  · exact left ((withdrawWaiting_governs _ _ _).hands.idle
      (s.idle_foldl_loseAtZero _ ((mem_zeroOwned s).mpr ⟨zero, mine⟩) lost))
  · have before : Governs s (s.relieved op) :=
      (Governs.foldl (loseAtZero_loses op).governs _ s).trans (withdrawWaiting_governs _ _ _)
    rcases Hands.waitedFor before.hands awaited with gone | still
    · exact left gone
    · exact idle_foldl_leaveAtZero _ _ zero still

/-- R11, R148: the operator's waiting commands in the areas that are lost are withdrawn. -/
theorem releaseAtZero_transit (listed : Tbl.wf s.gate.transit) (op : Nat) {k : Nat} {x : Transit}
    (look : s.gate.transit.look k = some x) : (s.releaseAtZero op).gate.transit.look k =
      if x.state = .awaiting ∧ x.area ∈ s.zeroOwned op ∧ x.origOp = op then none else some x := by
  have lost := s.foldl_loseAtZero_touches op (s.zeroOwned op)
  rw [(s.releaseAtZero_touches_relieved op).lookTransit_eq (by decide), relieved,
    lookTransit_withdrawWaiting (s.transitListed_lost listed op _) _ _ (by rw [lost.lookTransit_eq (by decide)]; exact look)]
  simp only [decide_eq_true_eq]

end State
end Sys2Proof.Machine
end

section
/-! PROOFS. Roster records are written and cleared (R6, R10 to R12). -/

namespace Sys2Proof.Machine

namespace State

theorem ownersEntitled_arrived {s : State} (e : s.OwnersEntitled) (h : Hdr) : (arrived s h).OwnersEntitled := by
  have e := ownersEntitled_iff.mp e
  have e : s.fresh.EntitledBut none (fun _ _ => False) :=
    ⟨e.logonsListed, e.transitRoom, e.onePlace, e.areas, e.owners, e.takeovers⟩
  have touched := arrived_touches s h
  exact ownersEntitled_iff.mpr (e.of_touches touched (by decide) (.of_eq (touched .handover (by decide))))

section
variable {s : State} {op : Nat}

theorem rosterEffects_of_nowhere (nowhere : s.stationOf op = none) : s.rosterEffects op = s.coverScan := by
  simp only [rosterEffects, nowhere]

variable {st : Nat} (place : s.stationOf op = some st)
include place

theorem rosterEffects_of_forced (leaves : s.mayStay op st = false) :
    s.rosterEffects op = (s.forceOff op st .roster .originatorGone).forceAttention st := by
  simp only [rosterEffects, place, leaves, Bool.false_eq_true, if_false]

theorem rosterEffects_of_staying (stays : s.mayStay op st = true) : s.rosterEffects op = (s.releaseAtZero op).coverScan := by
  simp only [rosterEffects, place, stays, if_true]

end

theorem mayStay_of_record {s : State} {op st : Nat} {r : RosterRec} {q : StationRec} (record : s.rosterRec? op = some r)
    (present : s.stationRec? st = some q) :
    s.mayStay op st = (r.enabled && decide (st ∈ r.stations) && roleFits q.kind r.role) := by
  simp only [mayStay, record, present]

theorem mayStay_of_cleared {s : State} {op : Nat} (cleared : s.rosterRec? op = none) (st : Nat) : s.mayStay op st = false := by
  simp only [mayStay, cleared]

/-- The Roster with another content. -/
def withRoster (s : State) (roster : Tbl RosterRec) : State := s.setTables { s.tables with roster := roster }

theorem withRoster_touches (s : State) (roster : Tbl RosterRec) : Touches [.roster] s (s.withRoster roster) :=
  s.setRoster_touches roster

theorem withRoster_touches_fresh (s : State) (h : Hdr) (roster : Tbl RosterRec) :
    Touches (.roster :: arrivalParts) s.fresh ((arrived s h).withRoster roster) :=
  .after ((arrived s h).withRoster_touches roster) (by decide) ((arrived_touches s h).mono (List.subset_cons_self _ _))

theorem withRoster_entitled {s : State} {h : Hdr} {index : Nat} {roster : Tbl RosterRec} (e : s.OwnersEntitled)
    (other : ∀ op', op' ≠ index → roster.look op' = s.rosterRec? op') : ((arrived s h).withRoster roster).EntitledBut none
      (fun op' a => op' = index ∧ ((arrived s h).withRoster roster).levelOf index a = 0) :=
  (arrived s h).setRoster_entitled (fun op' ne => (other op' ne).trans ((arrived_touches s h).rosterRec?_eq (by decide) op').symm)
    (ownersEntitled_arrived e h)

end State

open State

theorem stationOf_withRoster {s : State} {index st : Nat} (e : s.OwnersEntitled) (h : Hdr) (roster : Tbl RosterRec)
    (logged : s.logonAt st = some index) : ((arrived s h).withRoster roster).stationOf index = some st := by
  have e := ownersEntitled_iff.mp e
  exact ((arrived_touches s h).stationOf_eq (by decide) index).trans (stationOf_of_logonAt e.logonsListed e.onePlace logged)

/-- R10: what forces an operator off leaves of the operator's logon, areas, sessions, takeovers and commands. -/
def ForcedOff (s : State) (h : Hdr) (index st : Nat) (t : State) : Prop :=
  t.logonAt st = none ∧ (∀ st', st' ≠ st → t.logonAt st' = s.logonAt st') ∧ (∀ a b, t.ownerOf a ≠ some (index, b)) ∧
    (∀ a, (s.ownerOf a).map Prod.fst ≠ some index → t.ownerOf a = s.ownerOf a) ∧
    (∀ a x, s.session? a = some x → x.outOp = index ∨ x.inOp = index → t.hand.look a = none) ∧
    (∀ a x, s.hand.look a = some (.takingOver x) → x.op = index → t.hand.look a = none) ∧
    (∀ k x, s.gate.transit.look k = some x →
      t.gate.transit.look k = if x.state = .awaiting ∧ x.origOp = index then none else some x) ∧
    ((arrived s h).link st ≠ .absent → s.outTo st (.notice (.loggedOff .roster)) ∈ t.sent) ∧
    Touches ([.roster, .logon, .grace, .said .answer] ++ endingParts ++ endParts) (arrived s h) t

section
variable {i : Instr} {s : State} {h : Hdr} {index : Nat} {f : State → State × Ans} {roster : Tbl RosterRec} {a : Ans}
  (taken : Taken s h) (asks : exec i s = requestEvent h f s) (changes : a.code.changes = true)
  (done : f (arrived s h) = (((arrived s h).withRoster roster).rosterEffects index, a))
include taken asks changes done

/-- R11: of an operator who is logged on nowhere the write changes the record alone. -/
theorem rosterChange_of_nowhere (nowhere : s.stationOf index = none) :
    ∃ t, exec i s = .next t ∧ (∀ j, t.rosterRec? j = roster.look j) ∧ Answered t h a ∧
      Touches ([.roster, .said .answer] ++ coverParts ++ endParts) (arrived s h) t := by
  have written := (arrived s h).setRoster_touches roster
  have place : ((arrived s h).withRoster roster).stationOf index = none :=
    ((arrived_touches s h).stationOf_eq (by decide) index).trans nowhere
  rw [rosterEffects_of_nowhere place] at done
  obtain ⟨operation, answered, within⟩ := requestEvent_carriedOut (l' := [.roster, .said .answer] ++ coverParts ++ endParts)
    taken asks rfl done changes (.after (coverScan_touches _) (List.subset_cons_self Part.roster _) (written.mono (by decide)))
    (by decide) (by decide)
  refine ⟨_, operation, fun j => ?_, answered, within⟩
  rw [(finish_answer_eq _ h a).rosterRec?_eq (by decide), (coverScan_touches _).rosterRec?_eq (by decide)]
  rfl

variable (e : s.OwnersEntitled) (other : ∀ op', op' ≠ index → roster.look op' = s.rosterRec? op') {st : Nat}
  (logged : s.logonAt st = some index)
include e other logged

/-- R10: an operator who may not stay is forced off. -/
theorem rosterChange_of_forced (leaves : ((arrived s h).withRoster roster).mayStay index st = false) :
    ∃ t, exec i s = .next t ∧ (∀ j, t.rosterRec? j = roster.look j) ∧ ForcedOff s h index st t ∧ Answered t h a := by
  have touched := s.withRoster_touches_fresh h roster
  have written := (arrived s h).withRoster_touches roster
  have entitled := withRoster_entitled (h := h) e other
  rw [rosterEffects_of_forced (stationOf_withRoster e h roster logged) leaves] at done
  have record (j : Nat) : ((arrived s h).withRoster roster).rosterRec? j = roster.look j := rfl
  generalize (arrived s h).withRoster roster = u at done touched written entitled record
  have forcing := u.forceOff_touches index st .roster .originatorGone
  obtain ⟨operation, answered, within⟩ := requestEvent_carriedOut
    (l' := [.roster, .logon, .grace, .said .answer] ++ endingParts ++ endParts) taken asks rfl done changes
    (.after (forceAttention_touches _ st) (List.nil_subset _) (.after forcing (List.subset_cons_self Part.roster _)
      (written.mono (by decide)))) (by decide) (by decide)
  have ended : Touches (.said .answer :: endParts) (u.forceOff index st .roster .originatorGone)
      (((u.forceOff index st .roster .originatorGone).forceAttention st).finish.answer h a) :=
    .after (finish_answer_eq _ h a) (List.Subset.refl _) ((forceAttention_touches _ st).mono (List.nil_subset _))
  obtain ⟨gone, -, others, idle, owners, sessions, takeovers, transit⟩ := forceOff_effect entitled ended
  have hand (b : Nat) : u.hand.look b = s.hand.look b := touched.lookHand_eq (by decide) b
  have owner (b : Nat) : u.ownerOf b = s.ownerOf b := touched.ownerOf_eq (by decide) b
  refine ⟨_, operation, fun j => ?_, ⟨gone, fun st' ne => (others st' ne).trans (touched.logonAt_eq (by decide) st'), idle,
    fun b ne => (owners b (by rw [owner]; exact ne)).trans (owner b),
    fun b x open_ => sessions b x ((session?_of_lookHand (hand b)).trans open_),
    fun b x taking => takeovers b x ((hand b).trans taking),
    fun k x look => transit k x ((touched.lookTransit_eq (by decide) k).trans look), fun present => ?_, within⟩, answered⟩
  · rw [ended.rosterRec?_eq (by decide), forcing.rosterRec?_eq (by decide), record]
  · have told := u.forceOff_told (st := st) (by rw [written.link_eq (by decide)]; exact present) index .roster .originatorGone
    have attending (v : State) : (v.forceAttention st).said = v.said := rfl
    rw [touched.outTo_eq (by decide), ← attending] at told
    exact mem_sent_answer _ (mem_sent_finish _ told rfl)

/-- R11: an operator who stays loses what the level 0 does not allow. -/
theorem rosterChange_of_staying (stays : ((arrived s h).withRoster roster).mayStay index st = true) {r : RosterRec}
    (record : roster.look index = some r) :
    ∃ t, exec i s = .next t ∧ (∀ j, t.rosterRec? j = roster.look j) ∧
      (∀ a b, r.level a = 0 → t.ownerOf a ≠ some (index, b)) ∧
      (∀ a, 1 ≤ r.level a → t.ownerOf a = s.ownerOf a ∧ t.hand.look a = s.hand.look a) ∧
      (∀ a x, r.level a = 0 → s.session? a = some x →
        ((s.ownerOf a).map Prod.fst = some index ∧ x.outOp = index) ∨ x.inOp = index → t.hand.look a = none) ∧
      (∀ a x, r.level a = 0 → s.hand.look a = some (.takingOver x) →
        (s.ownerOf a).map Prod.fst = some index ∨ x.op = index → t.hand.look a = none) ∧
      (∀ k x, s.gate.transit.look k = some x → t.gate.transit.look k =
        if x.state = .awaiting ∧ x.origOp = index ∧ r.level x.area = 0 ∧
          (s.ownerOf x.area).map Prod.fst = some index then none else some x) ∧
      Answered t h a ∧ Touches ([.roster, .said .answer] ++ endingParts ++ endParts) (arrived s h) t := by
  have touched := s.withRoster_touches_fresh h roster
  have written := (arrived s h).withRoster_touches roster
  have areas := (ownersEntitled_iff.mp e).areas
  have entitled := withRoster_entitled (h := h) e other
  rw [rosterEffects_of_staying (stationOf_withRoster e h roster logged) stays] at done
  have known (j : Nat) : ((arrived s h).withRoster roster).rosterRec? j = roster.look j := rfl
  generalize (arrived s h).withRoster roster = u at done touched written entitled known
  have owner (b : Nat) : u.ownerOf b = s.ownerOf b := touched.ownerOf_eq (by decide) b
  have hand (b : Nat) : u.hand.look b = s.hand.look b := touched.lookHand_eq (by decide) b
  have transit (k : Nat) : u.gate.transit.look k = s.gate.transit.look k := touched.lookTransit_eq (by decide) k
  have level (b : Nat) : u.levelOf index b = r.level b := by
    rw [levelOf, known, record]
    rfl
  have released := u.releaseAtZero_touches index
  obtain ⟨operation, answered, within⟩ := requestEvent_carriedOut
    (l' := [.roster, .said .answer] ++ endingParts ++ endParts) taken asks rfl done changes
    (.after (coverScan_touches _) (by decide) (.after released (List.subset_cons_self Part.roster _)
      (written.mono (by decide)))) (by decide) (by decide)
  have ended : Touches (.said .answer :: coverParts ++ endParts) (u.releaseAtZero index)
      ((u.releaseAtZero index).coverScan.finish.answer h a) :=
    .after (finish_answer_eq _ h a) (by decide) ((coverScan_touches _).mono (by decide))
  have idle (b : Nat) (gone : (u.releaseAtZero index).hand.look b = none) :
      ((u.releaseAtZero index).coverScan.finish.answer h a).hand.look b = none := (ended.lookHand_eq (by decide) b).trans gone
  have zero {b : Nat} (range : 1 ≤ b ∧ b ≤ 12) (none_ : r.level b = 0) : b ∈ u.zeroAreas index :=
    (mem_zeroAreas u).mpr ⟨range, (level b).trans none_⟩
  refine ⟨_, operation, fun j => ?_, fun b st' none_ owned => ?_, fun b some_ => ?_, fun b x none_ open_ party => idle b ?_,
    fun b x none_ taking party => idle b ?_, fun k x look => ?_, answered, within⟩
  · rw [ended.rosterRec?_eq (by decide), released.rosterRec?_eq (by decide), known]
  · rw [ended.ownerOf_eq (by decide)] at owned
    have held := (entitled.releaseAtZero.owners b index st' owned).2.2 (fun f => f)
    rw [released.levelOf_eq (by decide), level, none_] at held
    exact absurd held (by decide)
  · obtain ⟨own, kept⟩ := u.releaseAtZero_kept entitled.transitRoom.1 (op := index) (a := b) (by rw [level]; omega)
    exact ⟨by rw [ended.ownerOf_eq (by decide), own, owner], by rw [ended.lookHand_eq (by decide), kept, hand]⟩
  · have open' : u.session? b = some x := (session?_of_lookHand (hand b)).trans open_
    refine u.releaseAtZero_idle (zero (areas b (.inr (hand_of_session open_))) none_) ?_
    rw [owner, LostWith, WaitedFor, open']
    rcases party with ⟨mine, out⟩ | incoming
    · exact .inl ⟨mine, .inl (congrArg some out)⟩
    · exact .inr (.inl (congrArg some incoming))
  · have taking' : u.takingOver? b = some x := takingOver?_eq_some.mpr ((hand b).trans taking)
    refine u.releaseAtZero_idle (zero (areas b (.inr (by rw [taking]; rfl))) none_) ?_
    rw [owner, LostWith, WaitedFor, taking']
    rcases party with mine | leads
    · exact .inl ⟨mine, .inr rfl⟩
    · exact .inr (.inr (congrArg some leads))
  · rw [ended.lookTransit_eq (by decide), u.releaseAtZero_transit entitled.transitRoom.1 index ((transit k).trans look)]
    have same : x.area ∈ u.zeroOwned index ↔ r.level x.area = 0 ∧ (s.ownerOf x.area).map Prod.fst = some index := by
      rw [mem_zeroOwned, mem_zeroAreas, level, owner]
      refine ⟨fun ⟨⟨_, none_⟩, mine⟩ => ⟨none_, mine⟩, fun ⟨none_, mine⟩ => ⟨⟨areas _ (.inl ?_), none_⟩, mine⟩⟩
      obtain ⟨p, owned, -⟩ := Option.map_eq_some_iff.mp mine
      rw [owned]
      rfl
    simp only [same]
    exact if_congr (by tauto) rfl rfl

end

end Sys2Proof.Machine

open Sys2Proof.Machine State in
/-- Settles O51: the record is checked and put, and then its effects on the operator's logon follow. -/
theorem rosterWriteTakesEffect : Obligations.RosterWriteTakesEffect := by
  unfold Obligations.RosterWriteTakesEffect
  intro s h index taken entitled free
  have touched := arrived_touches s h
  have entitled' : (arrived s h).entitled h.station = true := (s.entitled_arrived h _).trans entitled
  have free' : (arrived s h).store.job = none := (s.job_arrived h).trans free
  have roster : (arrived s h).tables.roster = s.tables.roster := touched .roster (by decide)
  have record (j : Nat) : (arrived s h).rosterRec? j = s.rosterRec? j := touched.rosterRec?_eq (by decide) j
  refine ⟨fun outside record => rosterWrite_refused taken (takeRosterWrite_of_fault ?_ record) rfl, fun known raw => ?_,
    fun known e => ?_⟩
  · rw [decide_eq_false (by omega)]
    exact writeFault?_of_outside entitled' free'
  · have fits : (arrived s h).writeFault? h.station (decide (index ≤ 127)) 0 = none := by
      rw [decide_eq_true known]
      exact writeFault?_of_fits entitled' free'
    refine ⟨fun f fault => ?_, fun role sound named e => ?_⟩
    · exact rosterWrite_refused taken (takeRosterWrite_of_error fits (roster ▸ checkRoster_of_fault fault))
        (rosterRecordFaults_refuse _ (List.mem_of_find?_eq_some fault))
    have done := takeRosterWrite_of_sound fits (raw := raw) (roster ▸ checkRoster_of_sound sound named)
    rw [writeAnswer_levels, roster] at done
    have changes : (if ∀ l ∈ raw.levels.toList, l ≤ 3 then ans .done else ans .clamped 5).code.changes = true := by
      split_ifs <;> rfl
    have put : (s.tables.roster.put index (rosterWritten raw role)).look index = some (rosterWritten raw role) :=
      (Sys2Proof.Tbl.look_put _ _ _ _).trans (if_pos rfl)
    have kept : ∀ j, j ≠ index → (s.tables.roster.put index (rosterWritten raw role)).look j = s.rosterRec? j :=
      fun j ne => (Sys2Proof.Tbl.look_put _ _ _ _).trans (if_neg ne)
    have asks : exec (.rosterWrite h index (some raw) 0) s =
        requestEvent h (fun s => s.takeRosterWrite h.station index (some raw) 0) s := rfl
    refine ⟨fun nowhere => ?_, fun st q logged present => ?_⟩
    · obtain ⟨t, operation, after, answered, within⟩ := rosterChange_of_nowhere taken asks changes done nowhere
      exact ⟨t, operation, (after index).trans put, fun j ne => (after j).trans (kept j ne), answered, within⟩
    have stays := mayStay_of_record (s := (arrived s h).withRoster (s.tables.roster.put index (rosterWritten raw role))) put
      ((touched.stationRec?_eq (by decide) st).trans present)
    refine ⟨fun unfit => ?_, fun enabled permitted fitting => ?_⟩
    · have leaves : ((arrived s h).withRoster (s.tables.roster.put index (rosterWritten raw role))).mayStay index st = false := by
        rw [stays]
        rcases unfit with off | away | unfit
        · rw [show (rosterWritten raw role).enabled = false by exact off]
          rfl
        · rw [decide_eq_false (show st ∉ (rosterWritten raw role).stations by exact away), Bool.and_false]
          rfl
        · rw [show roleFits q.kind (rosterWritten raw role).role = false by exact unfit, Bool.and_false]
      obtain ⟨t, operation, after, forced, answered⟩ := rosterChange_of_forced taken asks changes done e kept logged leaves
      exact ⟨t, operation, (after index).trans put, fun j ne => (after j).trans (kept j ne), forced, answered⟩
    · rw [show (rosterWritten raw role).enabled = true by exact enabled,
        decide_eq_true (show st ∈ (rosterWritten raw role).stations by exact permitted),
        show roleFits q.kind (rosterWritten raw role).role = true by exact fitting] at stays
      obtain ⟨t, operation, after, rest⟩ := rosterChange_of_staying taken asks changes done e kept logged stays put
      exact ⟨t, operation, (after index).trans put, fun j ne => (after j).trans (kept j ne), rest⟩
  · have fits : (arrived s h).writeFault? h.station (decide (index ≤ 127)) 0 = none := by
      rw [decide_eq_true known]
      exact writeFault?_of_fits entitled' free'
    have gone : (s.tables.roster.del index).look index = none := (Sys2Proof.Tbl.look_del _ _ _).trans (if_pos rfl)
    have kept : ∀ j, j ≠ index → (s.tables.roster.del index).look j = s.rosterRec? j :=
      fun j ne => (Sys2Proof.Tbl.look_del _ _ _).trans (if_neg ne)
    have asks : exec (.rosterWrite h index none 0) s =
        requestEvent h (fun s => s.takeRosterWrite h.station index none 0) s := rfl
    refine ⟨fun absent => rosterWrite_refused taken (clearRoster_of_absent fits ((record index).trans absent)) rfl,
      fun old present nowhere => ?_, fun old st present logged => ?_⟩
    · have done := clearRoster_of_present fits ((record index).trans present)
      rw [roster] at done
      obtain ⟨t, operation, after, answered, within⟩ := rosterChange_of_nowhere taken asks rfl done nowhere
      exact ⟨t, operation, (after index).trans gone, fun j ne => (after j).trans (kept j ne), answered, within⟩
    · have done := clearRoster_of_present fits ((record index).trans present)
      rw [roster] at done
      obtain ⟨t, operation, after, forced, answered⟩ := rosterChange_of_forced taken asks rfl done e kept logged
        (mayStay_of_cleared (s := (arrived s h).withRoster (s.tables.roster.del index)) gone st)
      exact ⟨t, operation, (after index).trans gone, fun j ne => (after j).trans (kept j ne), forced, answered⟩
end

section
/-! PROOFS. The transfer of an area (R32, R117, R118, R161, R167). -/

namespace Sys2Proof.Machine

namespace State

variable (s : State)

/-! ### Overrides follow the owner -/

/-- R117, R118: the holder of an override changes, and every UP station is told. -/
def changeHolder (op : Nat) (s : State) (p : Nat × Override) : State :=
  ({ s with overrides := s.overrides.put p.1 { p.2 with holder := op } } : State).sayAfter
    (s.overrideNotice .holderChanged { p.2 with holder := op })

theorem changeHolders_eq (a op : Nat) : s.changeHolders a op =
    (s.overrides.filter (fun p => decide (s.overrideArea p.2 = some a ∧ p.2.holder ≠ op))).foldl (changeHolder op) s := rfl

theorem changeHolder_touches (op : Nat) (p : Nat × Override) :
    Touches [.overrides, .said .notice] s (changeHolder op s p) := by
  have put : Touches [.overrides] s { s with overrides := s.overrides.put p.1 { p.2 with holder := op } } := by
    intro q hq
    cases q <;> first | rfl | exact ⟨rfl, rfl⟩ | exact absurd (by decide) hq
  exact .after (sayAfter_notices _ _ (fun o ho => kind_toUp _ ho)) (by decide) (put.mono (by decide))

theorem look_changeHolder (op : Nat) (p : Nat × Override) (n : Nat) : (changeHolder op s p).overrides.look n =
    if n = p.1 then some { p.2 with holder := op } else s.overrides.look n := Tbl.look_put _ _ _ _

theorem look_foldl_changeHolder_ne (op n : Nat) (l : List (Nat × Override)) (away : n ∉ l.map Prod.fst) :
    (l.foldl (changeHolder op) s).overrides.look n = s.overrides.look n := by
  induction l generalizing s with
  | nil => rfl
  | cons p l ih =>
    rw [List.map_cons, List.mem_cons, not_or] at away
    rw [List.foldl_cons, ih _ away.2, look_changeHolder, if_neg away.1]

theorem look_foldl_changeHolder (op : Nat) {n : Nat} {o : Override} (l : List (Nat × Override))
    (once : (l.map Prod.fst).Nodup) (listed : (n, o) ∈ l) :
    (l.foldl (changeHolder op) s).overrides.look n = some { o with holder := op } := by
  induction l generalizing s with
  | nil => simp at listed
  | cons p l ih =>
    rw [List.map_cons, List.nodup_cons] at once
    rw [List.foldl_cons]
    rcases List.mem_cons.mp listed with rfl | later
    · rw [look_foldl_changeHolder_ne _ _ _ _ once.1, look_changeHolder, if_pos rfl]
    · exact ih _ once.2 later

/-- R117: the holder of every override on a tag of the area. -/
theorem look_changeHolders (listed : Tbl.wf s.overrides) (a op : Nat) {n : Nat} {o : Override}
    (look : s.overrides.look n = some o) : (s.changeHolders a op).overrides.look n =
      some (if s.overrideArea o = some a then { o with holder := op } else o) := by
  have rising : (s.overrides.map Prod.fst).Pairwise (· < ·) := List.pairwise_map.mpr listed
  have once : ((s.overrides.filter (fun p => decide (s.overrideArea p.2 = some a ∧ p.2.holder ≠ op))).map Prod.fst).Nodup :=
    (rising.sublist (List.filter_sublist.map _)).imp (fun h => Nat.ne_of_lt h)
  rw [changeHolders_eq]
  by_cases changes : s.overrideArea o = some a ∧ o.holder ≠ op
  · rw [look_foldl_changeHolder _ _ _ once (List.mem_filter.mpr ⟨Tbl.mem_of_look look, decide_eq_true changes⟩), if_pos changes.1]
  · rw [look_foldl_changeHolder_ne, look]
    · split
      case isTrue here =>
        have same : o.holder = op := not_not.mp (fun ne => changes ⟨here, ne⟩)
        rw [← same]
      · rfl
    · intro inside
      obtain ⟨⟨m, o'⟩, member, rfl⟩ := List.mem_map.mp inside
      obtain ⟨listed', fits⟩ := List.mem_filter.mp member
      cases look.symm.trans (Tbl.look_of_mem listed listed')
      exact changes (of_decide_eq_true fits)

theorem foldl_changeHolder_says (op : Nat) (l : List (Nat × Override)) (s : State) : Says s (l.foldl (changeHolder op) s) := by
  induction l generalizing s with
  | nil => exact .refl s
  | cons p l ih => exact fun o ho => ih _ o ((said_sayAfter _ _).mpr (.inl ho))

/-- R118: every UP station is told of each change of holder. -/
theorem foldl_changeHolder_told (op : Nat) {n : Nat} {o : Override} {j : Nat} (low : 1 ≤ j) (high : j ≤ 16)
    (l : List (Nat × Override)) (listed : (n, o) ∈ l) (up : s.isUp j = true) :
    s.outTo j (.notice (.override .holderChanged o.kind o.tag (s.badgeOf op) o.station (s.secondsLeft o.expiry) o.reason)) ∈
      (l.foldl (changeHolder op) s).said := by
  induction l generalizing s with
  | nil => simp at listed
  | cons p l ih =>
    rw [List.foldl_cons]
    rcases List.mem_cons.mp listed with rfl | later
    · exact foldl_changeHolder_says op l _ _ ((said_sayAfter _ _).mpr (.inr (s.mem_toUp low high up _)))
    · have touched := s.changeHolder_touches op p
      have told := ih (changeHolder op s p) later ((touched.isUp_eq (by decide) j).trans up)
      rwa [touched.outTo_eq (by decide), touched.badgeOf_eq (by decide), touched.secondsLeft_eq (by decide)] at told

theorem changeHolders_says (a op : Nat) : Says s (s.changeHolders a op) := foldl_changeHolder_says op _ s

theorem changeHolders_told {a op n : Nat} {o : Override} (look : s.overrides.look n = some o)
    (here : s.overrideArea o = some a) (changes : o.holder ≠ op) {j : Nat} (low : 1 ≤ j) (high : j ≤ 16) (up : s.isUp j = true) :
    s.outTo j (.notice (.override .holderChanged o.kind o.tag (s.badgeOf op) o.station (s.secondsLeft o.expiry) o.reason)) ∈
      (s.changeHolders a op).said :=
  s.foldl_changeHolder_told op low high _ (List.mem_filter.mpr ⟨Tbl.mem_of_look look, decide_eq_true ⟨here, changes⟩⟩) up

/-! ### The area passes -/

/-- The area once the Authority Unit has made the new owner and the transfer is concluded (R161, R167). -/
def passed (a op st : Nat) (kind : TransferKind) (old : Option (Nat × Nat)) : State :=
  (s.giveOwner a op st).coverScan.concludeTransfer a op kind old

variable {s}

theorem completeHandover_of_granted {a st : Nat} {x : Session} (open_ : s.session? a = some x)
    (granted : s.ownerConditions x.inOp a = some st) :
    s.completeHandover a = s.passed a x.inOp st .handover (some (x.outOp, x.outStation)) := by
  simp only [completeHandover, open_, transferOwner, granted, Option.map_some, passed]

theorem completeHandover_of_declined {a : Nat} {x : Session} (open_ : s.session? a = some x)
    (declined : s.ownerConditions x.inOp a = none) : s.completeHandover a = s.closeSession a .transferRefused := by
  simp only [completeHandover, open_, transferOwner, declined, Option.map_none]

theorem completeTakeover_of_granted {a op st : Nat} (granted : s.ownerConditions op a = some st) :
    s.completeTakeover a op = s.passed a op st .takeover (s.ownerOf a) := by
  simp only [completeTakeover, transferOwner, granted, Option.map_some, passed]

theorem completeTakeover_of_declined {a op : Nat} (declined : s.ownerConditions op a = none) :
    s.completeTakeover a op = s.cancelTakeover a .transferRefused := by
  simp only [completeTakeover, transferOwner, declined, Option.map_none]

variable (s)

/-- The scan that follows the new owner (R161 step 1). -/
theorem giveOwner_scanned_touches (a op st : Nat) : Touches (.owner :: coverParts) s (s.giveOwner a op st).coverScan :=
  .after (coverScan_touches _) (by decide) ((s.giveOwner_touches a op st).mono (by decide))

theorem passed_touches (a op st : Nat) (kind : TransferKind) (old : Option (Nat × Nat)) :
    Touches transferParts s (s.passed a op st kind old) :=
  .after (concludeTransfer_touches _ a op kind old) (by decide) ((s.giveOwner_scanned_touches a op st).mono (by decide))

theorem ownerOf_passed (a op st : Nat) (kind : TransferKind) (old : Option (Nat × Nat)) (b : Nat) :
    (s.passed a op st kind old).ownerOf b = if b = a then some (op, st) else s.ownerOf b := by
  rw [passed, (concludeTransfer_touches _ a op kind old).ownerOf_eq (by decide), (coverScan_touches _).ownerOf_eq (by decide),
    ownerOf_giveOwner]

theorem coverOf_passed (a op st : Nat) (kind : TransferKind) (old : Option (Nat × Nat)) :
    (s.passed a op st kind old).coverOf a = none := by
  have given : (s.giveOwner a op st).coverOf a = none := (Tbl.look_del _ _ _).trans (if_pos rfl)
  rw [passed, (concludeTransfer_touches _ a op kind old).coverOf_eq (by decide), coverOf_coverScan_eq_foldl, coverOf_foldl_setCover,
    given, coverWalk, ownerOf_giveOwner, if_pos rfl]
  exact ite_self _

theorem lookHand_passed (a op st : Nat) (kind : TransferKind) (old : Option (Nat × Nat)) (b : Nat) :
    (s.passed a op st kind old).hand.look b = if b = a then none else s.hand.look b := by
  rw [passed, lookHand_concludeTransfer, (s.giveOwner_scanned_touches a op st).lookHand_eq (by decide)]

theorem concludeTransfer_touches_holders (a op : Nat) (kind : TransferKind) (old : Option (Nat × Nat)) :
    Touches [.handover, .said .notice] (s.changeHolders a op) (s.concludeTransfer a op kind old) := by
  have idle := (idleHandover_touches (s.changeHolders a op) a)
  unfold concludeTransfer
  dsimp only
  split
  · exact .after (sayAfter_notices _ _ kind_heardBy_notice) (by decide) (idle.mono (by decide))
  · exact .after (sayAfter_notices _ _ kind_toBoth) (by decide) (idle.mono (by decide))
  · exact .after (sayAfter_notices _ _ kind_toBoth) (by decide) (idle.mono (by decide))

theorem concludeTransfer_says (a op : Nat) (kind : TransferKind) (old : Option (Nat × Nat)) :
    Says (s.changeHolders a op) (s.concludeTransfer a op kind old) := by
  have idle : Says (s.changeHolders a op) ((s.changeHolders a op).idleHandover a) := fun _ ho => ho
  unfold concludeTransfer
  dsimp only
  split <;> exact idle.trans (sayAfter_says _ _)

/-- R161, R167: both parties to a transfer are told. -/
theorem concludeTransfer_told {a op st o ost : Nat} (kind : TransferKind) (owned : s.ownerOf a = some (op, st)) {st' : Nat}
    (party : st' = ost ∨ st' = st) (present : s.link st' ≠ .absent) :
    s.outTo st' (.notice (.handoverDone a kind (s.badgeOf o) ost (s.badgeOf op) st)) ∈
      (s.concludeTransfer a op kind (some (o, ost))).said := by
  have changed : Touches [.overrides, .handover, .said .notice] s ((s.changeHolders a op).idleHandover a) :=
    .after (idleHandover_touches _ a) (by decide) ((s.changeHolders_touches a op).mono (by decide))
  have given : (((((s.changeHolders a op).idleHandover a).ownerOf a).map Prod.snd).getD 0) = st := by
    rw [changed.ownerOf_eq (by decide), owned]
    rfl
  rw [← changed.outTo_eq (by decide), ← changed.badgeOf_eq (by decide), ← changed.badgeOf_eq (by decide)]
  rw [← changed.link_eq (by decide)] at present
  unfold concludeTransfer
  dsimp only
  rw [given]
  cases kind with
  | handover =>
    refine (said_sayAfter _ _).mpr (.inr ?_)
    rcases party with rfl | rfl
    · exact mem_toBoth_left _ present _ _
    · exact mem_toBoth_right _ present _ _
  | takeover =>
    refine (said_sayAfter _ _).mpr (.inr ?_)
    rcases party with rfl | rfl
    · exact mem_toBoth_right _ present _ _
    · exact mem_toBoth_left _ present _ _

/-- R167: where the area was unowned, the new owner's station alone is told. -/
theorem concludeTransfer_told_unowned {a op st : Nat} (kind : TransferKind) (owned : s.ownerOf a = some (op, st))
    (present : s.link st ≠ .absent) : s.outTo st (.notice (.handoverDone a kind 0 0 (s.badgeOf op) st)) ∈
      (s.concludeTransfer a op kind none).said := by
  have changed : Touches [.overrides, .handover, .said .notice] s ((s.changeHolders a op).idleHandover a) :=
    .after (idleHandover_touches _ a) (by decide) ((s.changeHolders_touches a op).mono (by decide))
  have given : (((((s.changeHolders a op).idleHandover a).ownerOf a).map Prod.snd).getD 0) = st := by
    rw [changed.ownerOf_eq (by decide), owned]
    rfl
  rw [← changed.outTo_eq (by decide), ← changed.badgeOf_eq (by decide)]
  rw [← changed.link_eq (by decide)] at present
  unfold concludeTransfer
  dsimp only
  rw [given]
  exact (said_sayAfter _ _).mpr (.inr (mem_heardBy _ present _))

end State
end Sys2Proof.Machine
end

section
/-! PROOFS. What an area waits for and its commands in flight while waiting commands end (R134, R148, R157), and what the
transfer of an area leaves (R32, R117, R161). -/

namespace Sys2Proof.Machine

/-! ### Only lists change -/

/-- The list of a session; a takeover has none. -/
def Handover.items : Handover → List Item
  | .offered x => x.items
  | .quiescing x => x.items
  | .takingOver _ => []

/-- What an area waits for with another list. -/
def Handover.withItems (l : List Item) : Handover → Handover
  | .offered x => .offered { x with items := l }
  | .quiescing x => .quiescing { x with items := l }
  | .takingOver t => .takingOver t

theorem Handover.withItems_items (h : Handover) : h.withItems h.items = h := by cases h <;> rfl

theorem Handover.withItems_withItems (h : Handover) (l m : List Item) : (h.withItems l).withItems m = h.withItems m := by
  cases h <;> rfl

theorem Handover.length_withItems (h : Handover) {l : List Item} (same : l.length = h.items.length) :
    (h.withItems l).items.length = h.items.length := by
  cases h <;> first | exact same | rfl

/-- From `s` to `t` every area waits for what it waited for, but for the marks of a session's list. -/
def ListsOnly (s t : State) : Prop := ∀ a,
  (s.hand.look a = none → t.hand.look a = none) ∧
    ∀ h, s.hand.look a = some h → ∃ l, l.length = h.items.length ∧ t.hand.look a = some (h.withItems l)

namespace ListsOnly

variable {s t u : State}

theorem of_look (same : ∀ a, t.hand.look a = s.hand.look a) : ListsOnly s t := fun a =>
  ⟨fun none_ => (same a).trans none_, fun h look => ⟨h.items, rfl, by rw [same, look, h.withItems_items]⟩⟩

theorem refl (s : State) : ListsOnly s s := .of_look (fun _ => rfl)

theorem trans (h : ListsOnly s t) (k : ListsOnly t u) : ListsOnly s u := fun a =>
  ⟨fun none_ => (k a).1 ((h a).1 none_), fun x look => by
    obtain ⟨l, length, look'⟩ := (h a).2 x look
    obtain ⟨m, length', look''⟩ := (k a).2 _ look'
    exact ⟨m, length'.trans (x.length_withItems length), by rw [look'', x.withItems_withItems]⟩⟩

theorem of_touches {l : List Part} (h : Touches l s t) (hl : .handover ∉ l) : ListsOnly s t :=
  .of_look (h.lookHand_eq hl)

theorem foldl {α : Type} {f : State → α → State} (h : ∀ s x, ListsOnly s (f s x)) (xs : List α) (s : State) :
    ListsOnly s (xs.foldl f s) := by
  induction xs generalizing s with
  | nil => exact refl s
  | cons x xs ih => exact (h s x).trans (ih _)

theorem offered (h : ListsOnly s t) {a : Nat} {x : Session} (look : s.hand.look a = some (.offered x)) :
    ∃ l, l.length = x.items.length ∧ t.hand.look a = some (.offered { x with items := l }) := (h a).2 _ look

theorem quiescing (h : ListsOnly s t) {a : Nat} {x : Session} (look : s.hand.look a = some (.quiescing x)) :
    ∃ l, l.length = x.items.length ∧ t.hand.look a = some (.quiescing { x with items := l }) := (h a).2 _ look

theorem takingOver (h : ListsOnly s t) {a : Nat} {x : Takeover} (look : s.hand.look a = some (.takingOver x)) :
    t.hand.look a = some (.takingOver x) := by
  obtain ⟨l, -, look⟩ := (h a).2 _ look
  exact look

theorem isQuiescing (h : ListsOnly s t) (a : Nat) : t.isQuiescing a = s.isQuiescing a := by
  unfold State.isQuiescing
  cases look : s.hand.look a with
  | none => rw [(h a).1 look]
  | some x =>
    obtain ⟨l, -, look'⟩ := (h a).2 x look
    rw [look']
    cases x <;> rfl

end ListsOnly

namespace State

variable (s : State)

theorem resolveItems_listsOnly (a : Nat) (p : ItemRef → Bool) : ListsOnly s (s.resolveItems a p) := by
  have marked (x : Session) : (x.items.map (fun i => if p i.ref then { i with resolved := true } else i)).length =
      x.items.length := List.length_map _
  unfold resolveItems
  split
  · exact .refl s
  split
  · refine ListsOnly.trans (fun b => ?_) (.of_touches (noteItems_touches _ a) (by decide))
    by_cases here : b = a
    · subst here
      unfold updSession
      split
      case h_1 x look =>
        refine ⟨fun none_ => by simp [look] at none_, fun h look' => ?_⟩
        cases look.symm.trans look'
        exact ⟨_, marked x, Tbl.look_put_self _ _ _⟩
      case h_2 x look =>
        refine ⟨fun none_ => by simp [look] at none_, fun h look' => ?_⟩
        cases look.symm.trans look'
        exact ⟨_, marked x, Tbl.look_put_self _ _ _⟩
      · exact ListsOnly.refl s b
    · have same := lookHand_updSession_ne s here (fun x => { x with items := x.items.map (fun i =>
        if p i.ref then { i with resolved := true } else i) })
      exact ⟨fun none_ => same.trans none_, fun h look => ⟨h.items, rfl, by rw [same, look, h.withItems_items]⟩⟩
  · exact .refl s

theorem endAwaiting_listsOnly (k : Nat) (o : ResultOutcome) (d : Nat) (c : ClosedOutcome) (cause also : Option Nat) :
    ListsOnly s (s.endAwaiting k o d c cause also) := by
  cases look : s.gate.transit.look k with
  | none => simp only [endAwaiting, look]; exact .refl s
  | some x =>
    rw [endAwaiting_of_look look]
    have freed : ListsOnly s (((s.freeTransit k).say (s.resultMsgs k x o d also)).say (s.closedMsgs k x c cause)) :=
      .of_look (fun _ => rfl)
    exact freed.trans (resolveItems_listsOnly _ _ _)

theorem withdrawWaiting_listsOnly (p : Transit → Bool) (r : WithdrawReason) : ListsOnly s (s.withdrawWaiting p r) :=
  .foldl (fun s k => s.endAwaiting_listsOnly k _ _ _ _ _) _ s

/-! ### Commands in flight -/

theorem mem_inFlight {s : State} (listed : Tbl.wf s.gate.transit) {a k : Nat} :
    k ∈ s.inFlight a ↔ ∃ x, s.gate.transit.look k = some x ∧ x.area = a ∧ x.state ≠ .awaiting := by
  rw [inFlight, mem_transitWhere listed]
  simp only [decide_eq_true_eq]

theorem inFlight_ext {s t : State} (hs : Tbl.wf s.gate.transit) (ht : Tbl.wf t.gate.transit) {a : Nat}
    (same : ∀ k x, x.state ≠ .awaiting → (t.gate.transit.look k = some x ↔ s.gate.transit.look k = some x)) :
    t.inFlight a = s.inFlight a := by
  have rising {u : State} (hu : Tbl.wf u.gate.transit) : (u.inFlight a).Pairwise (· < ·) :=
    List.pairwise_map.mpr (hu.filter _)
  refine (rising ht).eq_of_mem_iff (rising hs) (fun k => ?_)
  rw [mem_inFlight ht, mem_inFlight hs]
  exact exists_congr (fun x => ⟨fun ⟨look, here, flies⟩ => ⟨(same k x flies).mp look, here, flies⟩,
    fun ⟨look, here, flies⟩ => ⟨(same k x flies).mpr look, here, flies⟩⟩)

/-- R148: a withdrawal leaves the commands in flight. -/
theorem inFlight_withdrawWaiting (room : s.TransitRoom) (p : Transit → Bool) (r : WithdrawReason) (a : Nat) :
    (s.withdrawWaiting p r).inFlight a = s.inFlight a := by
  refine inFlight_ext room.1 ((s.withdrawWaiting_keeps p r).transit room).1 (fun k x flies => ?_)
  cases look : s.gate.transit.look k with
  | none =>
    have gone : (s.withdrawWaiting p r).gate.transit.look k = none := by
      rw [withdrawWaiting, look_foldl_ends (withdrawal_endsOne r), look]
      exact ite_self _
    rw [gone]
  | some y =>
    rw [lookTransit_withdrawWaiting room.1 p r look]
    split
    case isTrue ends =>
      refine ⟨fun h => by simp at h, fun h => ?_⟩
      cases h
      exact absurd ends.1 flies
    · rfl

/-! ### The transfer -/

theorem passed_says (a op st : Nat) (kind : TransferKind) (old : Option (Nat × Nat)) : Says s (s.passed a op st kind old) :=
  (((giveOwner_touches s a op st).says (by simp)).trans (coverScan_says _)).trans
    ((changeHolders_says _ a op).trans (concludeTransfer_says _ a op kind old))

/-- What may have been touched before an area passes. -/
def beforeTransfer : List Part := .countersG :: .transit :: .said .answer :: .said .result :: .said .countersign ::
  .said .forward :: .said .relay :: .said .beat :: .handover :: plantArrivalParts

variable {s}

/-- R32, R117, R118, R161: the area has passed, seen from before the steps that came first. -/
theorem transferred_of_passed {u t : State} {a op st : Nat} {kind : TransferKind} {old : Option (Nat × Nat)}
    (before : Touches beforeTransfer s u) (hand : ∀ b, b ≠ a → u.hand.look b = s.hand.look b)
    (listed : Tbl.wf s.overrides) (after : Touches (.said .answer :: endParts) (u.passed a op st kind old) t)
    (told : ∀ j n, (∀ b f l, n ≠ .flood b f l) → u.outTo j (.notice n) ∈ (u.passed a op st kind old).said →
      u.outTo j (.notice n) ∈ t.sent) : Transferred s t a op st := by
  have overrides : u.overrides = s.overrides := before .overrides (by decide)
  have scanned := u.giveOwner_scanned_touches a op st
  have register : (u.giveOwner a op st).coverScan.overrides = s.overrides := (scanned .overrides (by decide)).trans overrides
  have area (o : Override) : (u.giveOwner a op st).coverScan.overrideArea o = s.overrideArea o :=
    (scanned.overrideArea_eq (by decide) o).trans (before.overrideArea_eq (by decide) o)
  refine ⟨?_, ?_, fun b other => ?_, ?_, fun b other => ?_, fun n o look => ?_, fun n o j look here changes low high up => ?_⟩
  · rw [after.ownerOf_eq (by decide), ownerOf_passed, if_pos rfl]
  · rw [after.coverOf_eq (by decide), coverOf_passed]
  · rw [after.ownerOf_eq (by decide), ownerOf_passed, if_neg other, before.ownerOf_eq (by decide)]
  · rw [after.lookHand_eq (by decide), lookHand_passed, if_pos rfl]
  · rw [after.lookHand_eq (by decide), lookHand_passed, if_neg other, hand b other]
  · rw [(after .overrides (by decide) : _ = _), passed, (concludeTransfer_touches_holders _ a op kind old .overrides (by decide) : _ = _),
      look_changeHolders _ (by rw [register]; exact listed) a op (by rw [register]; exact look), area]
  · have up' : (u.giveOwner a op st).coverScan.isUp j = true := by
      rw [scanned.isUp_eq (by decide), before.isUp_eq (by decide)]
      exact up
    have notice := changeHolders_told (u.giveOwner a op st).coverScan (a := a) (op := op) (n := n) (o := o)
      (by rw [register]; exact look) ((area o).trans here) changes low high up'
    have said := concludeTransfer_says _ a op kind old _ notice
    rw [scanned.outTo_eq (by decide), scanned.badgeOf_eq (by decide), scanned.secondsLeft_eq (by decide)] at said
    have sent := told j _ (by exact nofun) said
    rwa [before.outTo_eq (by decide), before.badgeOf_eq (by decide), before.secondsLeft_eq (by decide)] at sent

/-- R161, R167: a party to the transfer is told. -/
theorem passed_told (s : State) {a op st o ost : Nat} (kind : TransferKind) {st' : Nat} (party : st' = ost ∨ st' = st)
    (present : s.link st' ≠ .absent) : s.outTo st' (.notice (.handoverDone a kind (s.badgeOf o) ost (s.badgeOf op) st)) ∈
      (s.passed a op st kind (some (o, ost))).said := by
  have scanned := s.giveOwner_scanned_touches a op st
  have told := concludeTransfer_told (s.giveOwner a op st).coverScan (o := o) (ost := ost) kind
    (by rw [(coverScan_touches _).ownerOf_eq (by decide), ownerOf_giveOwner, if_pos rfl]) party
    (by rw [scanned.link_eq (by decide)]; exact present)
  rwa [scanned.outTo_eq (by decide), scanned.badgeOf_eq (by decide), scanned.badgeOf_eq (by decide)] at told

theorem passed_told_unowned (s : State) {a op st : Nat} (kind : TransferKind) (present : s.link st ≠ .absent) :
    s.outTo st (.notice (.handoverDone a kind 0 0 (s.badgeOf op) st)) ∈ (s.passed a op st kind none).said := by
  have scanned := s.giveOwner_scanned_touches a op st
  have told := concludeTransfer_told_unowned (s.giveOwner a op st).coverScan kind
    (by rw [(coverScan_touches _).ownerOf_eq (by decide), ownerOf_giveOwner, if_pos rfl])
    (by rw [scanned.link_eq (by decide)]; exact present)
  rwa [scanned.outTo_eq (by decide), scanned.badgeOf_eq (by decide)] at told

end State
end Sys2Proof.Machine
end

section
/-! PROOFS. ACCEPT (R159, R161): the area passes at once, or its session waits for the commands in flight. -/

namespace Sys2Proof.Machine

namespace State

/-- What a transfer says leaves the unit at the end of its event. -/
theorem passed_sent (s : State) {a op st : Nat} {kind : TransferKind} {old : Option (Nat × Nat)} {j : Nat} {n : Notice}
    (other : ∀ b f l, n ≠ .flood b f l) (said : s.outTo j (.notice n) ∈ (s.passed a op st kind old).said) :
    s.outTo j (.notice n) ∈ (s.passed a op st kind old).finish.sent := by
  rw [← (s.passed_touches a op st kind old).outTo_eq (by decide)] at said ⊢
  exact mem_sent_finish _ said (withLoad_notice _ j other)

theorem mem_sent_finish_outTo {s t : State} {l : List Part} (h : Touches l s t) (hl : .stations ∉ l) {j : Nat} {n : Notice}
    (other : ∀ b f l, n ≠ .flood b f l) (said : s.outTo j (.notice n) ∈ t.said) : s.outTo j (.notice n) ∈ t.finish.sent := by
  rw [← h.outTo_eq hl] at said ⊢
  exact mem_sent_finish _ said (withLoad_notice _ j other)

/-! ### The outgoing operator's waiting commands -/

theorem withdrawForHandover_gate (s : State) (a out : Nat) : (s.withdrawForHandover a out).gate =
    (s.withdrawWaiting (fun t => decide (t.area = a ∧ t.origOp = out)) .handover).gate := rfl

theorem withdrawForHandover_hand (s : State) (a out : Nat) : (s.withdrawForHandover a out).hand =
    (s.withdrawWaiting (fun t => decide (t.area = a ∧ t.origOp = out)) .handover).hand := rfl

section
variable {s : State} (room : s.TransitRoom) (a out : Nat)

theorem withdrawForHandover_listsOnly (s : State) (a out : Nat) : ListsOnly s (s.withdrawForHandover a out) := fun b => by
  rw [withdrawForHandover_hand]
  exact s.withdrawWaiting_listsOnly _ _ b

include room

theorem withdrawForHandover_hand_ne {b : Nat} (other : b ≠ a) : (s.withdrawForHandover a out).hand.look b = s.hand.look b := by
  rw [withdrawForHandover_hand]
  exact s.lookHand_withdrawWaiting_ne room.1 (fun _ fits same => other (same.symm.trans (of_decide_eq_true fits).1)) _

theorem withdrawForHandover_inFlight (b : Nat) : (s.withdrawForHandover a out).inFlight b = s.inFlight b :=
  s.inFlight_withdrawWaiting room (fun t => decide (t.area = a ∧ t.origOp = out)) .handover b

theorem withdrawForHandover_transit {k : Nat} {y : Transit} (look : s.gate.transit.look k = some y) :
    (s.withdrawForHandover a out).gate.transit.look k =
      if y.state = .awaiting ∧ y.area = a ∧ y.origOp = out then none else some y := by
  rw [withdrawForHandover_gate, lookTransit_withdrawWaiting room.1 _ _ look]
  simp only [decide_eq_true_eq]

end

/-! ### ACCEPT -/

theorem unreviewed_eq_zero {x : Session} (seen : ∀ i ∈ x.items, i.resolved = true ∨ i.reviewed = true) : unreviewed x = 0 := by
  refine List.length_eq_zero_iff.mpr (List.filter_eq_nil_iff.mpr (fun i hi => ?_))
  rcases seen i hi with h | h <;> simp [h]

section
variable {s : State} {st area : Nat} {x : Session} (low : 1 ≤ area) (high : area ≤ 12) (logged : s.logonAt st = some x.inOp)
  (station : x.inStation = st) (offered : s.hand.look area = some (.offered x))
  (seen : ∀ i ∈ x.items, i.resolved = true ∨ i.reviewed = true)
include low high logged station offered seen

theorem takeAccept_of_fits : s.takeAccept st area 0 = s.acceptSession area x := by
  have formed : handoverFault? area 0 = none := handoverFault?_eq_none.mpr ⟨⟨low, high⟩, rfl⟩
  simp only [takeAccept, formed, logged, offered, station, unreviewed_eq_zero seen, ne_eq, not_true_eq_false, or_self, if_false]

/-- R159, R161: no command of the area is in flight. -/
theorem takeAccept_of_still (room : s.TransitRoom) (still : s.inFlight area = [])
    (granted : s.ownerConditions x.inOp area = some st) : s.takeAccept st area 0 =
      ((s.withdrawForHandover area x.outOp).passed area x.inOp st .handover (some (x.outOp, x.outStation)), ans .done) := by
  obtain ⟨l, -, look⟩ := (s.withdrawForHandover_listsOnly area x.outOp).offered offered
  have open_ : (s.withdrawForHandover area x.outOp).session? area = some { x with items := l } := by simp only [session?, look]
  have conditions : (s.withdrawForHandover area x.outOp).ownerConditions x.inOp area = some st := by
    rw [(s.withdrawForHandover_touches area x.outOp).ownerConditions_eq (by decide) (by decide) (by decide), granted]
  rw [takeAccept_of_fits low high logged station offered seen, acceptSession]
  simp only [withdrawForHandover_inFlight room, still, List.length_nil, if_true]
  rw [completeHandover_of_granted open_ conditions]

/-- R159: commands of the area are in flight. -/
theorem takeAccept_of_flying (room : s.TransitRoom) (flying : s.inFlight area ≠ []) : ∃ l, l.length = x.items.length ∧
    s.takeAccept st area 0 = ((s.withdrawForHandover area x.outOp).startQuiescing area (s.inFlight area).length
      { x with items := l }, ans .pending (s.inFlight area).length) := by
  obtain ⟨l, length, look⟩ := (s.withdrawForHandover_listsOnly area x.outOp).offered offered
  have open_ : (s.withdrawForHandover area x.outOp).session? area = some { x with items := l } := by simp only [session?, look]
  refine ⟨l, length, ?_⟩
  rw [takeAccept_of_fits low high logged station offered seen, acceptSession]
  simp only [withdrawForHandover_inFlight room, List.length_eq_zero_iff, flying, if_false, open_, Option.getD_some]

end

theorem transitRoom_of_withinCapacity {s : State} (room : s.WithinCapacity) : s.TransitRoom :=
  (withinCapacity_iff.mp room).2.2.2

theorem transitRoom_arrived {s : State} (room : s.WithinCapacity) (h : Hdr) : (arrived s h).TransitRoom := by
  have transit : (arrived s h).gate.transit = s.gate.transit := arrived_touches s h .transit (by decide)
  rw [TransitRoom, transit]
  exact transitRoom_of_withinCapacity room

theorem overridesListed_arrived {s : State} (room : s.WithinCapacity) (h : Hdr) : Tbl.wf (arrived s h).overrides := by
  have overrides : (arrived s h).overrides = s.overrides := arrived_touches s h .overrides (by decide)
  rw [overrides]
  exact room.overrideRoom.1

end State
end Sys2Proof.Machine

open Sys2Proof.Machine State in
/-- Settles O47: the waiting commands go first, and then the area passes or its session waits. -/
theorem acceptTransfersOrWaits : Obligations.AcceptTransfersOrWaits := by
  unfold Obligations.AcceptTransfersOrWaits
  constructor
  · intro s h area x taken low high logged station offered seen still granted room
    have touched := arrived_touches s h
    have space := transitRoom_arrived room h
    have listed := overridesListed_arrived room h
    have up := s.link_arrived h
    have done := takeAccept_of_still (s := arrived s h) low high ((touched.logonAt_eq (by decide) _).trans logged) station
      ((touched.lookHand_eq (by decide) _).trans offered) seen space ((touched.inFlight_eq (by decide) _).trans still)
      ((touched.ownerConditions_eq (by decide) (by decide) (by decide) _ _).trans granted)
    have transit (k : Nat) : (arrived s h).gate.transit.look k = s.gate.transit.look k := touched.lookTransit_eq (by decide) k
    generalize arriving : arrived s h = v at done touched up space listed transit
    have withdrawn := v.withdrawForHandover_touches area x.outOp
    have passing := (v.withdrawForHandover area x.outOp).passed_touches area x.inOp h.station .handover (some (x.outOp, x.outStation))
    obtain ⟨operation, answered, within⟩ := requestEvent_carriedOut (i := .accept h area 0)
      (f := fun s => s.takeAccept h.station area 0) (l' := endingParts ++ endParts ++ [.said .answer]) taken rfl arriving done rfl
      (.after passing (l := endingParts) (by decide) (withdrawn.mono (by decide))) (by decide) (by decide)
    have sent (j : Nat) (n : Notice) (other : ∀ b f l, n ≠ .flood b f l)
        (said : (v.withdrawForHandover area x.outOp).outTo j (.notice n) ∈ ((v.withdrawForHandover area x.outOp).passed area
          x.inOp h.station .handover (some (x.outOp, x.outStation))).said) :=
      mem_sent_answer (h := h) (a := ans .done) _ (passed_sent _ other said)
    refine ⟨_, operation, transferred_of_passed (withdrawn.mono (by decide))
      (fun b other => withdrawForHandover_hand_ne space _ _ other) listed (finish_answer_eq _ h _) sent,
      fun k y look => ?_, ?_, answered, within⟩
    · rw [(finish_answer_eq _ h _).lookTransit_eq (by decide), passing.lookTransit_eq (by decide)]
      exact withdrawForHandover_transit space area x.outOp ((transit k).trans look)
    · have told := passed_told (v.withdrawForHandover area x.outOp) (a := area) (op := x.inOp) (st := h.station) (o := x.outOp)
        (ost := x.outStation) .handover (.inr rfl) (by rw [withdrawn.link_eq (by decide), up]; decide)
      have told := sent _ _ (by exact nofun) told
      rwa [withdrawn.outTo_eq (by decide), withdrawn.badgeOf_eq (by decide), withdrawn.badgeOf_eq (by decide),
        touched.badgeOf_eq (by decide), touched.badgeOf_eq (by decide), touched.outTo_eq (by decide),
        show s.fresh.outTo h.station _ = s.outTo h.station _ from rfl, outTo_of_taken taken] at told
  · intro s h area x taken low high logged station offered seen flying room
    have touched := arrived_touches s h
    have space := transitRoom_arrived room h
    have up := s.link_arrived h
    have flight := touched.inFlight_eq (by decide) area
    obtain ⟨l, length, done⟩ := takeAccept_of_flying (s := arrived s h) low high ((touched.logonAt_eq (by decide) _).trans logged)
      station ((touched.lookHand_eq (by decide) _).trans offered) seen space (by rw [flight]; exact flying)
    rw [flight, show s.fresh.inFlight area = s.inFlight area from rfl] at done
    rw [show s.fresh.inFlight area = s.inFlight area from rfl] at flight
    generalize arriving : arrived s h = v at done touched up space flight
    have withdrawn := v.withdrawForHandover_touches area x.outOp
    have waiting := (v.withdrawForHandover area x.outOp).startQuiescing_touches area (s.inFlight area).length { x with items := l }
    obtain ⟨operation, answered, within⟩ := requestEvent_carriedOut (i := .accept h area 0)
      (f := fun s => s.takeAccept h.station area 0) (l' := [.transit, .handover, .said .result, .said .answer] ++ endParts) taken
      rfl arriving done rfl (.after (l := waitingParts) waiting (by decide) (withdrawn.mono (by decide))) (by decide) (by decide)
    have ended := finish_answer_eq ((v.withdrawForHandover area x.outOp).startQuiescing area (s.inFlight area).length
      { x with items := l }) h (ans .pending (s.inFlight area).length)
    have told (j : Nat) (party : j = x.outStation ∨ j = x.inStation) (present : v.link j ≠ .absent) :
        s.outTo j (.notice (.handoverQuiescing area .handover (s.inFlight area).length)) ∈
          (((v.withdrawForHandover area x.outOp).startQuiescing area (s.inFlight area).length
            { x with items := l }).finish.answer h (ans .pending (s.inFlight area).length)).sent := by
      have present : (v.withdrawForHandover area x.outOp).link j ≠ .absent := by rwa [withdrawn.link_eq (by decide)]
      have said : (v.withdrawForHandover area x.outOp).outTo j
          (.notice (.handoverQuiescing area .handover (s.inFlight area).length)) ∈
            ((v.withdrawForHandover area x.outOp).startQuiescing area (s.inFlight area).length { x with items := l }).said := by
        refine (said_sayAfter _ _).mpr (.inr ?_)
        rcases party with rfl | rfl
        · exact mem_toBoth_left _ present _ _
        · exact mem_toBoth_right _ present _ _
      have sent := mem_sent_finish_outTo waiting (by decide) (by exact nofun) said
      rw [withdrawn.outTo_eq (by decide), touched.outTo_eq (by decide)] at sent
      exact mem_sent_answer _ sent
    refine ⟨_, { x with items := l, lapse := none }, operation, ?_, rfl, rfl, rfl, rfl, rfl, length, ?_, ?_, told _ (.inl rfl), answered, within⟩
    · rw [ended.lookHand_eq (by decide)]
      exact Sys2Proof.Tbl.look_put_self _ _ _
    · rw [ended.inFlight_eq (by decide), waiting.inFlight_eq (by decide), withdrawForHandover_inFlight space, flight]
    · have incoming := told h.station (.inr station.symm) (by rw [up]; decide)
      rwa [outTo_of_taken taken] at incoming
end

section
/-! PROOFS. TAKEOVER (R166, R167): the session closes, the owner's waiting commands go, and the area passes or waits. -/

namespace Sys2Proof.Machine

namespace State

/-! ### What goes first -/

/-- R163, R166: without the session and the owner's waiting commands. -/
def vacated (s : State) (a owner : Nat) : State :=
  (s.closeSession a .takeover).withdrawWaiting (fun t => decide (t.area = a ∧ t.origOp = owner)) .takeover

theorem takeFromOwner_eq (s : State) (a op st owner ost : Nat) : s.takeFromOwner a op st owner ost =
    if ((s.vacated a owner).inFlight a).length = 0 then ((s.vacated a owner).completeTakeover a op, ans .done)
    else ((s.vacated a owner).startTakingOver a op st ost ((s.vacated a owner).inFlight a).length,
      ans .pending ((s.vacated a owner).inFlight a).length) := rfl

theorem vacated_touches (s : State) (a owner : Nat) : Touches ([.recs, .attnStacks] ++ waitingParts) s (s.vacated a owner) :=
  .after (withdrawWaiting_touches _ _ _) (by decide) ((s.closeSession_touches a _).mono (by decide))

section
variable {s : State} (room : s.TransitRoom) (a owner : Nat)

theorem transitRoom_closeSession (r : CloseReason) : s.TransitRoom → (s.closeSession a r).TransitRoom :=
  (s.closeSession_keeps a r).transit

include room

theorem vacated_inFlight (b : Nat) : (s.vacated a owner).inFlight b = s.inFlight b := by
  rw [vacated, inFlight_withdrawWaiting _ (transitRoom_closeSession a _ room), (s.closeSession_touches a _).inFlight_eq (by decide)]

theorem vacated_hand_ne {b : Nat} (other : b ≠ a) : (s.vacated a owner).hand.look b = s.hand.look b := by
  rw [vacated, lookHand_withdrawWaiting_ne _ (transitRoom_closeSession a _ room).1
    (fun _ fits same => other (same.symm.trans (of_decide_eq_true fits).1)), lookHand_closeSession, if_neg (fun x => other x.1)]

theorem vacated_transit {k : Nat} {y : Transit} (look : s.gate.transit.look k = some y) : (s.vacated a owner).gate.transit.look k =
    if y.state = .awaiting ∧ y.area = a ∧ y.origOp = owner then none else some y := by
  rw [vacated, lookTransit_withdrawWaiting (transitRoom_closeSession a _ room).1 _ _
    (by rw [(s.closeSession_touches a _).lookTransit_eq (by decide)]; exact look)]
  simp only [decide_eq_true_eq]

/-- R148: the originating station of a command that is withdrawn is told. -/
theorem vacated_result {k : Nat} {y : Transit} (look : s.gate.transit.look k = some y) (waits : y.state = .awaiting)
    (here : y.area = a) (mine : y.origOp = owner) (present : s.link y.origStation ≠ .absent) :
    s.outTo y.origStation (s.resultOf k y .withdrawn WithdrawReason.takeover.number) ∈ (s.vacated a owner).said := by
  have closed := s.closeSession_touches a .takeover
  have told := withdrawWaiting_told (s := s.closeSession a .takeover) (transitRoom_closeSession a _ room).1
    (p := fun t => decide (t.area = a ∧ t.origOp = owner)) (r := .takeover)
    ((closed.lookTransit_eq (by decide) k).trans look) waits (decide_eq_true ⟨here, mine⟩)
    (by rw [closed.link_eq (by decide)]; exact present)
  rwa [closed.outTo_eq (by decide), Touches.resultOf_eq closed (by decide)] at told

omit room in
/-- R163: both stations of the session that closes are told. -/
theorem vacated_closed {x : Session} (open_ : s.session? a = some x) {st : Nat} (party : st = x.outStation ∨ st = x.inStation)
    (present : s.link st ≠ .absent) : s.outTo st (.notice (.handoverClosed a .takeover)) ∈ (s.vacated a owner).said :=
  withdrawWaiting_says _ _ _ _ (s.closeSession_told open_ _ party present)

end

/-! ### TAKEOVER -/

section
variable {s : State} {st area op : Nat} (low : 1 ≤ area) (high : area ≤ 12) (logged : s.logonAt st = some op)
  (supervisor : s.isSupervisorStation st = true) (permitted : s.permits st area = true) (level : 1 ≤ s.levelOf op area)
include low high logged supervisor permitted level

theorem takeTakeover_of_fits : s.takeTakeover st area 0 = s.takeoverBy area op st := by
  have formed : handoverFault? area 0 = none := handoverFault?_eq_none.mpr ⟨⟨low, high⟩, rfl⟩
  have able : ¬ s.levelOf op area < 1 := by omega
  simp only [takeTakeover, formed, logged, supervisor, permitted, able, Bool.not_true, Bool.false_eq_true, if_false]

variable (free : ∀ x, s.hand.look area ≠ some (.takingOver x))
include free

theorem takeTakeover_of_unowned (unowned : s.ownerOf area = none) (granted : s.ownerConditions op area = some st) :
    s.takeTakeover st area 0 = (s.passed area op st .takeover none, ans .done) := by
  rw [takeTakeover_of_fits low high logged supervisor permitted level, takeoverBy, completeTakeover_of_granted granted, unowned]
  cases look : s.hand.look area with
  | none => rfl
  | some y =>
    cases y with
    | takingOver x => exact absurd look (free x)
    | offered x => rfl
    | quiescing x => rfl

variable {owner ost : Nat} (owned : s.ownerOf area = some (owner, ost)) (other : owner ≠ op) (room : s.TransitRoom)
include owned other

theorem takeTakeover_of_owned : s.takeTakeover st area 0 = s.takeFromOwner area op st owner ost := by
  rw [takeTakeover_of_fits low high logged supervisor permitted level, takeoverBy, owned]
  cases look : s.hand.look area with
  | none => exact if_neg other
  | some y =>
    cases y with
    | takingOver x => exact absurd look (free x)
    | offered x => exact if_neg other
    | quiescing x => exact if_neg other

include room

/-- R166: no command of the area is in flight. -/
theorem takeTakeover_of_still (still : s.inFlight area = []) (granted : s.ownerConditions op area = some st) :
    s.takeTakeover st area 0 = ((s.vacated area owner).passed area op st .takeover (some (owner, ost)), ans .done) := by
  have touched := s.vacated_touches area owner
  have conditions := (touched.ownerConditions_eq (by decide) (by decide) (by decide) op area).trans granted
  have same := (touched.ownerOf_eq (by decide) area).trans owned
  have flight := (vacated_inFlight room area owner area).trans still
  rw [takeTakeover_of_owned low high logged supervisor permitted level free owned other, takeFromOwner_eq,
    if_pos (List.length_eq_zero_iff.mpr flight), completeTakeover_of_granted conditions, same]

/-- R166: commands of the area are in flight. -/
theorem takeTakeover_of_flying (flying : s.inFlight area ≠ []) : s.takeTakeover st area 0 =
    ((s.vacated area owner).startTakingOver area op st ost (s.inFlight area).length, ans .pending (s.inFlight area).length) := by
  have flight := vacated_inFlight room area owner area
  rw [takeTakeover_of_owned low high logged supervisor permitted level free owned other, takeFromOwner_eq, flight,
    if_neg (fun none_ => flying (List.length_eq_zero_iff.mp none_))]

end

/-! ### What the owner's loss leaves -/

/-- R148, R163: the owner's waiting commands in the area are withdrawn, and the session of an owned area is closed. -/
def Vacated (s v : State) (area : Nat) (t : State) : Prop :=
  (∀ k y, s.gate.transit.look k = some y →
    (y.state = .awaiting ∧ y.area = area ∧ (s.ownerOf area).map Prod.fst = some y.origOp → t.gate.transit.look k = none ∧
      (v.link y.origStation ≠ .absent → s.outTo y.origStation
        (.result k y.tag y.action .withdrawn WithdrawReason.takeover.number s.time.mill) ∈ t.sent)) ∧
    (¬ (y.state = .awaiting ∧ y.area = area ∧ (s.ownerOf area).map Prod.fst = some y.origOp) →
      t.gate.transit.look k = some y)) ∧
  ∀ x, (s.ownerOf area).isSome = true → s.session? area = some x →
    ∀ st, st = x.outStation ∨ st = x.inStation → v.link st ≠ .absent →
      s.outTo st (.notice (.handoverClosed area .takeover)) ∈ t.sent

theorem vacated_of_unowned {s v t : State} {area : Nat} (unowned : s.ownerOf area = none)
    (transit : ∀ k, t.gate.transit.look k = s.gate.transit.look k) : Vacated s v area t := by
  refine ⟨fun k y look => ⟨fun waits => ?_, fun _ => (transit k).trans look⟩, fun x owned => ?_⟩
  · simp [unowned] at waits
  · simp [unowned] at owned

/-- What the steps after it leave of the owner's loss. -/
theorem vacated_of_touches {s v w t : State} {area owner ost : Nat} {l : List Part} (before : Touches arrivalParts s.fresh v)
    (room : v.TransitRoom) (owned : s.ownerOf area = some (owner, ost)) (after : Touches l (v.vacated area owner) w)
    (hl : .transit ∉ l) (goes : Says (v.vacated area owner) w) (transit : ∀ k, t.gate.transit.look k = w.gate.transit.look k)
    (sent : ∀ o ∈ w.finish.sent, o ∈ t.sent) : Vacated s v area t := by
  have look' (k : Nat) : v.gate.transit.look k = s.gate.transit.look k := before.lookTransit_eq (by decide) k
  have address (j : Nat) (m : ConsoleMsg) : v.outTo j m = s.outTo j m := before.outTo_eq (by decide) j m
  refine ⟨fun k y look => ⟨fun ⟨waits, here, mine⟩ => ?_, fun stays => ?_⟩, fun x _ open_ st party present => ?_⟩
  · have mine : y.origOp = owner := by
      rw [owned] at mine
      exact (Option.some.inj mine).symm
    refine ⟨?_, fun present => sent _ ?_⟩
    · rw [transit, after.lookTransit_eq hl, vacated_transit room area owner ((look' k).trans look), if_pos ⟨waits, here, mine⟩]
    · have told := goes _ (vacated_result room area owner ((look' k).trans look) waits here mine present)
      rw [address, Touches.resultOf_eq before (by decide)] at told
      exact mem_sent_finish _ told rfl
  · rw [transit, after.lookTransit_eq hl, vacated_transit room area owner ((look' k).trans look), if_neg]
    rintro ⟨waits, here, mine⟩
    exact stays ⟨waits, here, by rw [owned, mine]; rfl⟩
  · have told := goes _ (vacated_closed area owner ((session?_of_lookHand (before.lookHand_eq (by decide) area)).trans open_)
      party present)
    rw [address] at told
    exact sent _ (mem_sent_finish _ told rfl)

end State
end Sys2Proof.Machine

open Sys2Proof.Machine State in
/-- Settles O49: an area without owner passes; an owned one is vacated first, and then passes or waits. -/
theorem takeoverTakesArea : Obligations.TakeoverTakesArea := by
  unfold Obligations.TakeoverTakesArea
  intro s h area op taken low high logged place supervisor permitted level notMine free room
  have touched := arrived_touches s h
  have space := transitRoom_arrived room h
  have listed := overridesListed_arrived room h
  have up := s.link_arrived h
  have granted : s.ownerConditions op area = some h.station := ownerConditions_eq_some.mpr ⟨place, permitted, level⟩
  have logged' : (arrived s h).logonAt h.station = some op := (touched.logonAt_eq (by decide) _).trans logged
  have supervisor' : (arrived s h).isSupervisorStation h.station = true :=
    (touched.isSupervisorStation_eq (by decide) _).trans supervisor
  have permitted' : (arrived s h).permits h.station area = true := (touched.permits_eq (by decide) _ _).trans permitted
  have level' : 1 ≤ (arrived s h).levelOf op area := by rw [touched.levelOf_eq (by decide)]; exact level
  have free' : ∀ x, (arrived s h).hand.look area ≠ some (.takingOver x) := fun x => by
    rw [touched.lookHand_eq (by decide)]
    exact free x
  have granted' : (arrived s h).ownerConditions op area = some h.station :=
    (touched.ownerConditions_eq (by decide) (by decide) (by decide) _ _).trans granted
  have owner' (a : Nat) : (arrived s h).ownerOf a = s.ownerOf a := touched.ownerOf_eq (by decide) a
  have flight (a : Nat) : (arrived s h).inFlight a = s.inFlight a := touched.inFlight_eq (by decide) a
  generalize arriving : arrived s h = v at *
  refine ⟨fun ready => ?_, fun o ost owned flying => ?_⟩
  · rcases Option.eq_none_or_eq_some (s.ownerOf area) with owned | ⟨⟨o, ost⟩, owned⟩
    · have done := takeTakeover_of_unowned low high logged' supervisor' permitted' level' free' ((owner' area).trans owned) granted'
      have passing := v.passed_touches area op h.station .takeover none
      obtain ⟨operation, answered, within⟩ := requestEvent_carriedOut (i := .takeover h area 0)
        (f := fun s => s.takeTakeover h.station area 0) (l' := endingParts ++ endParts ++ [.said .answer]) taken rfl arriving
        done rfl passing (by decide) (by decide)
      have told := passed_told_unowned v (a := area) (op := op) .takeover (st := h.station) (by rw [up]; decide)
      refine ⟨_, operation, transferred_of_passed ((Touches.refl [] v).mono (List.nil_subset _)) (fun _ _ => rfl) listed
        (finish_answer_eq _ h _) (fun j n other said => mem_sent_answer _ (passed_sent _ other said)),
        vacated_of_unowned (v := v) owned (fun k => ?_), fun _ => ?_, fun o ost some_ => by simp [owned] at some_, answered, within⟩
      · rw [(finish_answer_eq _ h _).lookTransit_eq (by decide), passing.lookTransit_eq (by decide)]
        exact touched.lookTransit_eq (by decide) k
      · have sent := passed_sent v (by exact nofun) told
        rw [touched.outTo_eq (by decide), touched.badgeOf_eq (by decide),
          show s.fresh.outTo h.station _ = s.outTo h.station _ from rfl, outTo_of_taken taken] at sent
        exact mem_sent_answer _ sent
    · have still : s.inFlight area = [] := ready.resolve_left (by simp [owned])
      have other : o ≠ op := fun same => notMine (by rw [owned, same]; rfl)
      have done := takeTakeover_of_still low high logged' supervisor' permitted' level' free' ((owner' area).trans owned) other
        space ((flight area).trans still) granted'
      have vacating := v.vacated_touches area o
      have passing := (v.vacated area o).passed_touches area op h.station .takeover (some (o, ost))
      obtain ⟨operation, answered, within⟩ := requestEvent_carriedOut (i := .takeover h area 0)
        (f := fun s => s.takeTakeover h.station area 0) (l' := endingParts ++ endParts ++ [.said .answer]) taken rfl arriving
        done rfl (.after passing (l := endingParts) (by decide) (vacating.mono (by decide))) (by decide) (by decide)
      refine ⟨_, operation, transferred_of_passed (vacating.mono (by decide)) (fun b other => vacated_hand_ne space _ _ other)
        listed (finish_answer_eq _ h _) (fun j n other said => mem_sent_answer _ (passed_sent _ other said)),
        vacated_of_touches touched space owned passing (by decide) (passed_says _ _ _ _ _ _)
          (fun k => (finish_answer_eq _ h _).lookTransit_eq (by decide) k) (fun _ sent => mem_sent_answer _ sent),
        fun none_ => by simp [owned] at none_, fun o' ost' same j party present => ?_, answered, within⟩
      cases owned.symm.trans same
      have told := passed_told (v.vacated area o) (a := area) (op := op) (o := o) .takeover party
        (by rw [vacating.link_eq (by decide)]; exact present)
      have sent := passed_sent _ (by exact nofun) told
      rw [vacating.outTo_eq (by decide), vacating.badgeOf_eq (by decide), vacating.badgeOf_eq (by decide),
        touched.outTo_eq (by decide), touched.badgeOf_eq (by decide), touched.badgeOf_eq (by decide)] at sent
      exact mem_sent_answer _ sent
  · have other : o ≠ op := fun same => notMine (by rw [owned, same]; rfl)
    have done := takeTakeover_of_flying low high logged' supervisor' permitted' level' free' ((owner' area).trans owned) other
      space (by rw [flight]; exact flying)
    rw [flight] at done
    have vacating := v.vacated_touches area o
    have waiting := (v.vacated area o).startTakingOver_touches area op h.station ost (s.inFlight area).length
    obtain ⟨operation, answered, within⟩ := requestEvent_carriedOut (i := .takeover h area 0)
      (f := fun s => s.takeTakeover h.station area 0) (l' := [.transit, .handover, .said .result, .said .answer] ++ endParts) taken
      rfl arriving done rfl (.after (l := [.recs, .attnStacks] ++ waitingParts) waiting (by decide) vacating) (by decide) (by decide)
    have ended := finish_answer_eq ((v.vacated area o).startTakingOver area op h.station ost (s.inFlight area).length) h
      (ans .pending (s.inFlight area).length)
    have now : (v.vacated area o).now = s.now := (vacating.now_eq (by decide)).trans (touched.now_eq (by decide))
    have mill : (v.vacated area o).time.mill = s.time.mill := (vacating.mill_eq (by decide)).trans (touched.mill_eq (by decide))
    refine ⟨_, operation, ?_, fun b away => ?_, ?_, vacated_of_touches touched space owned waiting (by decide)
      (fun _ said => (said_sayAfter _ _).mpr (.inl said)) (fun k => ended.lookTransit_eq (by decide) k)
      (fun _ sent => mem_sent_answer _ sent), fun j party present => ?_, answered, within⟩
    · rw [ended.lookHand_eq (by decide), ← now, ← mill]
      exact Sys2Proof.Tbl.look_put_self _ _ _
    · rw [ended.lookHand_eq (by decide)]
      refine (Sys2Proof.Tbl.look_put_ne _ _ away).trans ?_
      rw [vacated_hand_ne space _ _ away]
      exact touched.lookHand_eq (by decide) b
    · rw [ended.inFlight_eq (by decide), waiting.inFlight_eq (by decide), vacated_inFlight space, flight]
    · have present : (v.vacated area o).link j ≠ .absent := by rwa [vacating.link_eq (by decide)]
      have said : (v.vacated area o).outTo j (.notice (.handoverQuiescing area .takeover (s.inFlight area).length)) ∈
          ((v.vacated area o).startTakingOver area op h.station ost (s.inFlight area).length).said := by
        refine (said_sayAfter _ _).mpr (.inr ?_)
        rcases party with rfl | rfl
        · exact mem_toBoth_left _ present _ _
        · exact mem_toBoth_right _ present _ _
      have sent := mem_sent_finish_outTo waiting (by decide) (by exact nofun) said
      rw [vacating.outTo_eq (by decide), touched.outTo_eq (by decide)] at sent
      exact mem_sent_answer _ sent
end

section
/-! PROOFS. Commands in flight end (R130, R131, R134, R135), and the last one of its area completes the transfer that waits
(R160, R161, R167). -/

namespace Sys2Proof.Machine

namespace State

/-! ### Before the area's wait is looked at -/

/-- The command is freed, told and resolved in the area's session (R134 steps 1 and 2). -/
def landed (s : State) (k : Nat) (x : Transit) (o : ResultOutcome) (d : Nat) : State :=
  ((s.freeTransit k).say (s.resultMsgs k x o d none)).resolveItems x.area (namesCommand k x.tag)

section
variable {s : State} {k : Nat} {x : Transit} (o : ResultOutcome) (d : Nat)

theorem endFlight_of_landed (look : s.gate.transit.look k = some x) :
    s.endFlight k o d = (s.landed k x o d).quiesced x.area := endFlight_of_look look o d

theorem landed_touches (s : State) (k : Nat) (x : Transit) :
    Touches [.transit, .handover, .said .result] s (s.landed k x o d) :=
  .after (resolveItems_touches _ _ _) (by decide) (.after (say_results _ _ (kind_resultMsgs s)) (by decide)
    ((s.freeTransit_touches k).mono (by decide)))

theorem landed_listsOnly (s : State) (k : Nat) (x : Transit) : ListsOnly s (s.landed k x o d) := by
  have freed : ListsOnly s ((s.freeTransit k).say (s.resultMsgs k x o d none)) := .of_look (fun _ => rfl)
  exact freed.trans (resolveItems_listsOnly _ _ _)

theorem lookHand_resolveItems_ne (s : State) {a b : Nat} (other : b ≠ a) (p : ItemRef → Bool) :
    (s.resolveItems a p).hand.look b = s.hand.look b := by
  unfold resolveItems
  split
  · rfl
  · split
    · rw [(noteItems_touches _ _).lookHand_eq (by decide), lookHand_updSession_ne _ other]
    · rfl

theorem landed_hand_ne (s : State) (k : Nat) {b : Nat} (other : b ≠ x.area) :
    (s.landed k x o d).hand.look b = s.hand.look b := lookHand_resolveItems_ne _ other _

theorem lookTransit_landed (s : State) (k : Nat) (x : Transit) (j : Nat) :
    (s.landed k x o d).gate.transit.look j = if j = k then none else s.gate.transit.look j := by
  rw [landed, (resolveItems_touches _ _ _).lookTransit_eq (by decide)]
  exact s.transit_freeTransit k j

theorem landed_room (room : s.TransitRoom) : Tbl.wf (s.landed k x o d).gate.transit := by
  have freed := ((s.freeTransit_keeps k).transit room).1
  have same : (s.landed k x o d).gate.transit = (s.freeTransit k).gate.transit :=
    resolveItems_touches ((s.freeTransit k).say (s.resultMsgs k x o d none)) x.area (namesCommand k x.tag) .transit (by decide)
  rwa [same]

theorem mem_inFlight_landed (room : s.TransitRoom) {a j : Nat} :
    j ∈ (s.landed k x o d).inFlight a ↔ j ≠ k ∧ j ∈ s.inFlight a := by
  rw [mem_inFlight (landed_room o d room), mem_inFlight room.1, lookTransit_landed]
  by_cases here : j = k
  · simp [here]
  · simp [here]

/-- R134 step 3: whether the command was the last one in flight of its area. -/
theorem inFlight_landed_eq_nil (room : s.TransitRoom) (look : s.gate.transit.look k = some x) (flying : x.state ≠ .awaiting) :
    (s.landed k x o d).inFlight x.area = [] ↔ s.inFlight x.area = [k] := by
  have mine : k ∈ s.inFlight x.area := (mem_inFlight room.1).mpr ⟨x, look, rfl, flying⟩
  have once : (s.inFlight x.area).Nodup :=
    (List.pairwise_map.mpr (room.1.filter _) : ((s.inFlight x.area).Pairwise (· < ·))).imp Nat.ne_of_lt
  rw [List.eq_nil_iff_forall_not_mem]
  constructor
  · intro last
    refine List.perm_singleton.mp ((List.perm_ext_iff_of_nodup once (List.nodup_singleton k)).mpr (fun j => ?_))
    rw [List.mem_singleton]
    refine ⟨fun listed => ?_, fun same => same ▸ mine⟩
    by_contra other
    exact last j ((mem_inFlight_landed o d room).mpr ⟨other, listed⟩)
  · intro only j listed
    obtain ⟨other, still⟩ := (mem_inFlight_landed o d room).mp listed
    rw [only, List.mem_singleton] at still
    exact other still

end

/-! ### The area's wait -/

section
variable {s : State} {a : Nat}

theorem quiesced_of_flying (flying : s.inFlight a ≠ []) : s.quiesced a = s := if_pos flying

theorem quiesced_of_idle (idle : s.isQuiescing a = false) : s.quiesced a = s := by
  unfold isQuiescing at idle
  unfold quiesced
  split
  · rfl
  · split
    case h_1 look => simp [look] at idle
    case h_2 look => simp [look] at idle
    · rfl

theorem quiesced_of_quiescing (still : s.inFlight a = []) {x : Session} (look : s.hand.look a = some (.quiescing x)) :
    s.quiesced a = s.completeHandover a := by
  simp only [quiesced, still, look, ne_eq, not_true_eq_false, if_false]

theorem quiesced_of_takingOver (still : s.inFlight a = []) {x : Takeover} (look : s.hand.look a = some (.takingOver x)) :
    s.quiesced a = s.completeTakeover a x.op := by
  simp only [quiesced, still, look, ne_eq, not_true_eq_false, if_false]

/-- R163, R167: both parties to a takeover that is cancelled are told. -/
theorem cancelTakeover_told {x : Takeover} {out ost : Nat} (look : s.hand.look a = some (.takingOver x))
    (owned : s.ownerOf a = some (out, ost)) (r : CloseReason) {st : Nat} (party : st = ost ∨ st = x.station)
    (present : s.link st ≠ .absent) : s.outTo st (.notice (.handoverClosed a r)) ∈ (s.cancelTakeover a r).said := by
  simp only [cancelTakeover, look, owned]
  refine mem_said_sayClosed _ r ?_
  rcases party with rfl | rfl
  · exact s.mem_toBoth_left present _ _
  · exact s.mem_toBoth_right present _ _

end

/-! ### What the end of a command in flight leaves -/

/-- R134, R137: the entry is freed, and its stations are sent RESULT. -/
def FlightEnded (s : State) (k : Nat) (x : Transit) (t : State) (outcome : ResultOutcome) (detail : Nat) : Prop :=
  t.gate.transit.look k = none ∧ (∀ j, j ≠ k → t.gate.transit.look j = s.gate.transit.look j) ∧
    ∀ st, st = x.origStation ∨ (∃ op, x.signer = some (op, st)) → s.link st ≠ .absent →
      s.outTo st (.result k x.tag x.action outcome detail s.time.mill) ∈ t.sent

/-- R161, R167: the area passes to the operator, or the Authority Unit declines. -/
def PassedTo (s t : State) (a : Nat) (kind : TransferKind) (op out outSt inSt : Nat) : Prop :=
  (∀ st, s.ownerConditions op a = some st → Transferred s t a op st ∧
    ∀ st', st' = outSt ∨ st' = st → s.link st' ≠ .absent →
      s.outTo st' (.notice (.handoverDone a kind (s.badgeOf out) outSt (s.badgeOf op) st)) ∈ t.sent) ∧
  (s.ownerConditions op a = none → (∀ a, t.ownerOf a = s.ownerOf a) ∧ t.hand.look a = none ∧
    (∀ b, b ≠ a → t.hand.look b = s.hand.look b) ∧
    ∀ st', st' = outSt ∨ st' = inSt → s.link st' ≠ .absent →
      s.outTo st' (.notice (.handoverClosed a .transferRefused)) ∈ t.sent)

/-- R134 step 3, R160, R167: what the area's wait comes to. -/
def FlightSettled (s : State) (k : Nat) (x : Transit) (t : State) : Prop :=
  s.WithinCapacity →
    (∀ y, s.hand.look x.area = some (.quiescing y) → s.inFlight x.area = [k] →
      PassedTo s t x.area .handover y.inOp y.outOp y.outStation y.inStation) ∧
    (∀ y out outSt, s.hand.look x.area = some (.takingOver y) → s.ownerOf x.area = some (out, outSt) →
      s.inFlight x.area = [k] → PassedTo s t x.area .takeover y.op out outSt y.station) ∧
    (s.isQuiescing x.area = false ∨ s.inFlight x.area ≠ [k] →
      (∀ a, t.ownerOf a = s.ownerOf a) ∧ t.isQuiescing x.area = s.isQuiescing x.area)

/-- What a frame or a timer may have touched before a command ends. -/
def beforeFlight : List Part := .countersG :: .said .answer :: .said .result :: .said .countersign :: .said .forward ::
  .said .relay :: .said .beat :: plantArrivalParts

theorem fresh_touches (s : State) : Touches beforeFlight s s.fresh := by
  intro p hp
  cases p with
  | said k => cases k <;> exact absurd (by decide) hp
  | keyLine => exact ⟨rfl, rfl⟩
  | _ => rfl

section
variable {s w t : State} {a : Nat} (before : Touches beforeTransfer s w) (hand : ∀ b, b ≠ a → w.hand.look b = s.hand.look b)
include before hand

/-- The area passes, or the transfer is declined and both parties are told. -/
theorem passedTo_of_completed {kind : TransferKind} {op out outSt inSt : Nat} {v : State} (listed : Tbl.wf s.overrides)
    (granted : ∀ st, w.ownerConditions op a = some st → v = w.passed a op st kind (some (out, outSt)))
    (declined : w.ownerConditions op a = none → Touches [.handover, .recs, .attnStacks, .said .notice] w v ∧
      (∀ b, v.hand.look b = if b = a then none else w.hand.look b) ∧
      ∀ st', st' = outSt ∨ st' = inSt → w.link st' ≠ .absent → w.outTo st' (.notice (.handoverClosed a .transferRefused)) ∈ v.said) :
    PassedTo s v.finish a kind op out outSt inSt := by
  have conditions := before.ownerConditions_eq (by decide) (by decide) (by decide) op a
  refine ⟨fun st given => ?_, fun none_ => ?_⟩
  · rw [granted st (conditions.trans given)]
    have sent (j : Nat) (n : Notice) (other : ∀ b f l, n ≠ .flood b f l)
        (said : w.outTo j (.notice n) ∈ (w.passed a op st kind (some (out, outSt))).said) := passed_sent _ other said
    refine ⟨transferred_of_passed before hand listed ((finish_touches _).mono (by decide)) sent, fun st' party present => ?_⟩
    have told := passed_told w (a := a) (op := op) (st := st) (o := out) (ost := outSt) kind party
      (by rw [before.link_eq (by decide)]; exact present)
    have told := sent _ _ (by exact nofun) told
    rwa [before.outTo_eq (by decide), before.badgeOf_eq (by decide), before.badgeOf_eq (by decide)] at told
  · obtain ⟨touched, gone, told⟩ := declined (conditions.trans none_)
    refine ⟨fun b => ?_, ?_, fun b other => ?_, fun st' party present => ?_⟩
    · rw [(finish_touches _).ownerOf_eq (by decide), touched.ownerOf_eq (by decide), before.ownerOf_eq (by decide)]
    · rw [(finish_touches _).lookHand_eq (by decide), gone, if_pos rfl]
    · rw [(finish_touches _).lookHand_eq (by decide), gone, if_neg other, hand b other]
    · have said := told st' party (by rw [before.link_eq (by decide)]; exact present)
      rw [before.outTo_eq (by decide)] at said
      exact mem_sent_finish _ said rfl

/-- R160, R161: the handover that waits. -/
theorem passedTo_of_quiescing (listed : Tbl.wf s.overrides) (still : w.inFlight a = []) {y : Session}
    (look : w.hand.look a = some (.quiescing y)) :
    PassedTo s (w.quiesced a).finish a .handover y.inOp y.outOp y.outStation y.inStation := by
  have open_ : w.session? a = some y := quiescing_session look
  rw [quiesced_of_quiescing still look]
  refine passedTo_of_completed before hand listed (fun st given => completeHandover_of_granted open_ given) (fun none_ => ?_)
  rw [completeHandover_of_declined open_ none_]
  refine ⟨w.closeSession_touches a _, fun b => ?_, fun st' party present => w.closeSession_told open_ _ party present⟩
  rw [lookHand_closeSession, open_]
  simp only [Option.isSome_some, and_true]

/-- R167: the takeover that waits. -/
theorem passedTo_of_takingOver (listed : Tbl.wf s.overrides) (still : w.inFlight a = []) {y : Takeover}
    (look : w.hand.look a = some (.takingOver y)) {out ost : Nat} (owned : w.ownerOf a = some (out, ost)) :
    PassedTo s (w.quiesced a).finish a .takeover y.op out ost y.station := by
  rw [quiesced_of_takingOver still look]
  refine passedTo_of_completed before hand listed (fun st given => ?_) (fun none_ => ?_)
  · rw [completeTakeover_of_granted given, owned]
  rw [completeTakeover_of_declined none_]
  refine ⟨(w.cancelTakeover_touches a _).mono (by decide), fun b => ?_,
    fun st' party present => cancelTakeover_told look owned _ party present⟩
  rw [lookHand_cancelTakeover, takingOver?_eq_some.mpr look]
  simp only [Option.isSome_some, and_true]

end

section
variable {s u : State} {k : Nat} {x : Transit} (before : Touches beforeFlight s u) (look : s.gate.transit.look k = some x)
  (o : ResultOutcome) (d : Nat)
include before look

theorem endFlight_ended : FlightEnded s k x (u.endFlight k o d).finish o d := by
  have look' : u.gate.transit.look k = some x := (before.lookTransit_eq (by decide) k).trans look
  refine ⟨?_, fun j other => ?_, fun st party present => ?_⟩
  · rw [(finish_touches _).lookTransit_eq (by decide), lookTransit_endFlight, if_pos rfl]
  · rw [(finish_touches _).lookTransit_eq (by decide), lookTransit_endFlight, if_neg other, before.lookTransit_eq (by decide)]
  · have party : st = x.origStation ∨ x.signer.map Prod.snd = some st := party.imp_right (fun ⟨op, signed⟩ => by rw [signed]; rfl)
    have told := endFlight_told look' o d party (by rw [before.link_eq (by decide)]; exact present)
    rw [before.outTo_eq (by decide), Touches.resultOf_eq before (by decide)] at told
    exact mem_sent_finish _ told rfl

theorem endFlight_settled (flying : x.state ≠ .awaiting) : FlightSettled s k x (u.endFlight k o d).finish := by
  intro room
  have look' : u.gate.transit.look k = some x := (before.lookTransit_eq (by decide) k).trans look
  have space : u.TransitRoom := by
    have same : u.gate.transit = s.gate.transit := before .transit (by decide)
    rw [TransitRoom, same]
    exact transitRoom_of_withinCapacity room
  have flight (a : Nat) : u.inFlight a = s.inFlight a := before.inFlight_eq (by decide) a
  have landing := landed_touches o d u k x
  have base : Touches beforeTransfer s (u.landed k x o d) := .after landing (by decide) (before.mono (by decide))
  have hand : ∀ b, b ≠ x.area → (u.landed k x o d).hand.look b = s.hand.look b := fun b other =>
    (landed_hand_ne o d u k other).trans (before.lookHand_eq (by decide) b)
  have lists := landed_listsOnly o d u k x
  have last := inFlight_landed_eq_nil o d space look' flying
  rw [flight] at last
  have listed := room.overrideRoom.1
  rw [endFlight_of_landed o d look']
  refine ⟨fun y waits only => ?_, fun y out ost waits owned only => ?_, fun stays => ?_⟩
  · obtain ⟨l, -, waits⟩ := lists.quiescing ((before.lookHand_eq (by decide) _).trans waits)
    have passed := passedTo_of_quiescing base hand listed (last.mpr only) waits
    exact passed
  · exact passedTo_of_takingOver base hand listed (last.mpr only)
      (lists.takingOver ((before.lookHand_eq (by decide) _).trans waits)) ((base.ownerOf_eq (by decide) _).trans owned)
  · have quiet := (lists.isQuiescing x.area).trans (before.isQuiescing_eq (by decide) x.area)
    have same : (u.landed k x o d).quiesced x.area = u.landed k x o d := by
      rcases stays with idle | others
      · exact quiesced_of_idle (quiet.trans idle)
      · exact quiesced_of_flying (fun none_ => others (last.mp none_))
    rw [same]
    exact ⟨fun a => by rw [(finish_touches _).ownerOf_eq (by decide), base.ownerOf_eq (by decide)],
      by rw [(finish_touches _).isQuiescing_eq (by decide), quiet]⟩

end

/-! ### The replies and the deadline -/

section
variable {s : State} {k : Nat} {x : Transit} (look : s.gate.transit.look k = some x) (flying : x.state ≠ .awaiting)
include look flying

theorem finalReply_of_look (o : ResultOutcome) (d : Nat) : s.finalReply k x.tag o d = s.endFlight k o d := by
  simp only [finalReply, replyEntry?_of_look look flying]

/-- R131: the repeat window has passed. -/
theorem busyReply_of_past {w : Nat} (window : x.windowEnd = some w) (past : w < s.now) : s.busyReply k x.tag =
    (s.countGate (fun c => { c with busy := bump c.busy })).endFlight k .failedPlantBusy 0 := by
  simp only [busyReply, replyEntry?_of_look look flying, window, past, Option.map_some, Option.getD_some, decide_true, if_true]

theorem replyDeadlineDue_of_past (past : x.deadline ≤ s.now) : s.replyDeadlineDue k = true := by
  simp only [replyDeadlineDue, ticketWhere, look, Option.map_some, Option.getD_some, flying, past, ne_eq, not_false_eq_true,
    and_self, decide_true]

end

end State

open State

theorem exec_reply_of_final {s : State} (on : s.running = true) {k : Nat} {x : Transit}
    (look : s.gate.transit.look k = some x) (flying : x.state ≠ .awaiting) :
    exec (.replyDone k x.tag) s = .next (s.fresh.serveLink.endFlight k .done 0).finish ∧
      ∀ c, exec (.replyRefused k x.tag c) s = .next (s.fresh.serveLink.endFlight k .refusedByPlant c).finish := by
  have look' : s.fresh.serveLink.gate.transit.look k = some x := (serveLink_touches _ |>.lookTransit_eq (by decide) k).trans look
  constructor
  · rw [← finalReply_of_look look' flying]
    exact (plantEvent_of_running on (fun s => s.replyFrame k x.tag 1 0 0)).trans
      (by rw [replyFrame_of_sound _ (by decide)]; rfl)
  · intro c
    rw [← finalReply_of_look look' flying]
    exact (plantEvent_of_running on (fun s => s.replyFrame k x.tag 2 0 c)).trans
      (by rw [replyFrame_of_sound _ (by simp [replyFaulty])]; rfl)

end Sys2Proof.Machine

open Sys2Proof.Machine State in
/-- Settles O41: each way ends the command alike, and the area's wait is looked at then. -/
theorem commandInFlightEnds : Obligations.CommandInFlightEnds := by
  unfold Obligations.CommandInFlightEnds
  intro s k x on look flying
  have served := s.fresh.serveLink_touches
  have arriving : Touches beforeFlight s s.fresh.serveLink := .after served (by decide) s.fresh_touches
  obtain ⟨done, refused⟩ := exec_reply_of_final on look flying
  refine ⟨⟨_, done, endFlight_ended arriving look _ _, endFlight_settled arriving look _ _ flying, ?_⟩,
    fun c => ⟨_, refused c, endFlight_ended arriving look _ _, endFlight_settled arriving look _ _ flying, ?_⟩,
    fun w window past => ?_, fun past => ?_⟩
  · exact .after (finish_touches _) (by decide) (.after (endFlight_touches _ k _ _) (by decide) (served.mono (by decide)))
  · exact .after (finish_touches _) (by decide) (.after (endFlight_touches _ k _ _) (by decide) (served.mono (by decide)))
  · have counted := s.fresh.serveLink.countGate_touches (fun c => { c with busy := bump c.busy })
    have arriving' := Touches.after counted (l := beforeFlight) (by decide) arriving
    have look' : s.fresh.serveLink.gate.transit.look k = some x := (served.lookTransit_eq (by decide) k).trans look
    have now : s.fresh.serveLink.now = s.now := served.now_eq (by decide)
    have busy := exec_replyBusy on k x.tag
    rw [busyReply_of_past look' flying window (by rw [now]; exact past)] at busy
    have ending := endFlight_touches (s.fresh.serveLink.countGate (fun c => { c with busy := bump c.busy })) k .failedPlantBusy 0
    refine ⟨_, busy, endFlight_ended arriving' look _ _, endFlight_settled arriving' look _ _ flying, ?_,
      .after (finish_touches _) (by decide) (.after ending (by decide) (.after counted (by decide) (served.mono (by decide))))⟩
    rw [((finish_touches _) .countersG (by decide) : _ = _), (ending .countersG (by decide) : _ = _)]
    exact congrArg (fun c : CountersG => { c with busy := bump c.busy }) (served .countersG (by decide))
  · have look' : s.fresh.gate.transit.look k = some x := look
    have counted := s.fresh.countGate_touches (fun c => { c with noReply := bump c.noReply })
    have arriving' := Touches.after counted (l := beforeFlight) (by decide) s.fresh_touches
    have due := replyDeadlineDue_of_past look' flying past
    have missing : s.fresh.replyMissing k =
        (s.fresh.countGate (fun c => { c with noReply := bump c.noReply })).endFlight k .failedNoReply x.extensions := by
      simp only [replyMissing, look']
    have expired := timerEvent_of_due (due := fun s => s.replyDeadlineDue k) on due (fun s => s.replyMissing k)
    rw [missing] at expired
    have ending := endFlight_touches (s.fresh.countGate (fun c => { c with noReply := bump c.noReply })) k .failedNoReply x.extensions
    refine ⟨_, expired, endFlight_ended arriving' look _ _, endFlight_settled arriving' look _ _ flying, ?_,
      .after (finish_touches _) (by decide) (.after ending (by decide) (counted.mono (by decide)))⟩
    rw [((finish_touches _) .countersG (by decide) : _ = _), (ending .countersG (by decide) : _ = _)]
    rfl
end

section
/-! PROOFS. Whatever is forwarded for the first time is entitled (R128, R144): only a COMMAND and an AGREE forward, and their
checks have just been passed. -/

namespace Sys2Proof.Machine

/-- Only these rows say FORWARD. -/
theorem forwarding_rows (i : Instr) (forwards : Part.said .forward ∈ footprint i) :
    (∃ h tag code v rsv, i = .command h tag code v rsv) ∨ (∃ h k tag rsv, i = .countersignAgree h k tag rsv) ∨
      ∃ k, i = .reSend k := by
  cases i with
  | command h tag code v rsv => exact .inl ⟨h, tag, code, v, rsv, rfl⟩
  | countersignAgree h k tag rsv => exact .inr (.inl ⟨h, k, tag, rsv, rfl⟩)
  | reSend k => exact .inr (.inr ⟨k, rfl⟩)
  | malformedContent c =>
    cases c with
    | notice | reply =>
      refine absurd forwards ?_
      change _ ∉ ite _ _ _
      split <;> decide
  | _ => exact absurd forwards (of_decide_eq_false rfl)

/-! ### Where a FORWARD comes from -/

/-- What is said of a sort that a step does not say was said before it. -/
theorem Touches.said_before {l : List Part} {s t : State} (h : Touches l s t) {o : Out} (hl : Part.said o.kind ∉ l)
    (ho : o ∈ t.said) : o ∈ s.said := by
  have same : t.saidOf o.kind = s.saidOf o.kind := h _ hl
  exact (s.mem_saidOf.mp (same ▸ t.mem_saidOf.mpr ⟨ho, rfl⟩)).1

namespace State

theorem said_of_sent {s : State} {o : Out} (sent : o ∈ s.sent) : o ∈ s.said :=
  List.mem_append_left _ (List.mem_append_left _ sent)

theorem said_fresh (s : State) : s.fresh.said = [] := rfl

section
variable {s : State} {o : Out} (forward : o.kind = .forward)
include forward

theorem not_said_arrived (h : Hdr) : o ∉ (arrived s h).said := fun said => by
  have before := (arrived_touches s h).said_before (by rw [forward]; decide) said
  simp [said_fresh] at before

theorem said_of_sent_finish_answer {h : Hdr} {a : Ans} (sent : o ∈ (s.finish.answer h a).sent) : o ∈ s.said :=
  (finish_answer_eq s h a).said_before (by rw [forward]; decide) (said_of_sent sent)

/-- R127, R128: a COMMAND says the FORWARD of the entry it creates, if any. -/
theorem said_createTransit {op st tag : Nat} {r : TagRec} {act : Action} {v : BitVec 32} (unsaid : o ∉ s.said)
    (said : o ∈ (s.createTransit op st tag r act v).said) : ¬ (r.cls = 4 ∧ s.keySupervisor op st = false) ∧
      o = s.forwardMsg s.ticketNow (s.forwardedNow (s.newTransit op st tag r act v)) false := by
  by_cases asks : r.cls = 4 ∧ s.keySupervisor op st = false
  · exact absurd ((createTransit_touches_of_asking asks).said_before (by rw [forward]; decide) said) unsaid
  · refine ⟨asks, ?_⟩
    rw [createTransit_of_free asks] at said
    have said := (appendItem_touches _ _ _ _).said_before (by simp) said
    rw [forwardEntry_of_look (lookTransit_ticketed _ _ _)] at said
    rcases (said_say _ _).mp said with before | now
    · exact absurd before unsaid
    · exact List.mem_singleton.mp now

/-- R144: an agreement says the FORWARD of its entry. -/
theorem said_agreed {k op st : Nat} {x : Transit} (look : s.gate.transit.look k = some x) (unsaid : o ∉ s.said)
    (said : o ∈ (s.agreed k x op st).said) : o = s.forwardMsg k (s.forwardedNow { x with signer := some (op, st) }) false := by
  rw [agreed_eq look] at said
  rcases (said_say _ _).mp said with said | closed
  · rcases (said_say _ _).mp said with before | now
    · exact absurd before unsaid
    · exact List.mem_singleton.mp now
  · have notice := kind_closedMsgs s _ closed
    rw [forward] at notice
    exact absurd notice (by decide)

end

/-! ### The originator -/

theorem recheck_none {s : State} {x : Transit} (clear : s.recheck x = none) : s.logonAt x.origStation = some x.origOp ∧
    3 ≤ s.levelOf x.origOp x.area ∧ s.ownerOf x.area = some (x.origOp, x.origStation) := by
  unfold recheck at clear
  split at clear
  · simp at clear
  split at clear
  · simp at clear
  split at clear
  · simp at clear
  case isFalse logged level owner => exact ⟨not_not.mp logged, by omega, not_not.mp owner⟩

/-- R27: the operator at the owner's station is the owner. -/
theorem owner_of_isOwnerStation {s : State} (e : s.OwnersEntitled) {st a op : Nat} (logged : s.logonAt st = some op)
    (station : s.isOwnerStation st a = true) : s.ownerOf a = some (op, st) := by
  obtain ⟨⟨op', st'⟩, owned, rfl⟩ := Option.map_eq_some_iff.mp (of_decide_eq_true station)
  have there := ((ownersEntitled_iff.mp e).owners a op' st' owned).1
  cases logged.symm.trans there
  exact owned

/-- R128, R144: what O11 asks of a forwarded entry. -/
structure Entitles (s : State) (x : Transit) : Prop where
  logged : s.logonAt x.origStation = some x.origOp
  owner : s.ownerOf x.area = some (x.origOp, x.origStation) ∨ s.keySupervisor x.origOp x.origStation = true
  signed : ∀ r, s.tagRec? x.tag = some r → classLevel r.cls ≤ s.levelOf x.origOp x.area ∧
    (r.cls = 4 → s.keySupervisor x.origOp x.origStation = true ∨
      ∃ op st, x.signer = some (op, st) ∧ op ≠ x.origOp ∧ st ≠ x.origStation ∧ s.logonAt st = some op ∧
        3 ≤ s.levelOf op x.area)

theorem entitles_forwardedNow {s u : State} {x : Transit} (h : Entitles s x) : Entitles s (u.forwardedNow x) :=
  ⟨h.logged, h.owner, h.signed⟩

theorem entitles_of_touches {l : List Part} {s u : State} {x : Transit} (touched : Touches l s u) (hr : .roster ∉ l)
    (hs : .stations ∉ l) (hl : .logon ∉ l) (hk : .key ∉ l) (ho : .owner ∉ l) (ht : .tags ∉ l) (h : Entitles u x) :
    Entitles s x := by
  obtain ⟨logged, owner, signed⟩ := h
  rw [touched.logonAt_eq hl] at logged
  rw [touched.ownerOf_eq ho, touched.keySupervisor_eq hk hr hs hl] at owner
  refine ⟨logged, owner, fun r record => ?_⟩
  have signed := signed r ((touched.tagRec?_eq ht _).trans record)
  simpa only [touched.levelOf_eq hr, touched.keySupervisor_eq hk hr hs hl, touched.logonAt_eq hl] using signed

theorem entitles_newTransit {s : State} (e : s.OwnersEntitled) {st tag code op : Nat} {act : Action} {r : TagRec}
    (fits : s.CommandFits st tag code op act r) (free : ¬ (r.cls = 4 ∧ s.keySupervisor op st = false)) (v : BitVec 32) :
    Entitles s (s.newTransit op st tag r act v) := by
  refine ⟨fits.logged, fits.owner.imp_left (owner_of_isOwnerStation e fits.logged), fun r' record => ?_⟩
  cases fits.record.symm.trans record
  refine ⟨fits.level, fun four => .inl ?_⟩
  by_contra off
  have off : ¬ s.keySupervisor op st = true := off
  exact free ⟨four, by simpa using off⟩

theorem entitles_agreed {s : State} {st k tag op : Nat} {x : Transit} (fits : s.SignerFits st k tag op x)
    (clear : s.recheck x = none) : Entitles s { x with signer := some (op, st) } := by
  obtain ⟨logged, level, owner⟩ := recheck_none clear
  refine ⟨logged, .inl owner, fun r _ => ⟨Nat.le_trans (Nat.min_le_right _ _) level, fun _ => .inr ?_⟩⟩
  exact ⟨op, st, rfl, fits.other.1, fits.other.2, fits.logged, fits.level⟩

/-! ### The requests that forward -/

section
variable {s : State} {h : Hdr} {o : Out} (forward : o.kind = .forward)
include forward

theorem said_of_sent_handle {f : State → State × Ans} (sent : o ∈ (s.handle h f).sent) : o ∈ (f s).1.said := by
  rcases s.handle_cases h f with ⟨done, -⟩ | ⟨refused, -⟩
  · rw [done] at sent
    exact said_of_sent_finish_answer forward sent
  · rw [refused] at sent
    exact (answer_touches _ h _).said_before (by rw [forward]; decide) (said_of_sent sent)

/-- R183, R184: a request that forwards has been handed on; what answers it there, or discards it, forwards nothing. -/
theorem handled_of_forward {f : State → State × Ans} {t : State} (next : requestEvent h f s = .next t) (sent : o ∈ t.sent) :
    t = (arrived s h).handle h f := by
  unfold requestEvent at next
  rcases event_cases (fun s => s.request h (fun s => s.handle h f)) s with ⟨off, -⟩ | ⟨on, -⟩
  · cases off.symm.trans next
    simp at sent
  · cases on.symm.trans next
    unfold request at sent ⊢
    rcases s.fresh.receive_cases h (fun s => if h.rsv ≠ 0 then s.answer h (ans .reserved) else s.handle h f) with
      ⟨c, stranger⟩ | admitted
    · rw [stranger] at sent
      have before := (countA_touches s.fresh c).said_before (by rw [forward]; decide) (said_of_sent sent)
      simp [said_fresh] at before
    · rw [admitted] at sent ⊢
      split
      case isTrue reserved =>
        rw [if_pos reserved] at sent
        have before := (answer_touches _ h _).said_before (by rw [forward]; decide) (said_of_sent sent)
        exact absurd before (not_said_arrived forward h)
      case isFalse => rfl

end

/-- R132: a re-send forwards with the repeat flag only. -/
theorem not_first_of_reSend {s t : State} {k j tag badge signBadge : Nat} {act : Action} {v : BitVec 32} {key : Bool}
    (next : exec (.reSend j) s = .next t) : .plant (.forward k tag act v badge signBadge key false) ∉ t.sent := fun sent => by
  have next : timerEvent (fun s => s.resendDue j) (fun s => s.resend j) s = .next t := next
  unfold timerEvent at next
  rcases event_cases (fun s => if s.resendDue j then (s.resend j).finish else s) s with ⟨off, -⟩ | ⟨on, -⟩
  · cases off.symm.trans next
    simp at sent
  · cases on.symm.trans next
    split at sent
    · have said := (finish_touches _).said_before (by change Part.said .forward ∉ endParts; decide) (said_of_sent sent)
      unfold resend at said
      split at said
      · rw [said_fresh] at said
        simp at said
      · rcases (said_say _ _).mp said with before | now
        · have before : _ ∈ s.fresh.said := before
          simp [said_fresh] at before
        · simp [forwardMsg] at now
    · simp at sent

/-- R128, R144: the message is the FORWARD of an entitled entry, which stands FORWARDED under its ticket. -/
def IsEntitledForward (u t : State) (o : Out) : Prop :=
  ∃ j x, o = u.forwardMsg j (u.forwardedNow x) false ∧ t.gate.transit.look j = some (u.forwardedNow x) ∧ Entitles u x

/-- What the FORWARD of an entitled entry, at the arrival of its request, says of the state before. -/
theorem entitled_of_message {s t : State} {h : Hdr} {k tag badge signBadge : Nat} {act : Action} {v : BitVec 32}
    {key : Bool}
    (entitled : IsEntitledForward (arrived s h) t (.plant (.forward k tag act v badge signBadge key false))) :
    ∃ x, t.gate.transit.look k = some x ∧ x.state = .forwarded ∧ x.tag = tag ∧ x.action = act ∧ x.value = v ∧
      x.key = key ∧ x.deadline = s.now + s.baseTime tag ∧
      badge = s.badgeOf x.origOp ∧ signBadge = (x.signer.map (fun y => s.badgeOf y.1)).getD 0 ∧ Entitles s x := by
  have touched := arrived_touches s h
  generalize arrived s h = u at entitled touched
  obtain ⟨j, x, message, look, entitles⟩ := entitled
  have entitled : Entitles s.fresh (u.forwardedNow x) := entitles_forwardedNow
    (entitles_of_touches touched (by decide) (by decide) (by decide) (by decide) (by decide) (by decide) entitles)
  have now : u.now = s.now := touched.now_eq (by decide)
  have base : u.baseTime x.tag = s.baseTime x.tag := touched.baseTime_eq (by decide) _
  have badges : u.badgeOf = s.badgeOf := funext (touched.badgeOf_eq (by decide))
  cases message
  refine ⟨_, look, rfl, rfl, rfl, rfl, rfl, ?_, congrFun badges _, ?_,
    ⟨entitled.logged, entitled.owner, entitled.signed⟩⟩
  · rw [← now]
    exact congrArg (u.now + ·) base
  · rw [badges]

end State

open State

/-- R122, R128: a COMMAND that forwards has passed its checks. -/
theorem entitled_of_command {s t : State} {h : Hdr} {tag' code rsv k tag badge signBadge : Nat} {act : Action}
    {v v' : BitVec 32} {key : Bool} (e : s.OwnersEntitled) (next : exec (.command h tag' code v' rsv) s = .next t)
    (sent : .plant (.forward k tag act v badge signBadge key false) ∈ t.sent) :
    IsEntitledForward (arrived s h) t (.plant (.forward k tag act v badge signBadge key false)) := by
  have handled := handled_of_forward (f := fun s => s.takeCommand h.station tag' code v' rsv) rfl next sent
  have entitled := ownersEntitled_arrived e h
  have unsaid := not_said_arrived (s := s) (o := .plant (.forward k tag act v badge signBadge key false)) rfl h
  subst handled
  generalize arrived s h = u at *
  have said := said_of_sent_handle rfl sent
  rcases u.takeCommand_cases h.station tag' code v' rsv with ⟨same, -⟩ | ⟨op, act', r, -, fits, created⟩
  · exact absurd (same ▸ said) unsaid
  · have done : u.handle h (fun s => s.takeCommand h.station tag' code v' rsv) = _ := handle_of_changes created rfl
    simp only [created] at said
    obtain ⟨free, message⟩ := said_createTransit rfl unsaid said
    refine ⟨u.ticketNow, u.newTransit op h.station tag' r act' v', message, ?_,
      entitles_newTransit entitled fits free v'⟩
    rw [done, (finish_answer_eq _ h _).lookTransit_eq (by decide), (u.createTransit_gate _ _ _ _ _ _).2, if_pos rfl,
      createdTransit, if_neg free]

/-- R142, R144: a COUNTERSIGN that forwards is an agreement of an eligible signer, and the re-check of the originator has
found no fault. -/
theorem entitled_of_agree {s t : State} {h : Hdr} {j tag' rsv k tag badge signBadge : Nat} {act : Action}
    {v : BitVec 32} {key : Bool} (next : exec (.countersignAgree h j tag' rsv) s = .next t)
    (sent : .plant (.forward k tag act v badge signBadge key false) ∈ t.sent) :
    IsEntitledForward (arrived s h) t (.plant (.forward k tag act v badge signBadge key false)) := by
  have handled := handled_of_forward (f := fun s => s.takeAgree h.station j tag' rsv) rfl next sent
  have unsaid := not_said_arrived (s := s) (o := .plant (.forward k tag act v badge signBadge key false)) rfl h
  subst handled
  generalize arrived s h = u at *
  have said := said_of_sent_handle rfl sent
  cases checks : u.countersignChecks h.station j tag' rsv with
  | error a =>
    simp only [takeAgree, checks] at said
    exact absurd said unsaid
  | ok signed =>
    obtain ⟨op, x⟩ := signed
    obtain ⟨rfl, fits⟩ := u.countersignChecks_ok.mp checks
    cases clear : u.recheck x with
    | some c =>
      simp only [takeAgree_of_failed fits clear] at said
      have before := (u.endAwaiting_touches j .refused c.number .refused (some h.station) (some h.station)).said_before
        (by change Part.said .forward ∉ waitingParts; decide) said
      exact absurd before unsaid
    | none =>
      have agreed := takeAgree_of_agreed fits clear
      have done : u.handle h (fun s => s.takeAgree h.station j tag' 0) = _ := handle_of_changes agreed rfl
      simp only [agreed] at said
      refine ⟨j, { x with signer := some (op, h.station) }, said_agreed rfl fits.look unsaid said, ?_,
        entitles_agreed fits clear⟩
      rw [done, (finish_answer_eq _ h _).lookTransit_eq (by decide), lookTransit_agreed fits.look, if_pos rfl]

/-- R128, R144: whatever the command, a first FORWARD is of a COMMAND or an agreement. -/
theorem request_of_forward {i : Instr} {s t : State} {k tag badge signBadge : Nat} {act : Action} {v : BitVec 32} {key : Bool}
    (e : s.OwnersEntitled) (next : exec i s = .next t)
    (sent : .plant (.forward k tag act v badge signBadge key false) ∈ t.sent) :
    ∃ h, IsEntitledForward (arrived s h) t (.plant (.forward k tag act v badge signBadge key false)) := by
  by_cases forwards : Part.said .forward ∈ footprint i
  · rcases forwarding_rows i forwards with ⟨h, _, _, _, _, rfl⟩ | ⟨h, _, _, _, rfl⟩ | ⟨_, rfl⟩
    · exact ⟨h, entitled_of_command e next sent⟩
    · exact ⟨h, entitled_of_agree next sent⟩
    · exact absurd sent (not_first_of_reSend next)
  · obtain ⟨t', next', touched⟩ := commandsKeepToTheirFootprint i s
    cases next.symm.trans next'
    have before := touched.said_before (o := .plant (.forward k tag act v badge signBadge key false)) forwards
      (said_of_sent sent)
    simp [said_fresh] at before

end Sys2Proof.Machine

open Sys2Proof.Machine State in
/-- Settles O11: the FORWARD comes from the checks of a COMMAND or of an agreement, which read the state at its arrival. -/
theorem forwardedCommandsAreEntitled : Obligations.ForwardedCommandsAreEntitled := by
  intro i s t k tag badge signBadge act v key e next sent
  obtain ⟨h, forwards⟩ := request_of_forward e next sent
  obtain ⟨y, look, state, rfl, action, value, byKey, deadline, badge, signBadge, entitled⟩ :=
    entitled_of_message forwards
  exact ⟨y, look, state, rfl, action, value, byKey, deadline, badge, signBadge, entitled.logged, entitled.owner,
    entitled.signed⟩
end
